-- ==== Sys2Proof/Word.lean ====
section
/-! DEFINITION. The widths in which the manual counts bits: bytes of the link and of the stored forms, and fields
of two and four bytes (R182). Quantities that the manual counts (watts, volumes, temperatures) are `Nat` or `Int`. -/

namespace Sys2Proof

/-- One byte of a frame, of a stored form or of a node's status. -/
abbrev Byte := BitVec 8

/-- A field of two bytes, and the sixteen flags of a notice set. -/
abbrev Half := BitVec 16

/-- A field of four bytes. -/
abbrev Quad := BitVec 32

end Sys2Proof
end

