-- ==== Sys2Proof/Syntax.lean ====
section
/-! DEFINITION. The names the manual writes in capitals, the wire forms of request fields, and `Instr`: one constructor
for each row of spec/opcode_table.json. Request fields are kept as the raw bytes of R183, because the owners judge
them (R158). -/

namespace Sys2Proof

/-- Heating modes (R1). -/
inductive HeatMode
  | conventional | bottom | hotAir | hotAirBottom | grill | grillFan | steam | combi
deriving DecidableEq, Repr

/-- The four cavity elements (R1). -/
inductive Element
  | top | bottom | ring | grill
deriving DecidableEq, Repr

/-- Climate states (section 1.3). -/
inductive ClimateState
  | off | preheat | regulate | doorPause | coolRun
deriving DecidableEq, Repr

/-- Operating modes (R137). -/
inductive OpMode
  | starting | active | hold | standbyPending | standby | safeStop
deriving DecidableEq, Repr

/-- Mains frequency class (R24). -/
inductive FreqClass
  | unknown | hz50 | hz60
deriving DecidableEq, Repr

/-- Boiler states (R62). -/
inductive BoilerState
  | empty | filling | fillPaused | heating | ready | steaming | topping | coolWait | draining | fault
deriving DecidableEq, Repr

/-- Purposes of fills and drains (R63). -/
inductive Purpose
  | normal | topup | blowdown | flush | dose | rinse
deriving DecidableEq, Repr

/-- Boiler owner (R64). -/
inductive Owner
  | none | cooking | descale
deriving DecidableEq, Repr

/-- Pause reason of FILL_PAUSED (R68). -/
inductive PauseReason
  | tankOut | noWater
deriving DecidableEq, Repr

/-- Descale phases, working and stored (R99). -/
inductive DescalePhase
  | idle | awaitSolution | drainFirst | dose | warm | soak | soakDrain | awaitRinseWater | rinse
deriving DecidableEq, Repr

/-- Prompt reason of the descale sequencer (R99). -/
inductive PromptReason
  | start | tankEmpty | rinseWater
deriving DecidableEq, Repr

/-- Rinse step (R99, R109). -/
inductive RinseStep
  | fill | heat | drain
deriving DecidableEq, Repr

/-- Last outcome of a descale procedure (R99). -/
inductive DescaleOutcome
  | none | completed | aborted | recovered
deriving DecidableEq, Repr

/-- Executor states (R121). -/
inductive ProgramState
  | empty | loaded | running | waiting | paused | boundaryWait | ended | aborted
deriving DecidableEq, Repr

/-- Wait or pause reason of the executor (R121). -/
inductive WaitReason
  | prompt | probeLost | steamFault | water | host | mains
deriving DecidableEq, Repr

/-- Stage step (R121). -/
inductive StageStep
  | notBegun | preheating | counting | finished
deriving DecidableEq, Repr

/-- End condition of a stage (R118, R126). -/
inductive EndCondition
  | time | core | timeOrCore | confirm
deriving DecidableEq, Repr

/-- Prompt point of a stage (R118). -/
inductive PromptPoint
  | none | atStart | afterPreheat | atEnd
deriving DecidableEq, Repr

/-- End action of a program (R117). -/
inductive EndAction
  | stop | hold
deriving DecidableEq, Repr

/-- Node kinds (R40), with NONE of the node map (R41). -/
inductive NodeKind
  | none | cavityTemp | coreProbe | humidity | boiler | waterTank | door | vent
deriving DecidableEq, Repr

/-- The fetch named in a poll (R40). -/
inductive Fetch
  | main | alt | stats | ident
deriving DecidableEq, Repr

/-- The fetch selector of an entry (R42). -/
inductive Selector
  | main | alt | stats
deriving DecidableEq, Repr

/-- Link state of an entry (R46). -/
inductive LinkState
  | absent | linked | lost
deriving DecidableEq, Repr

/-- Identity variant (R40). -/
inductive Variant
  | standard | single | multi
deriving DecidableEq, Repr

/-- Capture style (R171). -/
inductive CaptureStyle
  | oneShot | continuous
deriving DecidableEq, Repr

/-- Source of a served value (R176). -/
inductive SettingSource
  | stored | queued | defaults
deriving DecidableEq, Repr

/-- Fault kinds (section 8.5). -/
inductive FaultKind
  | cavityOvertemp | cavityNodeLost | doorNodeLost | nodeMap | fanStall | boilerOverheat | boilerNodeLost
  | tankNodeLost | fillFault | drainTimeout | storeDefaulted
deriving DecidableEq, Repr

/-- Fault classes (R146). -/
inductive FaultClass
  | critical | cavityHeat | steam | warning
deriving DecidableEq, Repr

/-- Notice kinds (R167). -/
inductive Notice
  | stageChange | prompt | programEnd | preheatReached | doorChange | waterNeeded | descaleDue | descaleStep
  | descaleDone | fault | nodeChange | watchChange | captureTaken | holdEnd | scanDone | storeDefaulted
deriving DecidableEq, Repr

/-- Result codes (R157). -/
inductive ResultCode
  | ok | clamped | unknownKind | badLength | badValue | refusedMode | refusedState | busy | notReady | locked
  | faultActive
deriving DecidableEq, Repr

/-- How a blowdown request was settled (R91). -/
inductive Settlement
  | completed | abandoned | endedWithout | refused | withdrawn
deriving DecidableEq, Repr

/-- Vent target (R16). -/
inductive VentTarget
  | opened | closed
deriving DecidableEq, Repr

/-- Steps of the start-up sequence (R181). -/
inductive StartupStep
  | load | frequency | discovery | water | done
deriving DecidableEq, Repr

/-- The climate block of CLIMATE_SET and of a stage record, as sent (section 12.4). -/
structure ClimateBlock where
  mode : Byte
  setpoint : Half
  fan : Byte
  humidityPresence : Byte
  humidity : Byte
  pulsePresence : Byte
  pulsePeriod : Half
  pulseOnTime : Half
  deltaPresence : Byte
  delta : Half
deriving DecidableEq, Repr

/-- The stage record of STAGE_APPEND, as sent (section 12.4). -/
structure StageBlock where
  climate : ClimateBlock
  endCondition : Byte
  duration : Quad
  coreTarget : Half
  promptPoint : Byte
  promptCode : Byte
  flags : Byte
deriving DecidableEq, Repr

/-- The value field of SETTING_PUT: five bytes (R184). -/
structure ValueField where
  b0 : Byte
  b1 : Byte
  b2 : Byte
  b3 : Byte
  b4 : Byte
deriving DecidableEq, Repr

/-- A whole ring frame that arrived in the reply window: the bytes before its check, its CRC-8 (R44), and the fields
those bytes carry. The manual gives no layout of ring frames; log entry 11. A reading uses `value`, an identity uses
`kind`, `variant` and `serial`; both carry `status`. -/
structure RingReply where
  body : List Byte
  crc : Byte
  address : Nat
  fetch : Fetch
  value : Half
  status : Byte
  kind : NodeKind
  variant : Variant
  serial : Quad
deriving DecidableEq, Repr

/-- A request with its fields as sent (R183): what the host asks and what the direct request commands submit. -/
inductive Request
  | ping
  | reset
  | statusGet
  | linkStats
  | settingGet (item : Byte)
  | settingPut (item : Byte) (value : ValueField)
  | storeDefaults
  | climateSet (block : ClimateBlock)
  | climateOff
  | programClear (endAction : Byte) (holdSetpoint : Half) (moist : Byte)
  | stageAppend (stage : StageBlock)
  | stageGet (index : Byte)
  | programStart (presence : Byte) (index : Byte)
  | programPause
  | programResume
  | programAbort
  | stageConfirm
  | stageSkip
  | boilerDrain
  | scaleGet
  | descaleStart (presence : Byte) (minutes : Byte)
  | descaleConfirm
  | descaleAbort
  | descaleGet
  | holdEnter (setpoint : Half) (moist : Byte)
  | holdExit (abort : Byte)
  | standbyEnter
  | stop
  | faultGet
  | faultClear (kind : Byte)
  | nodeGet (address : Byte)
  | nodeSet (address : Byte) (masked : Byte) (selector : Byte) (watch : Byte) (threshold : Half)
  | counterGet (zero : Byte)
  | noticeGet (clear : Half)
  | noticeEnable (enable : Half)
  | captureGet
  | captureArm (trigger : Half) (style : Byte)
  | captureRelease (disarm : Byte)
deriving DecidableEq, Repr

/-- The commands of the part: one constructor for each row of spec/opcode_table.json, in the table's order. -/
inductive Instr
  | powerOnReset
  | resetWaitEnd
  | rxByte (byte : Byte) (stopGood : Bool)
  | rxGapTimeout
  | requestTake
  | transmitEnd
  | reportTimerExpiry
  | attnReassertEnd
  | ping
  | reset
  | statusGet
  | linkStats
  | settingGet (item : Byte)
  | settingPut (item : Byte) (value : ValueField)
  | storeDefaults
  | climateSet (block : ClimateBlock)
  | climateOff
  | programClear (endAction : Byte) (holdSetpoint : Half) (moist : Byte)
  | stageAppend (stage : StageBlock)
  | stageGet (index : Byte)
  | programStart (presence : Byte) (index : Byte)
  | programPause
  | programResume
  | programAbort
  | stageConfirm
  | stageSkip
  | boilerDrain
  | scaleGet
  | descaleStart (presence : Byte) (minutes : Byte)
  | descaleConfirm
  | descaleAbort
  | descaleGet
  | holdEnter (setpoint : Half) (moist : Byte)
  | holdExit (abort : Byte)
  | standbyEnter
  | stop
  | faultGet
  | faultClear (kind : Byte)
  | nodeGet (address : Byte)
  | nodeSet (address : Byte) (masked : Byte) (selector : Byte) (watch : Byte) (threshold : Half)
  | counterGet (zero : Byte)
  | noticeGet (clear : Half)
  | noticeEnable (enable : Half)
  | captureGet
  | captureArm (trigger : Half) (style : Byte)
  | captureRelease (disarm : Byte)
  | zeroCrossing (gap : Nat)
  | windowBoundary (gap : Nat)
  | frequencyMeasured (gap : Nat)
  | freqMeasureTimeout
  | mainsLossOnset
  | mainsReturn (gap : Nat)
  | flowPulse
  | tachPulse
  | climatePeriodExpiry
  | pulseTimerTick
  | ventDriveTimeout
  | scanTimerExpiry
  | nodeReply (frame : RingReply)
  | replyWindowExpiry
  | fillTimeout
  | drainTimerExpiry
  | runOnExpiry
  | coolWaitExpiry
  | idleDrainExpiry
  | levelDelayExpiry
  | lullTimerExpiry
  | soakTimerExpiry
  | stageTimerTick
  | holdTimerExpiry
  | storeWriteComplete
deriving DecidableEq, Repr

end Sys2Proof
end

