-- ==== Sys2Proof/Decode.lean ====
section
/-! DEFINITION. The word-to-command decoder of the opcode table. spec/opcode_table.json gives no row any bits ("fields": [],
no match and no mask), so no word spells a command. The host's frames are decoded in `Machine/Operands.lean` (R182, R183). -/

namespace Sys2Proof

/-- The command that a word of the opcode table spells: none, because the table gives its rows no bits. -/
def decodeTableWord (_nbits _w : Nat) : Option Instr := none

end Sys2Proof
end

