-- ==== Sys2Proof/Machine/Bytes.lean ====
section
/-! DEFINITION. Arithmetic conventions of section 3.2 (clamping, saturating counters, truncation), fields of two and four
bytes (R182), and the two checks: CRC-8 of ring frames and stored items (R44, R178) and CRC-16 of link frames (R154). -/

namespace Sys2Proof.Machine

/-- Section 3.2: limit a value to a closed range. -/
def clampInt (lo hi v : Int) : Int := if v < lo then lo else if hi < v then hi else v

/-- Section 3.2: limit a value to a closed range. -/
def clampNat (lo hi v : Nat) : Nat := if v < lo then lo else if hi < v then hi else v

/-- Section 3.2: a saturating counter stops at its stated maximum. -/
def bump (max n : Nat) : Nat := if n < max then n + 1 else max

/-- The bit of a flag field, `n` from 0 (R182). -/
def flagBit (n : Nat) (b : Bool) : Nat := if b then 2 ^ n else 0

/-- The high byte of a two-byte field, sent first (R182). -/
def hiByte (h : Half) : Byte := h.extractLsb' 8 8

/-- The low byte of a two-byte field (R182). -/
def loByte (h : Half) : Byte := h.extractLsb' 0 8

/-- A two-byte field from its bytes in the order sent (R182). -/
def halfOf (hi lo : Byte) : Half := hi ++ lo

/-- A four-byte field from its bytes in the order sent (R182). -/
def quadOf (a b c d : Byte) : Quad := a ++ b ++ c ++ d

/-- The bytes of a two-byte field (R182). -/
def halfBytes (h : Half) : List Byte := [hiByte h, loByte h]

/-- The bytes of a four-byte field (R182). -/
def quadBytes (q : Quad) : List Byte :=
  [q.extractLsb' 24 8, q.extractLsb' 16 8, q.extractLsb' 8 8, q.extractLsb' 0 8]

/-- One byte of a reply that carries a number or a code. -/
def byteOf (n : Nat) : Byte := BitVec.ofNat 8 n

/-- An unsigned two-byte field (R182). -/
def natBytes (n : Nat) : List Byte := halfBytes (BitVec.ofNat 16 n)

/-- A signed two-byte field (R182). -/
def intBytes (i : Int) : List Byte := halfBytes (BitVec.ofInt 16 i)

/-- R182: a signed field that has no value carries −32768. -/
def optIntBytes (i : Option Int) : List Byte := intBytes (i.getD (-32768))

/-- A one-byte field that may be none carries 0xFF then (R182). -/
def optByte (n : Option Nat) : Byte := byteOf (n.getD 0xFF)

/-- One shift of a CRC-8 with polynomial 0x07 (R44, R178). -/
def crc8Shift (c : Byte) : Byte := if c.msb then (c <<< 1) ^^^ 0x07#8 else c <<< 1

/-- One byte of a CRC-8. -/
def crc8Byte (c b : Byte) : Byte :=
  crc8Shift (crc8Shift (crc8Shift (crc8Shift (crc8Shift (crc8Shift (crc8Shift (crc8Shift (c ^^^ b))))))))

/-- CRC-8: polynomial 0x07, initial value 0x00, not reflected, no final value (R44, R178). -/
def crc8 (bytes : List Byte) : Byte := bytes.foldl crc8Byte 0

/-- One shift of a CRC-16 with polynomial 0x1021 (R154). -/
def crc16Shift (c : Half) : Half := if c.msb then (c <<< 1) ^^^ 0x1021#16 else c <<< 1

/-- One byte of a CRC-16. -/
def crc16Byte (c : Half) (b : Byte) : Half :=
  let x := c ^^^ (b.zeroExtend 16 <<< 8)
  crc16Shift (crc16Shift (crc16Shift (crc16Shift (crc16Shift (crc16Shift (crc16Shift (crc16Shift x)))))))

/-- CRC-16: polynomial 0x1021, initial value 0xFFFF, not reflected, no final value (R154). -/
def crc16 (bytes : List Byte) : Half := bytes.foldl crc16Byte 0xFFFF#16

/-- Replace the element at a place of a list; a place beyond the end changes nothing. -/
def setAt {α : Type} : List α → Nat → α → List α
  | [], _, _ => []
  | _ :: xs, 0, a => a :: xs
  | x :: xs, n + 1, a => x :: setAt xs n a

/-- The element at a place of a list, or the given one beyond the end. -/
def getAt {α : Type} (dflt : α) : List α → Nat → α
  | [], _ => dflt
  | x :: _, 0 => x
  | _ :: xs, n + 1 => getAt dflt xs n

/-- Insert a number into an ascending list, once. -/
def insertAscending (n : Nat) : List Nat → List Nat
  | [] => [n]
  | x :: xs => if n < x then n :: x :: xs else if n = x then x :: xs else x :: insertAscending n xs

end Sys2Proof.Machine
end

