-- ==== Sys2Proof/Machine/Codes.lean ====
section
/-! DEFINITION. The codes of section 12.3 in both directions, the result codes of R157, and the request kinds of R183 with
their codes and lengths. -/

namespace Sys2Proof.Machine

/-- Section 12.3: heating mode. -/
def heatModeCode : HeatMode → Nat
  | .conventional => 0 | .bottom => 1 | .hotAir => 2 | .hotAirBottom => 3
  | .grill => 4 | .grillFan => 5 | .steam => 6 | .combi => 7

/-- Section 12.3: heating mode. -/
def heatModeOf : Nat → Option HeatMode
  | 0 => some .conventional | 1 => some .bottom | 2 => some .hotAir | 3 => some .hotAirBottom
  | 4 => some .grill | 5 => some .grillFan | 6 => some .steam | 7 => some .combi | _ => none

/-- Section 12.3: climate state. -/
def climateStateCode : ClimateState → Nat
  | .off => 0 | .preheat => 1 | .regulate => 2 | .doorPause => 3 | .coolRun => 4

/-- Section 12.3: operating mode. -/
def opModeCode : OpMode → Nat
  | .starting => 0 | .active => 1 | .hold => 2 | .standbyPending => 3 | .standby => 4 | .safeStop => 5

/-- Section 12.3: frequency class. -/
def freqClassCode : FreqClass → Nat
  | .unknown => 0 | .hz50 => 1 | .hz60 => 2

/-- Section 12.3: boiler state. -/
def boilerStateCode : BoilerState → Nat
  | .empty => 0 | .filling => 1 | .fillPaused => 2 | .heating => 3 | .ready => 4
  | .steaming => 5 | .topping => 6 | .coolWait => 7 | .draining => 8 | .fault => 9

/-- Section 12.3: purpose, with 0 for none. -/
def purposeCode : Option Purpose → Nat
  | none => 0
  | some .normal => 1 | some .topup => 2 | some .blowdown => 3 | some .flush => 4 | some .dose => 5 | some .rinse => 6

/-- Section 12.3: boiler owner. -/
def ownerCode : Owner → Nat
  | .none => 0 | .cooking => 1 | .descale => 2

/-- Section 12.3: pause reason. -/
def pauseReasonCode : Option PauseReason → Nat
  | none => 0 | some .tankOut => 1 | some .noWater => 2

/-- Section 12.3: descale phase. -/
def descalePhaseCode : DescalePhase → Nat
  | .idle => 0 | .awaitSolution => 1 | .drainFirst => 2 | .dose => 3 | .warm => 4
  | .soak => 5 | .soakDrain => 6 | .awaitRinseWater => 7 | .rinse => 8

/-- Section 12.3: descale phase. -/
def descalePhaseOf : Nat → Option DescalePhase
  | 0 => some .idle | 1 => some .awaitSolution | 2 => some .drainFirst | 3 => some .dose | 4 => some .warm
  | 5 => some .soak | 6 => some .soakDrain | 7 => some .awaitRinseWater | 8 => some .rinse | _ => none

/-- Section 12.3: prompt reason. -/
def promptReasonCode : Option PromptReason → Nat
  | none => 0 | some .start => 1 | some .tankEmpty => 2 | some .rinseWater => 3

/-- Section 12.3: rinse step. -/
def rinseStepCode : Option RinseStep → Nat
  | none => 0 | some .fill => 1 | some .heat => 2 | some .drain => 3

/-- Section 12.3: last outcome. -/
def outcomeCode : DescaleOutcome → Nat
  | .none => 0 | .completed => 1 | .aborted => 2 | .recovered => 3

/-- Section 12.3: executor state. -/
def programStateCode : ProgramState → Nat
  | .empty => 0 | .loaded => 1 | .running => 2 | .waiting => 3
  | .paused => 4 | .boundaryWait => 5 | .ended => 6 | .aborted => 7

/-- Section 12.3: wait or pause reason. -/
def waitReasonCode : Option WaitReason → Nat
  | none => 0
  | some .prompt => 1 | some .probeLost => 2 | some .steamFault => 3 | some .water => 4 | some .host => 5 | some .mains => 6

/-- Section 12.3: stage step. -/
def stageStepCode : StageStep → Nat
  | .notBegun => 0 | .preheating => 1 | .counting => 2 | .finished => 3

/-- Section 12.3: end condition. -/
def endConditionCode : EndCondition → Nat
  | .time => 0 | .core => 1 | .timeOrCore => 2 | .confirm => 3

/-- Section 12.3: end condition. -/
def endConditionOf : Nat → Option EndCondition
  | 0 => some .time | 1 => some .core | 2 => some .timeOrCore | 3 => some .confirm | _ => none

/-- Section 12.3: prompt point. -/
def promptPointCode : PromptPoint → Nat
  | .none => 0 | .atStart => 1 | .afterPreheat => 2 | .atEnd => 3

/-- Section 12.3: prompt point. -/
def promptPointOf : Nat → Option PromptPoint
  | 0 => some .none | 1 => some .atStart | 2 => some .afterPreheat | 3 => some .atEnd | _ => none

/-- Section 12.3: end action. -/
def endActionOf : Nat → Option EndAction
  | 0 => some .stop | 1 => some .hold | _ => none

/-- Section 12.3: node kind. -/
def nodeKindCode : NodeKind → Nat
  | .none => 0 | .cavityTemp => 1 | .coreProbe => 2 | .humidity => 3
  | .boiler => 4 | .waterTank => 5 | .door => 6 | .vent => 7

/-- Section 12.3: node kind. -/
def nodeKindOf : Nat → Option NodeKind
  | 0 => some .none | 1 => some .cavityTemp | 2 => some .coreProbe | 3 => some .humidity
  | 4 => some .boiler | 5 => some .waterTank | 6 => some .door | 7 => some .vent | _ => none

/-- Section 12.3: fetch selector and alt fetch. -/
def selectorCode : Selector → Nat
  | .main => 0 | .alt => 1 | .stats => 2

/-- Section 12.3: fetch selector. -/
def selectorOf : Nat → Option Selector
  | 0 => some .main | 1 => some .alt | 2 => some .stats | _ => none

/-- Section 12.3: link state. -/
def linkStateCode : LinkState → Nat
  | .absent => 0 | .linked => 1 | .lost => 2

/-- Section 12.3: identity variant. -/
def variantCode : Variant → Nat
  | .standard => 0 | .single => 1 | .multi => 2

/-- Section 12.3: capture style. -/
def captureStyleCode : CaptureStyle → Nat
  | .oneShot => 0 | .continuous => 1

/-- Section 12.3: capture style. -/
def captureStyleOf : Nat → Option CaptureStyle
  | 0 => some .oneShot | 1 => some .continuous | _ => none

/-- Section 12.3: setting source. -/
def sourceCode : SettingSource → Nat
  | .stored => 0 | .queued => 1 | .defaults => 2

/-- Section 12.3: fault kind. -/
def faultCode : FaultKind → Nat
  | .cavityOvertemp => 0 | .cavityNodeLost => 1 | .doorNodeLost => 2 | .nodeMap => 3 | .fanStall => 4
  | .boilerOverheat => 5 | .boilerNodeLost => 6 | .tankNodeLost => 7 | .fillFault => 8 | .drainTimeout => 9
  | .storeDefaulted => 10

/-- Section 12.3: fault kind. -/
def faultOf : Nat → Option FaultKind
  | 0 => some .cavityOvertemp | 1 => some .cavityNodeLost | 2 => some .doorNodeLost | 3 => some .nodeMap
  | 4 => some .fanStall | 5 => some .boilerOverheat | 6 => some .boilerNodeLost | 7 => some .tankNodeLost
  | 8 => some .fillFault | 9 => some .drainTimeout | 10 => some .storeDefaulted | _ => none

/-- The class of a fault kind (section 8.5). -/
def faultClass : FaultKind → FaultClass
  | .cavityOvertemp => .critical | .cavityNodeLost => .critical | .doorNodeLost => .critical | .nodeMap => .critical
  | .fanStall => .cavityHeat
  | .boilerOverheat => .steam | .boilerNodeLost => .steam | .tankNodeLost => .steam | .fillFault => .steam
  | .drainTimeout => .steam
  | .storeDefaulted => .warning

/-- R167: the position of a notice kind in the pending and enable sets. -/
def noticePosition : Notice → Nat
  | .stageChange => 0 | .prompt => 1 | .programEnd => 2 | .preheatReached => 3 | .doorChange => 4
  | .waterNeeded => 5 | .descaleDue => 6 | .descaleStep => 7 | .descaleDone => 8 | .fault => 9
  | .nodeChange => 10 | .watchChange => 11 | .captureTaken => 12 | .holdEnd => 13 | .scanDone => 14
  | .storeDefaulted => 15

/-- R157: the byte of a result code. -/
def resultByte : ResultCode → Byte
  | .ok => 0x00 | .clamped => 0x01 | .unknownKind => 0x10 | .badLength => 0x11 | .badValue => 0x12
  | .refusedMode => 0x13 | .refusedState => 0x14 | .busy => 0x15 | .notReady => 0x16 | .locked => 0x17
  | .faultActive => 0x18

/-- R182: a one-byte single flag or presence byte is 0 or 1; any other value is outside its set. -/
def flagOf (b : Byte) : Option Bool :=
  if b = 0 then some false else if b = 1 then some true else none

/-- The request kinds (R183). -/
inductive ReqKind
  | ping | reset | statusGet | linkStats | settingGet | settingPut | storeDefaults | climateSet | climateOff
  | programClear | stageAppend | stageGet | programStart | programPause | programResume | programAbort
  | stageConfirm | stageSkip | boilerDrain | scaleGet | descaleStart | descaleConfirm | descaleAbort | descaleGet
  | holdEnter | holdExit | standbyEnter | stop | faultGet | faultClear | nodeGet | nodeSet | counterGet
  | noticeGet | noticeEnable | captureGet | captureArm | captureRelease
deriving DecidableEq, Repr

/-- R183: the kind byte of a request kind. -/
def ReqKind.code : ReqKind → Byte
  | .ping => 0x01 | .reset => 0x02 | .statusGet => 0x03 | .linkStats => 0x04
  | .settingGet => 0x08 | .settingPut => 0x09 | .storeDefaults => 0x0A
  | .climateSet => 0x10 | .climateOff => 0x11
  | .programClear => 0x18 | .stageAppend => 0x19 | .stageGet => 0x1A | .programStart => 0x1B
  | .programPause => 0x1C | .programResume => 0x1D | .programAbort => 0x1E | .stageConfirm => 0x1F | .stageSkip => 0x20
  | .boilerDrain => 0x28 | .scaleGet => 0x29
  | .descaleStart => 0x30 | .descaleConfirm => 0x31 | .descaleAbort => 0x32 | .descaleGet => 0x33
  | .holdEnter => 0x38 | .holdExit => 0x39 | .standbyEnter => 0x3A | .stop => 0x3B
  | .faultGet => 0x3C | .faultClear => 0x3D
  | .nodeGet => 0x40 | .nodeSet => 0x41 | .counterGet => 0x42
  | .noticeGet => 0x48 | .noticeEnable => 0x49 | .captureGet => 0x4A | .captureArm => 0x4B | .captureRelease => 0x4C

/-- R183: the kind a byte names, or none for a byte that is no request kind. -/
def ReqKind.ofCode (b : Byte) : Option ReqKind :=
  match b.toNat with
  | 0x01 => some .ping | 0x02 => some .reset | 0x03 => some .statusGet | 0x04 => some .linkStats
  | 0x08 => some .settingGet | 0x09 => some .settingPut | 0x0A => some .storeDefaults
  | 0x10 => some .climateSet | 0x11 => some .climateOff
  | 0x18 => some .programClear | 0x19 => some .stageAppend | 0x1A => some .stageGet | 0x1B => some .programStart
  | 0x1C => some .programPause | 0x1D => some .programResume | 0x1E => some .programAbort
  | 0x1F => some .stageConfirm | 0x20 => some .stageSkip
  | 0x28 => some .boilerDrain | 0x29 => some .scaleGet
  | 0x30 => some .descaleStart | 0x31 => some .descaleConfirm | 0x32 => some .descaleAbort | 0x33 => some .descaleGet
  | 0x38 => some .holdEnter | 0x39 => some .holdExit | 0x3A => some .standbyEnter | 0x3B => some .stop
  | 0x3C => some .faultGet | 0x3D => some .faultClear
  | 0x40 => some .nodeGet | 0x41 => some .nodeSet | 0x42 => some .counterGet
  | 0x48 => some .noticeGet | 0x49 => some .noticeEnable | 0x4A => some .captureGet
  | 0x4B => some .captureArm | 0x4C => some .captureRelease
  | _ => none

/-- R183: the fixed payload length of a request kind. -/
def ReqKind.length : ReqKind → Nat
  | .settingGet => 1 | .settingPut => 6 | .climateSet => 14 | .programClear => 4 | .stageAppend => 24
  | .stageGet => 1 | .programStart => 2 | .descaleStart => 2 | .holdEnter => 3 | .holdExit => 1
  | .faultClear => 1 | .nodeGet => 1 | .nodeSet => 6 | .counterGet => 1 | .noticeGet => 2 | .noticeEnable => 2
  | .captureArm => 3 | .captureRelease => 1
  | .ping => 0 | .reset => 0 | .statusGet => 0 | .linkStats => 0 | .storeDefaults => 0 | .climateOff => 0
  | .programPause => 0 | .programResume => 0 | .programAbort => 0 | .stageConfirm => 0 | .stageSkip => 0
  | .boilerDrain => 0 | .scaleGet => 0 | .descaleConfirm => 0 | .descaleAbort => 0 | .descaleGet => 0
  | .standbyEnter => 0 | .stop => 0 | .faultGet => 0 | .captureGet => 0

end Sys2Proof.Machine
end

