-- ==== Sys2Proof/Config.lean ====
section
/-! DEFINITION. What the part fixes as a constant, and the FREE VALUES: constants with no body, so that a claim is true
whatever they are. -/

namespace Sys2Proof.Config

/-- R163: the part code that PING answers. -/
def partCode : Half := 0x0420

/-- R163: the revision that PING answers. -/
def revision : Byte := 0x03

/-- R178: whether the write that a reset cut off for the n-th time left its item damaged. FREE VALUE (log entry 3):
the item "may be left with a value that fails its check". -/
opaque writeTorn : Nat → Bool

/-- R178: the value bytes that a torn write leaves. FREE VALUE (log entry 3). -/
opaque tornBytes : Nat → List Byte

/-- R178: by which bits the check byte of a torn item differs from the right one. FREE VALUE (log entry 3). -/
opaque tornCheck : Nat → Byte

/-- R115: the seconds already soaked, read by the n-th DESCALE_GET in SOAK. FREE VALUE (log entry 5): the model keeps
no clock, and the answer is kept within the soak time. -/
opaque soakElapsed : Nat → Nat

end Sys2Proof.Config
end

