-- ==== Sys2Proof/Machine/State.lean ====
section
/-! DEFINITION. The state of the part: every register, flag, counter, buffer and timer the manual gives its ten blocks,
the queue of waiting commands, and the values after reset. `Part` is what the blocks share; `Link` is the link
controller's own state; `flash` is the non-volatile memory. -/

namespace Sys2Proof.Machine

/-- A timer (section 3.5), with the length it was last started with, in the unit its owner counts in. No elapsed time is
kept: its expiry is a command (log entry 4). -/
inductive Timer
  | stopped
  | running (length : Nat)
  | paused (length : Nat)
deriving DecidableEq, Repr

/-- One value for each cavity element: top, bottom, ring, grill. -/
structure PerElement (α : Type) where
  top : α
  bottom : α
  ring : α
  grill : α
deriving DecidableEq, Repr

/-- Steam pulse of a climate (R2), seconds. -/
structure SteamPulse where
  period : Nat
  onTime : Nat
deriving DecidableEq, Repr

/-- Climate parameters (R2). Temperatures in tenths of °C, the humidity setpoint in %; all setpoints are signed (R182). -/
structure ClimateParams where
  mode : HeatMode
  setpoint : Int
  fan : Nat
  humidity : Option Int
  pulse : Option SteamPulse
  delta : Option Int
deriving DecidableEq, Repr

/-- Climate regulator (chapter 1, R22). -/
structure Climate where
  state : ClimateState
  params : Option ClimateParams
  /-- Setpoint in force Ts. -/
  ts : Option Int
  /-- Ts of the previous climate period expiry, for the raise test of R8 (log entry 15). -/
  tsExpiry : Option Int
  /-- Integral term I, watts (R12). -/
  integral : Int
  /-- Demand D of the last climate period, watts (R11, section 1.3). -/
  demand : Int
  /-- The demand that the element demands were last split from, watts: R4's demand last computed (log entry 19). -/
  given : Int
  /-- The element ratings read at the last climate period expiry or parameter write (R1, R175). -/
  ratings : PerElement Nat
  /-- State to return to from DOOR_PAUSE (R9). -/
  returnTo : Option ClimateState
  /-- The start of cooking chose REGULATE with the door open; R7's indication comes at the door close. -/
  reachedOwed : Bool
  steamWanted : Bool
  periodTimer : Timer
  pulseTimer : Timer
  pulseCount : Nat
  ventTarget : VentTarget
  /-- The direction in which the vent motor is driven. -/
  ventDrive : Option VentTarget
  /-- A drive towards the target is due at the start of cooking (R16, log entry 20). -/
  ventRedrive : Bool
  tachCount : Nat
  tachLatch : Nat
  stallCount : Nat
  /-- The fan level was 1 or more at the boundary that opened the window in progress (R18). -/
  windowFan : Bool
  /-- A boundary has published a grant set since cooking started and since the mains returned (R12, R34). -/
  grantFresh : Bool
  overtemp : Bool
deriving DecidableEq, Repr

/-- The grant set (R34). -/
structure GrantSet where
  watts : PerElement Nat
  curtailed : PerElement Bool
  boiler : Nat
  onCycles : PerElement Nat
deriving DecidableEq, Repr

/-- The start-up frequency measurement (R24): none, waiting for its first crossing, or timing. Times in microseconds. -/
inductive Measurement
  | none
  | waiting
  | timing (halfCycles : Nat) (elapsed : Nat)
deriving DecidableEq, Repr

/-- Power allocator (chapter 2, R39). -/
structure Power where
  freq : FreqClass
  counting : Bool
  crossing : Nat
  measure : Measurement
  returnRun : Nat
  returnTime : Nat
  demands : PerElement Nat
  boilerRequest : Bool
  grants : GrantSet
  relay : Bool
  onDwell : Nat
  offDwell : Nat
  deferral : Nat
  /-- The gates are withheld for the rest of the window (R30, R36). -/
  withdrawn : Bool
  budget : Nat
  aux : Nat
  available : Nat
deriving DecidableEq, Repr

/-- A MAIN reading with its valid mark (R45). -/
structure Reading where
  value : Int
  status : Byte
  valid : Bool
deriving DecidableEq, Repr

/-- An ALT or STATS reading, tagged with its fetch (R45). -/
structure AltReading where
  value : Int
  status : Byte
  fetch : Selector
deriving DecidableEq, Repr

/-- An identity record (R42). -/
structure Identity where
  kind : NodeKind
  variant : Variant
  serial : Quad
deriving DecidableEq, Repr

/-- An entry of the node table (R42). Its address is its place in the table plus 1. -/
structure NodeEntry where
  kind : NodeKind
  masked : Bool
  selector : Selector
  link : LinkState
  misses : Nat
  totalMisses : Nat
  crcErrors : Nat
  main : Option Reading
  alt : Option AltReading
  reference : Option Int
  watch : Byte
  threshold : Nat
  changed : Bool
  identity : Option Identity
  mismatch : Bool
  requestSeen : Bool
  identScan : Option Nat
  /-- The next MAIN reply only sets the reference: the first one after the entry was unmasked (R51). -/
  freshReference : Bool
deriving DecidableEq, Repr

/-- The poll in flight (R44). `attempt` counts the discovery scan's attempts from 1 (R56); `discard` marks a poll whose
entry has been masked meanwhile (R44, R58). -/
structure Poll where
  address : Nat
  fetch : Fetch
  attempt : Nat
  discard : Bool
deriving DecidableEq, Repr

/-- Which scan is in progress (R43, R56). -/
inductive ScanPhase
  | idle
  | discovery
  | scanning
deriving DecidableEq, Repr

/-- The sensor image (R53). An invalid value is absent. -/
structure Image where
  tc : Option Int
  tcore : Option Int
  humidity : Option Int
  boilerTemp : Option Int
  lowWet : Bool
  highWet : Bool
  tankPresent : Bool
  tankLow : Bool
  doorClosed : Bool
  doorLocked : Bool
  ventOpenEnd : Bool
  ventClosedEnd : Bool
  levelValid : Bool
  tankValid : Bool
  doorValid : Bool
  ventValid : Bool
  scan : Nat
deriving DecidableEq, Repr

/-- Ring scanner (chapter 3, R61). -/
structure Ring where
  nodes : List NodeEntry
  phase : ScanPhase
  poll : Option Poll
  scan : Nat
  timer : Timer
  overruns : Nat
  /-- The next scan starts as soon as no scan is in progress (R43, R60). -/
  startAtOnce : Bool
  image : Image
  imageValid : Bool
  /-- A scan has started since the last reset or wake (R54). -/
  eligible : Bool
  /-- An image has been derived since reset (R55). -/
  derived : Bool
  found : Bool
  changedSet : Half
deriving DecidableEq, Repr

/-- The step that follows the boiler's operation in progress (R63). Of the heating that follows a refill, that of a
blowdown is held apart as `reheat`, because HOLD_EXIT lets a blowdown's refill run on (R77, R95). -/
inductive Continuation
  | none
  | refill
  | heating
  | reheat
  | flushDrain
  | report
deriving DecidableEq, Repr

/-- Boiler controller (chapter 4, R83). -/
structure Boiler where
  state : BoilerState
  purpose : Option Purpose
  /-- Timeout class of the fill, seconds (R63). -/
  fillTimeout : Nat
  continuation : Continuation
  owner : Owner
  pauseReason : Option PauseReason
  /-- A scan completion in the pause has shown the tank out (R68). -/
  tankSeenOut : Bool
  flow : Nat
  lastFill : Nat
  /-- Heating target, tenths of °C (R69). -/
  target : Int
  fillTimer : Timer
  drainTimer : Timer
  runOnTimer : Timer
  coolWaitTimer : Timer
  idleDrainTimer : Timer
  levelTimer : Timer
  /-- A blowdown request waits (R76). -/
  waiting : Bool
  /-- A blowdown is in flight (R76). -/
  inFlight : Bool
  overheat : Bool
deriving DecidableEq, Repr

/-- The lull timer (R92). -/
inductive Lull
  | stopped
  | running
  | reached
deriving DecidableEq, Repr

/-- Scale tracker (chapter 5, R98). The first two fields are item 14, the next four item 15, as the tracker holds them. -/
structure Scale where
  load : Nat
  remainder : Nat
  progress : Nat
  owed : Nat
  credit : Nat
  flush : Bool
  dueArmed : Bool
  lock : Bool
  lastQueued : Nat
  inHand : Bool
  lull : Lull
  suspended : Bool
deriving DecidableEq, Repr

/-- The descale record, item 16 (R99). -/
structure DescaleRecord where
  phase : DescalePhase
  rinses : Nat
  rinseOwed : Bool
deriving DecidableEq, Repr

/-- A direction of the sequencer to the boiler (R100). -/
inductive Direction
  | fill (purpose : Purpose)
  | heat (target : Int)
  | drain (purpose : Purpose)
deriving DecidableEq, Repr

/-- Descale sequencer (chapter 6, R116). -/
structure Descale where
  record : DescaleRecord
  phase : DescalePhase
  prompt : Option PromptReason
  soakMinutes : Nat
  soakTimer : Timer
  rinseStep : Option RinseStep
  held : Option Direction
  recovered : Bool
  outcome : DescaleOutcome
deriving DecidableEq, Repr

/-- The program header (R117). -/
structure ProgramHeader where
  endAction : EndAction
  holdSetpoint : Int
  moist : Bool
deriving DecidableEq, Repr

/-- A stage record, checked and clamped (R118). -/
structure Stage where
  params : ClimateParams
  endCondition : EndCondition
  duration : Nat
  coreTarget : Int
  promptPoint : PromptPoint
  promptCode : Byte
  preheat : Bool
  noInterrupt : Bool
  steamPriority : Bool
  doorContinue : Bool
deriving DecidableEq, Repr

/-- Recipe executor (chapter 7, R136). -/
structure Program where
  state : ProgramState
  reason : Option WaitReason
  /-- While PAUSED, the state and reason to return to (R121). -/
  resume : Option (ProgramState × Option WaitReason)
  header : ProgramHeader
  stages : List Stage
  index : Nat
  step : StageStep
  elapsed : Nat
  written : Option ClimateParams
  preheatReached : Bool
  settlement : Option Settlement
deriving DecidableEq, Repr

/-- Mode controller (chapter 8, R151). -/
structure ModeControl where
  mode : OpMode
  /-- Latched flags, kind n in bit n (R146). -/
  faults : Half
  first : Option FaultKind
  mainsLoss : Bool
  holdSetpoint : Option Int
  holdMoist : Bool
  holdTimer : Timer
  /-- From a wake until the image validity flag is set again (R139). -/
  wakeWindow : Bool
  startup : StartupStep
deriving DecidableEq, Repr

/-- The notice unit (chapter 10, R174). Kind n is bit n. -/
structure NoticeUnit where
  pending : Half
  enable : Half
  /-- A NOTICE_GET is in hand (R169). -/
  inHand : Bool
  /-- A re-assertion is owed (R169). -/
  owed : Bool
  /-- ATTN is released for its 1 ms (R169). -/
  pulse : Bool
deriving DecidableEq, Repr

/-- One entry of a snapshot (R172). -/
structure SnapshotEntry where
  link : LinkState
  main : Option Reading
deriving DecidableEq, Repr

/-- A snapshot (R172). -/
structure Snapshot where
  scan : Nat
  changedSet : Half
  entries : List SnapshotEntry
deriving DecidableEq, Repr

/-- Change capture (R171, R174). -/
structure Capture where
  armed : Bool
  style : CaptureStyle
  trigger : Half
  snapshot : Option Snapshot
  missed : Nat
deriving DecidableEq, Repr

/-- The value of an item (R175). Numbers are kept as their 16-bit field holds them. -/
inductive ItemValue
  | number (n : Nat)
  | scale (load : Nat) (remainder : Nat)
  | blowdown (progress : Nat) (owed : Nat) (credit : Nat) (flush : Bool)
  | descale (record : DescaleRecord)
  | kind (k : NodeKind)
deriving DecidableEq, Repr

/-- An entry of the write queue (R178). -/
structure QueueEntry where
  item : Nat
  value : ItemValue
deriving DecidableEq, Repr

/-- The stored form of an item: the bytes it uses and its check byte (R178, R184). -/
structure StoredForm where
  bytes : List Byte
  check : Byte
deriving DecidableEq, Repr

/-- Settings store, volatile part (chapter 11). -/
structure Store where
  /-- Per item, the stored value, or the default where the load step found the item damaged (R175). -/
  base : List ItemValue
  defaulted : List Bool
  queue : List QueueEntry
  /-- The value of the head entry that is being written. -/
  writing : Option ItemValue
  /-- The head entry's value was replaced while it was being written (R178). -/
  replaced : Bool
  /-- The items held in a defaults run, ascending (R179). -/
  run : List Nat
deriving DecidableEq, Repr

/-- The report timer, the report pending flag and the report number (R160). -/
structure Report where
  timer : Timer
  pending : Bool
  number : Nat
deriving DecidableEq, Repr

/-- What the blocks of the part hold, the receiver and the transmitter apart. -/
structure Part where
  store : Store
  notice : NoticeUnit
  capture : Capture
  report : Report
  mode : ModeControl
  ring : Ring
  climate : Climate
  power : Power
  boiler : Boiler
  scale : Scale
  descale : Descale
  program : Program
deriving DecidableEq, Repr

/-- A frame: kind and payload (R152). -/
structure Frame where
  kind : Byte
  payload : List Byte
deriving DecidableEq, Repr

/-- The receiver (R153). ASSEMBLE holds the bytes after the start byte, in the order received. -/
inductive Receiver
  | hunt
  | assemble (got : List Byte)
deriving DecidableEq, Repr

/-- The frame being sent (R159). -/
inductive Sending
  | idle
  | reply (frame : Frame)
  | report (frame : Frame)
deriving DecidableEq, Repr

/-- The link controller's receiver, receive queue, request in hand, transmitter and counters (R166). -/
structure Link where
  receiver : Receiver
  queue : List Frame
  inHand : Option Frame
  /-- A reply that waits for the transmitter. -/
  reply : Option Frame
  sending : Sending
  crcErrors : Nat
  framingErrors : Nat
  overruns : Nat
  /-- The request in hand is an admitted RESET (R165). -/
  resetAnswered : Bool
  resetWait : Bool
deriving DecidableEq, Repr

/-- The whole state. `pending` is the queue of waiting commands, first in first out; `free` counts the free values drawn
(log entry 3). -/
structure State where
  pending : List Instr
  free : Nat
  flash : List StoredForm
  link : Link
  part : Part
deriving DecidableEq, Repr

/-- Why a command stops with a fault: no command does. The part's own faults are state (R146); log entry 31. -/
inductive Fault
deriving DecidableEq, Repr

/-- Why a command is refused by the model. -/
inductive Refusal
  /-- Raised by an arm of `exec` whose command has no meaning yet; safe: the model stops. No arm raises it. -/
  | notModelled (mnemonic : String)
deriving DecidableEq, Repr

/-- The same value for each element. -/
def PerElement.all {α : Type} (a : α) : PerElement α := ⟨a, a, a, a⟩

/-- R34: a grant set of all zero. -/
def GrantSet.zero : GrantSet := ⟨.all 0, .all false, 0, .all 0⟩

/-- R61: an entry after reset, mapped to a kind. -/
def NodeEntry.reset (k : NodeKind) : NodeEntry where
  kind := k
  masked := false
  selector := .main
  link := .absent
  misses := 0
  totalMisses := 0
  crcErrors := 0
  main := none
  alt := none
  reference := none
  watch := 0
  threshold := 0
  changed := false
  identity := none
  mismatch := false
  requestSeen := false
  identScan := none
  freshReference := false

/-- R61, R53: the image before the first one is derived. -/
def Image.reset : Image where
  tc := none
  tcore := none
  humidity := none
  boilerTemp := none
  lowWet := false
  highWet := false
  tankPresent := false
  tankLow := true
  doorClosed := false
  doorLocked := false
  ventOpenEnd := false
  ventClosedEnd := false
  levelValid := false
  tankValid := false
  doorValid := false
  ventValid := false
  scan := 0

/-- R61. The kinds are read at the discovery scan; before it they are NONE (log entry 1). -/
def Ring.reset : Ring where
  nodes := List.replicate 12 (.reset .none)
  phase := .idle
  poll := none
  scan := 0
  timer := .stopped
  overruns := 0
  startAtOnce := false
  image := .reset
  imageValid := false
  eligible := false
  derived := false
  found := false
  changedSet := 0

/-- R22. -/
def Climate.reset : Climate where
  state := .off
  params := none
  ts := none
  tsExpiry := none
  integral := 0
  demand := 0
  given := 0
  ratings := .all 0
  returnTo := none
  reachedOwed := false
  steamWanted := false
  periodTimer := .stopped
  pulseTimer := .stopped
  pulseCount := 0
  ventTarget := .opened
  ventDrive := none
  ventRedrive := false
  tachCount := 0
  tachLatch := 0
  stallCount := 0
  windowFan := false
  grantFresh := false
  overtemp := false

/-- R39. -/
def Power.reset : Power where
  freq := .unknown
  counting := false
  crossing := 0
  measure := .none
  returnRun := 0
  returnTime := 0
  demands := .all 0
  boilerRequest := false
  grants := .zero
  relay := false
  onDwell := 0
  offDwell := 3
  deferral := 0
  withdrawn := false
  budget := 0
  aux := 0
  available := 0

/-- R83. -/
def Boiler.reset : Boiler where
  state := .empty
  purpose := none
  fillTimeout := 0
  continuation := .none
  owner := .none
  pauseReason := none
  tankSeenOut := false
  flow := 0
  lastFill := 0
  target := 980
  fillTimer := .stopped
  drainTimer := .stopped
  runOnTimer := .stopped
  coolWaitTimer := .stopped
  idleDrainTimer := .stopped
  levelTimer := .stopped
  waiting := false
  inFlight := false
  overheat := false

/-- R98, before the load step. -/
def Scale.reset : Scale where
  load := 0
  remainder := 0
  progress := 0
  owed := 0
  credit := 0
  flush := false
  dueArmed := false
  lock := true
  lastQueued := 0
  inHand := false
  lull := .stopped
  suspended := false

/-- R114: the default of the descale record. -/
def DescaleRecord.initial : DescaleRecord := ⟨.idle, 0, false⟩

/-- R116, before the load step. -/
def Descale.reset : Descale where
  record := .initial
  phase := .idle
  prompt := none
  soakMinutes := 30
  soakTimer := .stopped
  rinseStep := none
  held := none
  recovered := false
  outcome := .none

/-- R136. -/
def Program.reset : Program where
  state := .empty
  reason := none
  resume := none
  header := ⟨.stop, 700, false⟩
  stages := []
  index := 0
  step := .notBegun
  elapsed := 0
  written := none
  preheatReached := false
  settlement := none

/-- R151, with the start-up sequence before its load step (R181). -/
def ModeControl.reset : ModeControl where
  mode := .starting
  faults := 0
  first := none
  mainsLoss := false
  holdSetpoint := none
  holdMoist := false
  holdTimer := .stopped
  wakeWindow := false
  startup := .load

/-- R174: WATCH_CHANGE is bit 11 and SCAN_DONE bit 14. -/
def NoticeUnit.reset : NoticeUnit where
  pending := 0
  enable := 0xB7FF
  inHand := false
  owed := false
  pulse := false

/-- R174. -/
def Capture.reset : Capture where
  armed := false
  style := .oneShot
  trigger := 0x0FFF
  snapshot := none
  missed := 0

/-- R175: the defaults of the 34 items; items 22 to 33 as R41 gives. -/
def defaultItems : List ItemValue :=
  [.number 3600, .number 1800, .number 1200, .number 1000, .number 2000, .number 1500,
   .number 60, .number 25, .number 30, .number 20, .number 40, .number 32, .number 25, .number 30000,
   .scale 0 0, .blowdown 0 0 0 false, .descale .initial,
   .number 2000, .number 120, .number 1000, .number 50, .number 600,
   .kind .cavityTemp, .kind .boiler, .kind .waterTank, .kind .door, .kind .humidity, .kind .coreProbe, .kind .vent,
   .kind .none, .kind .none, .kind .none, .kind .none, .kind .none]

/-- R178: the volatile part of the store after reset. The base values before the load step are the defaults
(log entry 1). -/
def Store.reset : Store where
  base := defaultItems
  defaulted := List.replicate 34 false
  queue := []
  writing := none
  replaced := false
  run := []

/-- R166. -/
def Report.reset : Report := ⟨.stopped, false, 0⟩

/-- R166. -/
def Link.reset : Link where
  receiver := .hunt
  queue := []
  inHand := none
  reply := none
  sending := .idle
  crcErrors := 0
  framingErrors := 0
  overruns := 0
  resetAnswered := false
  resetWait := false

/-- The tables "Value after reset" of the chapters, together. -/
def Part.reset : Part where
  store := .reset
  notice := .reset
  capture := .reset
  report := .reset
  mode := .reset
  ring := .reset
  climate := .reset
  power := .reset
  boiler := .reset
  scale := .reset
  descale := .reset
  program := .reset

/-- Section 3.6: a reset keeps the stored items (and, in the model, the waiting commands and the count of free values)
and gives everything else its value after reset. -/
def State.afterReset (s : State) : State :=
  { s with link := .reset, part := .reset }

/-- The stored forms of the default items with their check bytes (R178, R184), written out; `Tests/Slice0.lean` checks
them against the store's own encoding. DESIGN CHOICE: a part whose items have never been written holds its defaults
(log entry 2). -/
def factoryFlash : List StoredForm :=
  [⟨[0x0E, 0x10], 0xA6⟩, ⟨[0x07, 0x08], 0x38⟩, ⟨[0x04, 0xB0], 0x9B⟩, ⟨[0x03, 0xE8], 0x14⟩,
   ⟨[0x07, 0xD0], 0xFE⟩, ⟨[0x05, 0xDC], 0x9B⟩, ⟨[0x00, 0x3C], 0xC9⟩, ⟨[0x00, 0x19], 0x59⟩,
   ⟨[0x00, 0x1E], 0x0B⟩, ⟨[0x00, 0x14], 0x56⟩, ⟨[0x00, 0x28], 0x5F⟩, ⟨[0x00, 0x20], 0x0C⟩,
   ⟨[0x00, 0x19], 0xB5⟩, ⟨[0x75, 0x30], 0xE2⟩, ⟨[0x00, 0x00, 0x00], 0xC4⟩, ⟨[0x00, 0x00, 0x00, 0x00, 0x00], 0x90⟩,
   ⟨[0x00, 0x00, 0x00], 0x67⟩, ⟨[0x07, 0xD0], 0x9C⟩, ⟨[0x00, 0x78], 0x1B⟩, ⟨[0x03, 0xE8], 0xB6⟩,
   ⟨[0x00, 0x32], 0x97⟩, ⟨[0x02, 0x58], 0xC7⟩, ⟨[0x01], 0x2E⟩, ⟨[0x04], 0x20⟩,
   ⟨[0x05], 0xE4⟩, ⟨[0x06], 0xF8⟩, ⟨[0x03], 0xDC⟩, ⟨[0x02], 0xCE⟩,
   ⟨[0x07], 0xBE⟩, ⟨[0x00], 0xBE⟩, ⟨[0x00], 0x81⟩, ⟨[0x00], 0x94⟩,
   ⟨[0x00], 0xAE⟩, ⟨[0x00], 0xBB⟩]

/-- The machine right after its first reset: the values after reset, no command waiting, the start-up sequence before
its load step (log entry 1). -/
def State.reset : State where
  pending := []
  free := 0
  flash := factoryFlash
  link := .reset
  part := .reset

end Sys2Proof.Machine
end

