-- ==== Sys2Proof/Machine/Store.lean ====
section
/-! DEFINITION. Chapter 11 without the start-up: the items, their stored forms and ranges, the served value, the write
queue and the defaults run. -/

namespace Sys2Proof.Machine

/-- R184: how many of the five bytes of the value field an item uses. -/
def itemBytes (item : Nat) : Nat :=
  if item = 14 then 3 else if item = 15 then 5 else if item = 16 then 3 else if item < 22 then 2 else 1

/-- R184: the bytes of an item's value, in their stored order. -/
def ItemValue.bytes : ItemValue → List Byte
  | .number n => natBytes n
  | .scale load remainder => natBytes load ++ [byteOf remainder]
  | .blowdown progress owed credit flush => natBytes progress ++ [byteOf owed, byteOf credit, byteOf flush.toNat]
  | .descale r => [byteOf (descalePhaseCode r.phase), byteOf r.rinses, byteOf r.rinseOwed.toNat]
  | .kind k => [byteOf (nodeKindCode k)]

/-- R175: the closed range of a numeric item. -/
def itemRange (item : Nat) : Nat × Nat :=
  match item with
  | 0 => (2000, 3680)
  | 1 => (800, 2200)
  | 2 => (0, 2500) | 3 => (0, 2500) | 4 => (0, 2500) | 5 => (0, 2500)
  | 6 => (0, 200) | 7 => (0, 200) | 8 => (0, 200) | 9 => (0, 200)
  | 10 => (0, 200)
  | 11 => (0, 255)
  | 12 => (0, 60)
  | 13 => (5000, 60000)
  | 17 => (1000, 5000)
  | 18 => (30, 240)
  | 19 => (0, 10000)
  | 20 => (20, 500)
  | 21 => (400, 1000)
  | _ => (0, 65535)

/-- R177 check 6: clamp a number to its item's range and lower it to the step below it. A report interval of 1 to 199 ms
becomes 200 ms. -/
def clampItem (item n : Nat) : Nat :=
  let c := clampNat (itemRange item).1 (itemRange item).2 n
  if item = 0 then c - c % 10
  else if item = 19 then (if c = 0 then 0 else if c < 200 then 200 else c - c % 100)
  else c

/-- R184: read a value from the bytes an item uses; none where a field is outside its set. -/
def readValue (item : Nat) (bytes : List Byte) : Option ItemValue :=
  if item = 14 then
    match bytes with
    | [a, b, c] => some (.scale (halfOf a b).toNat c.toNat)
    | _ => none
  else if item = 15 then
    match bytes with
    | [a, b, c, d, e] => (flagOf e).map (fun flush => .blowdown (halfOf a b).toNat c.toNat d.toNat flush)
    | _ => none
  else if item = 16 then
    match bytes with
    | [a, b, c] =>
      match descalePhaseOf a.toNat, flagOf c with
      | some phase, some owed => some (.descale ⟨phase, b.toNat, owed⟩)
      | _, _ => none
    | _ => none
  else if item < 22 then
    match bytes with
    | [a, b] => some (.number (halfOf a b).toNat)
    | _ => none
  else
    match bytes with
    | [a] => (nodeKindOf a.toNat).map .kind
    | _ => none

/-- R180, with R98 and R114: a value read from memory lies in its range or set and its fields keep their conditions. A
numeric item lies in its range, on its steps, exactly when clamping leaves it. -/
def legalValue (item : Nat) : ItemValue → Bool
  | .number n => clampItem item n = n
  | .scale _ remainder => decide (remainder ≤ 99)
  | .blowdown _ owed credit _ => decide (owed ≤ 5) && decide (credit ≤ 2) && (owed = 0 || credit = 0)
  | .descale r => decide (r.rinses ≤ 3)
  | .kind _ => true

/-- R178: the stored form: the bytes of the value, then a CRC-8 over the item number and those bytes. -/
def storedForm (item : Nat) (v : ItemValue) : StoredForm :=
  ⟨v.bytes, crc8 (byteOf item :: v.bytes)⟩

/-- R180: the value of a stored form, or none where the item is damaged. -/
def loadForm (item : Nat) (f : StoredForm) : Option ItemValue :=
  if f.bytes.length = itemBytes item ∧ f.check = crc8 (byteOf item :: f.bytes) then
    match readValue item f.bytes with
    | some v => if legalValue item v then some v else none
    | none => none
  else none

/-- The default of an item (R175). -/
def defaultValue (item : Nat) : ItemValue := getAt (.number 0) defaultItems item

/-- The entry of an item in the write queue, if it has one. -/
def Store.entry (s : Store) (item : Nat) : Option QueueEntry := s.queue.find? (fun e => e.item = item)

/-- R175: the served value: the queued value, else the default if the item is held in a defaults run, else the stored
value or the default of a damaged item. -/
def Store.served (s : Store) (item : Nat) : ItemValue :=
  match s.entry item with
  | some e => e.value
  | none => if item ∈ s.run then defaultValue item else getAt (.number 0) s.base item

/-- R176: the source of the served value. A damaged item outside the queue and the run is shown as STORED, with its
defaulted flag set (log entry 56). -/
def Store.source (s : Store) (item : Nat) : SettingSource :=
  match s.entry item with
  | some _ => .queued
  | none => if item ∈ s.run then .defaults else .stored

/-- A numeric item as served. -/
def Store.num (s : Store) (item : Nat) : Nat :=
  match s.served item with
  | .number n => n
  | _ => 0

/-- The kind that the node map gives an address (R41): items 22 to 33. -/
def Store.mapKind (s : Store) (address : Nat) : NodeKind :=
  match s.served (21 + address) with
  | .kind k => k
  | _ => .none

/-- R178: begin writing the head entry, if there is one and none is being written. -/
def Store.startWrite (s : Store) : Store :=
  match s.writing, s.queue with
  | none, e :: _ => { s with writing := some e.value, replaced := false }
  | _, _ => s

/-- R177, R178: replace the value of an item's entry in place, noting a replacement during its write. -/
def Store.replace (s : Store) (item : Nat) (v : ItemValue) : Store :=
  let headWritten := match s.queue with
    | e :: _ => decide (e.item = item) && s.writing.isSome
    | [] => false
  { s with
    queue := s.queue.map (fun e => if e.item = item then { e with value := v } else e)
    replaced := s.replaced || headWritten }

/-- R178: a value joins the queue, in its item's place if the item has an entry, else at the tail. -/
def Store.enqueue (s : Store) (item : Nat) (v : ItemValue) : Store :=
  match s.entry item with
  | some _ => s.replace item v
  | none => Store.startWrite { s with queue := s.queue ++ [⟨item, v⟩] }

/-- R177: an accepted value; an item held in a defaults run is removed from the run. -/
def Store.accept (s : Store) (item : Nat) (v : ItemValue) : Store :=
  { s.enqueue item v with run := s.run.filter (· ≠ item) }

/-- R179: move items of the run to the queue while it holds fewer than 5 entries. The count bounds the moves. -/
def Store.feed : Nat → Store → Store
  | 0, s => s
  | n + 1, s =>
    match s.run with
    | [] => s
    | item :: rest =>
      if s.queue.length < 5 then
        Store.feed n { s with queue := s.queue ++ [⟨item, defaultValue item⟩], run := rest }
      else s

/-- R179: the items that a defaults run takes, ascending. -/
def runItems : List Nat := [0, 1, 2, 3, 4, 5, 6, 7, 8, 9, 10, 11, 12, 13, 17, 18, 19, 20, 21]

/-- R179: form a defaults run. Items with an entry take the default in place; the others enter the run. -/
def Store.formRun (s : Store) : Store :=
  let queued := runItems.filter (fun i => (s.entry i).isSome)
  let fresh := runItems.filter (fun i => (s.entry i).isNone)
  Store.startWrite (Store.feed 5 { queued.foldl (fun t i => t.replace i (defaultValue i)) s with run := fresh })

/-- R178: what the completion of the head entry's write does to the store. The item is no longer defaulted and its stored
value is the one written; a replaced entry stays at the head and is written again. -/
def Store.completeWrite (s : Store) (written : ItemValue) : Store :=
  match s.queue with
  | [] => { s with writing := none, replaced := false }
  | e :: rest =>
    let t := { s with
      base := setAt s.base e.item written
      defaulted := setAt s.defaulted e.item false
      writing := none }
    if s.replaced then Store.startWrite (Store.feed 5 { t with replaced := false })
    else Store.startWrite (Store.feed 5 { t with queue := rest })

end Sys2Proof.Machine
end

