-- ==== Sys2Proof/Machine/Flags.lean ====
section
/-! DEFINITION. Flag computations: the fault set and its classes, notice flags, status flags of nodes, and the views that
are functions of the state: output pins, auxiliary loads, the steam indication, the stage timer (log entry 29). -/

namespace Sys2Proof

/-- Section 1.3: PREHEAT, REGULATE and DOOR_PAUSE are the cooking states. -/
def ClimateState.cooking : ClimateState → Bool
  | .preheat => true | .regulate => true | .doorPause => true | .off => false | .coolRun => false

/-- PREHEAT or REGULATE: the states in which the fan runs and steam may be wanted. -/
def ClimateState.active : ClimateState → Bool
  | .preheat => true | .regulate => true | .doorPause => false | .off => false | .coolRun => false

/-- R1: the steam modes. -/
def HeatMode.steamMode : HeatMode → Bool
  | .steam => true | .combi => true
  | .conventional => false | .bottom => false | .hotAir => false | .hotAirBottom => false | .grill => false
  | .grillFan => false

/-- R1: the fan modes, whose lowest fan level is 1 or more. -/
def HeatMode.fanMode : HeatMode → Bool
  | .hotAir => true | .hotAirBottom => true | .grillFan => true | .steam => true | .combi => true
  | .conventional => false | .bottom => false | .grill => false

/-- R160: the modes in which reports are allowed. -/
def OpMode.reports : OpMode → Bool
  | .starting => true | .active => true | .standbyPending => true | .safeStop => true
  | .hold => false | .standby => false

/-- R121: "the program runs". -/
def ProgramState.runs : ProgramState → Bool
  | .running => true | .waiting => true | .paused => true | .boundaryWait => true
  | .empty => false | .loaded => false | .ended => false | .aborted => false

end Sys2Proof

namespace Sys2Proof.Machine

/-! ### Fault set (R146) -/

/-- A fault kind's latched flag. -/
def hasFault (faults : Half) (k : FaultKind) : Bool := faults.getLsbD (faultCode k)

/-- The flag of a fault kind, alone. -/
def faultFlag (k : FaultKind) : Half := 1#16 <<< faultCode k

/-- A critical fault is latched. -/
def criticalLatched (faults : Half) : Bool :=
  hasFault faults .cavityOvertemp || hasFault faults .cavityNodeLost || hasFault faults .doorNodeLost
    || hasFault faults .nodeMap

/-- A steam fault is latched. -/
def steamLatched (faults : Half) : Bool :=
  hasFault faults .boilerOverheat || hasFault faults .boilerNodeLost || hasFault faults .tankNodeLost
    || hasFault faults .fillFault || hasFault faults .drainTimeout

/-- A critical fault is latched in the part. -/
def Part.critical (p : Part) : Bool := criticalLatched p.mode.faults

/-- A steam fault is latched in the part. -/
def Part.steamFault (p : Part) : Bool := steamLatched p.mode.faults

/-! ### Notice flags (R167) -/

/-- The flag of a notice kind, alone. -/
def noticeFlag (n : Notice) : Half := 1#16 <<< noticePosition n

/-- R168: ATTN is active while a kind is pending and enabled, apart from the re-assertion pulse of R169. -/
def NoticeUnit.attn (u : NoticeUnit) : Bool := !u.pulse && (u.pending &&& u.enable) != 0

/-! ### Node status flags (R40, section 12.3) -/

/-- SERVICE is bit 7 for every kind and fetch. -/
def serviceFlag (status : Byte) : Bool := status.getLsbD 7

/-- The kind's first own flag: PLUGGED, LOW_WET, PRESENT, CLOSED or OPEN_END. -/
def firstFlag (status : Byte) : Bool := status.getLsbD 0

/-- The kind's second own flag: HIGH_WET, LOW, LOCKED or CLOSED_END. -/
def secondFlag (status : Byte) : Bool := status.getLsbD 1

/-- R40: the kinds whose MAIN value is used. -/
def valueUsed : NodeKind → Bool
  | .cavityTemp => true | .coreProbe => true | .humidity => true | .boiler => true
  | .none => false | .waterTank => false | .door => false | .vent => false

/-- R40: the value is within its kind's valid range, where a value is read. -/
def valueInRange (k : NodeKind) (v : Int) : Bool :=
  match k with
  | .cavityTemp => decide (-400 ≤ v ∧ v ≤ 3500)
  | .coreProbe => decide (-400 ≤ v ∧ v ≤ 3500)
  | .boiler => decide (-400 ≤ v ∧ v ≤ 3500)
  | .humidity => decide (0 ≤ v ∧ v ≤ 200)
  | .none => true | .waterTank => true | .door => true | .vent => true

/-! ### Node table views -/

/-- R53: the entry that supplies the readings of a kind: the lowest address of that kind. -/
def Ring.supplier (r : Ring) (k : NodeKind) : Option NodeEntry := r.nodes.find? (fun n => n.kind = k)

/-- The entry of a kind is LINKED: that of the lowest address, also where the map names the kind at more than one and a rule
outside the sensor image asks (log entry 62). -/
def Ring.linked (r : Ring) (k : NodeKind) : Bool :=
  match r.supplier k with
  | some n => n.link = .linked
  | none => false

/-- R41: the required kinds. -/
def requiredKinds : List NodeKind := [.cavityTemp, .boiler, .waterTank, .door]

/-- R41, R56: the table names each required kind at exactly one address. -/
def Ring.mapNamesRequired (r : Ring) : Bool :=
  requiredKinds.all (fun k => (r.nodes.filter (fun n => n.kind = k)).length = 1)

/-- R50: the cause of NODE_MAP is gone. A map that does not name each required kind once leaves it present. -/
def Ring.mapSound (r : Ring) : Bool :=
  r.mapNamesRequired && r.nodes.all (fun n => !n.mismatch) && requiredKinds.all r.linked

/-! ### Climate views -/

/-- R1: the indication to the boiler controller that cooking uses steam. -/
def Climate.usesSteam (c : Climate) : Bool :=
  c.state.cooking && (match c.params with
    | some p => p.mode.steamMode
    | none => false)

/-- R17: the convection fan level in force. -/
def Part.fanLevel (p : Part) : Nat :=
  if p.mode.mainsLoss then 0
  else if p.climate.state.active then (match p.climate.params with
    | some c => c.fan
    | none => 0)
  else 0

/-- R17: the duty of FAN_PWM, percent. -/
def Part.fanDuty (p : Part) : Nat :=
  match p.fanLevel with
  | 0 => 0 | 1 => 35 | 2 => 52 | 3 => 70 | _ => 88

/-- R19: CFAN. -/
def Part.coolingFan (p : Part) : Bool :=
  p.climate.state != .off && !p.mode.mainsLoss && p.mode.mode != .standby

/-- R16: VENT_OPEN and VENT_CLOSE. -/
def Part.ventOpenPin (p : Part) : Bool := p.climate.ventDrive = some .opened
/-- R16: VENT_CLOSE. -/
def Part.ventClosePin (p : Part) : Bool := p.climate.ventDrive = some .closed

/-! ### Mode views -/

/-- R144: LAMP. -/
def Part.lamp (p : Part) : Bool :=
  !p.mode.mainsLoss && (match p.mode.mode with
    | .starting => false
    | .standby => false
    | .active => p.climate.state.cooking || !p.ring.image.doorClosed
    | .hold => p.climate.state.cooking || !p.ring.image.doorClosed
    | .standbyPending => p.climate.state.cooking || !p.ring.image.doorClosed
    | .safeStop => p.climate.state.cooking || !p.ring.image.doorClosed)

/-- R147: SAFETY_OUT is active while the fault set holds no critical fault. -/
def Part.safetyOut (p : Part) : Bool := !p.critical

/-! ### Boiler views -/

/-- R62: P_FILL. -/
def Part.fillPump (p : Part) : Bool :=
  (p.boiler.state = .filling || p.boiler.state = .topping) && !p.mode.mainsLoss && p.mode.mode != .standby

/-- R62: P_DRAIN. -/
def Part.drainPump (p : Part) : Bool :=
  p.boiler.state = .draining && !p.mode.mainsLoss && p.mode.mode != .standby

/-- R62: the steam-delivered indication. A boiler grant is 0 or the whole boiler rating in force at its window's boundary
(R32), and a value of item 1 accepted within the window is in force from the next one (R27, R175): so the grant equals the
rating in force exactly where it is above 0. -/
def Part.steamDelivered (p : Part) : Bool :=
  p.boiler.state = .steaming && decide (0 < p.power.grants.boiler)

/-- R70: the conditions under which the boiler may be in STEAMING. -/
def Part.maySteam (p : Part) : Bool :=
  p.boiler.owner = .cooking && p.climate.steamWanted && !p.scale.lock && !p.scale.suspended && p.ring.image.lowWet

/-! ### Executor views -/

/-- The stage at the current stage index, while the program runs. -/
def Program.current (g : Program) : Option Stage :=
  if g.state.runs then g.stages[g.index]? else none

/-- R121: paused from BOUNDARY_WAIT, so that the current stage has ended. -/
def Program.pausedAtBoundary (g : Program) : Bool :=
  g.state = .paused && (match g.resume with
    | some (.boundaryWait, _) => true
    | _ => false)

/-- R92, R94, R128: RUNNING, WAITING or PAUSED with a current stage that carries NO_INTERRUPT. A stage that waits at its
boundary, or is paused from there, has ended (log entry 25). -/
def Program.noInterrupt (g : Program) : Bool :=
  g.state != .boundaryWait && !g.pausedAtBoundary && (match g.current with
    | some st => st.noInterrupt
    | none => false)

/-- R31: a current stage carries STEAM_PRIORITY. -/
def Program.steamPriority (g : Program) : Bool :=
  match g.current with
  | some st => st.steamPriority
  | none => false

/-- R125: the stage timer runs. -/
def Part.stageTimerRuns (p : Part) : Bool :=
  p.program.state = .running && p.program.step = .counting && (match p.program.current with
    | some st => p.climate.state != .doorPause || st.doorContinue
    | none => false)

/-- R94: top-ups are held suspended. -/
def Part.suspends (p : Part) : Bool := p.scale.owed = 5 && p.program.noInterrupt

/-! ### Power views -/

/-- R35: cycle k of the window is an on cycle of a count n. -/
def onCycle (n k : Nat) : Bool := decide ((k - 1) * n / 50 < k * n / 50)

/-- R23: the number of the cycle that the window is in. -/
def Power.cycle (w : Power) : Nat := w.crossing / 2 + 1

/-- R35, R36: the gate of an element is fired in the present cycle. -/
def Power.gate (w : Power) (onCycles : Nat) : Bool :=
  w.counting && !w.withdrawn && onCycle onCycles w.cycle

/-- The four gate outputs G_TOP, G_BOT, G_RING and G_GRILL. -/
def Power.gates (w : Power) : PerElement Bool :=
  ⟨w.gate w.grants.onCycles.top, w.gate w.grants.onCycles.bottom, w.gate w.grants.onCycles.ring,
    w.gate w.grants.onCycles.grill⟩

/-- R29: the auxiliary load at this moment. -/
def Part.auxLoad (p : Part) : Nat :=
  (if 1 ≤ p.fanLevel then p.store.num 6 else 0) + (if p.lamp then p.store.num 7 else 0)
    + (if p.fillPump then p.store.num 8 else 0) + (if p.drainPump then p.store.num 8 else 0)
    + (if p.coolingFan then p.store.num 9 else 0)

end Sys2Proof.Machine
end

