-- ==== Sys2Proof/Machine/Ops.lean ====
section
/-! DEFINITION. Operations that several blocks share: timers, per-element values, raising a notice, queueing an internal
item, the rows of the heating mode table. -/

namespace Sys2Proof.Machine

/-! ### Timers (section 3.5; log entry 4) -/

/-- Start a timer from zero. -/
def Timer.start (length : Nat) : Timer := .running length

/-- Pause a running timer. -/
def Timer.pause : Timer → Timer
  | .running n => .paused n
  | .paused n => .paused n
  | .stopped => .stopped

/-- Resume a paused timer. -/
def Timer.resume : Timer → Timer
  | .running n => .running n
  | .paused n => .running n
  | .stopped => .stopped

/-- The timer runs, so that its expiry can come. -/
def Timer.runs : Timer → Bool
  | .running _ => true
  | .paused _ => false
  | .stopped => false

/-- Start a timer, held paused where a condition suspends it. -/
def Timer.startUnless (held : Bool) (length : Nat) : Timer := if held then .paused length else .running length

/-! ### Values per element -/

/-- The value of one element. -/
def PerElement.get {α : Type} (x : PerElement α) : Element → α
  | .top => x.top
  | .bottom => x.bottom
  | .ring => x.ring
  | .grill => x.grill

/-- The value for each element from a function. -/
def PerElement.of {α : Type} (f : Element → α) : PerElement α := ⟨f .top, f .bottom, f .ring, f .grill⟩

/-- Replace the value of one element. -/
def PerElement.put {α : Type} (x : PerElement α) (e : Element) (a : α) : PerElement α :=
  match e with
  | .top => { x with top := a }
  | .bottom => { x with bottom := a }
  | .ring => { x with ring := a }
  | .grill => { x with grill := a }

/-! ### Heating modes (R1) -/

/-- R1: the element group of a mode, in grant order, with the shares in percent. -/
def modeGroup : HeatMode → List (Element × Nat)
  | .conventional => [(.top, 55), (.bottom, 45)]
  | .bottom => [(.bottom, 100)]
  | .hotAir => [(.ring, 100)]
  | .hotAirBottom => [(.ring, 70), (.bottom, 30)]
  | .grill => [(.grill, 100)]
  | .grillFan => [(.grill, 60), (.ring, 40)]
  | .steam => []
  | .combi => [(.ring, 100)]

/-- R1: the lowest and the highest fan level of a mode. -/
def modeFan : HeatMode → Nat × Nat
  | .conventional => (0, 1)
  | .bottom => (0, 1)
  | .hotAir => (1, 4)
  | .hotAirBottom => (1, 4)
  | .grill => (0, 0)
  | .grillFan => (1, 3)
  | .steam => (1, 2)
  | .combi => (1, 4)

/-- R1: the setpoint range of a mode, tenths of °C. -/
def modeSetpoint : HeatMode → Int × Int
  | .conventional => (300, 2500)
  | .bottom => (300, 2500)
  | .hotAir => (300, 2300)
  | .hotAirBottom => (300, 2300)
  | .grill => (300, 2500)
  | .grillFan => (300, 2300)
  | .steam => (300, 1000)
  | .combi => (300, 2300)

/-- R175: the rating of an element, items 2 to 5. -/
def Store.rating (s : Store) : Element → Nat
  | .top => s.num 2
  | .bottom => s.num 3
  | .ring => s.num 4
  | .grill => s.num 5

/-- R1: the share of an element in a mode; 0 outside the mode's group. -/
def modeShare (m : HeatMode) (e : Element) : Nat :=
  match (modeGroup m).find? (fun g => g.1 = e) with
  | some g => g.2
  | none => 0

/-- R1: the group maximum of a mode under given ratings. An absent element has rating 0. -/
def groupMaxOf (ratings : PerElement Nat) (m : HeatMode) : Nat := ((modeGroup m).map (fun g => ratings.get g.1)).sum

/-- R175: the ratings of the four elements as served. -/
def Store.ratings (s : Store) : PerElement Nat := .of s.rating

/-- R1: the group maximum of a mode under the ratings as served. -/
def Store.groupMax (s : Store) (m : HeatMode) : Nat := groupMaxOf s.ratings m

/-! ### Notices and internal items -/

/-- R167, R169: raise a notice. A raise that sets an enabled flag while a NOTICE_GET is in hand makes a re-assertion
owed. -/
def NoticeUnit.raise (u : NoticeUnit) (n : Notice) : NoticeUnit :=
  if (u.pending &&& noticeFlag n) != 0 then u
  else { u with
    pending := u.pending ||| noticeFlag n
    owed := u.owed || (u.inHand && (u.enable &&& noticeFlag n) != 0) }

/-- R167: a block names a notice kind to the notice unit. -/
def Part.raiseNotice (p : Part) (n : Notice) : Part := { p with notice := p.notice.raise n }

/-- R178: an internal write; it is not tested for room. -/
def Part.queueItem (p : Part) (item : Nat) (v : ItemValue) : Part := { p with store := p.store.enqueue item v }

/-! ### Entries of the node table -/

/-- R42: the entry at an address 1 to 12. -/
def Ring.entry (r : Ring) (address : Nat) : NodeEntry := getAt (.reset .none) r.nodes (address - 1)

/-- R42: replace the entry at an address 1 to 12. -/
def Ring.putEntry (r : Ring) (address : Nat) (n : NodeEntry) : Ring :=
  { r with nodes := setAt r.nodes (address - 1) n }

end Sys2Proof.Machine
end

