-- ==== Sys2Proof/Machine/Operands.lean ====
section
/-! DEFINITION. Request fields: the checks and clamping of climate records (R2) and stage records (R118), the wire forms
of section 12.4, and requests as frames in both directions (R152, R183). -/

namespace Sys2Proof.Machine

/-! ### Climate parameter records (R2) -/

/-- R182: the value of an optional field from its presence byte; none where the presence byte is neither 0 nor 1. -/
def optional {α : Type} (presence : Byte) (a : α) : Option (Option α) :=
  (flagOf presence).map (fun b => if b then some a else none)

/-- R2: a record before clamping, in the mode named. -/
structure RawClimate where
  mode : HeatMode
  setpoint : Int
  fan : Nat
  humidity : Option Int
  pulse : Option SteamPulse
  delta : Option Int
deriving DecidableEq, Repr

/-- R2: the presence rules. -/
def RawClimate.presenceOk (r : RawClimate) : Bool :=
  if r.mode = .combi then r.humidity.isSome != r.pulse.isSome else r.humidity.isNone && r.pulse.isNone

/-- R2, R182: the fields of a climate block, or none where a field or a presence is refused with BAD_VALUE. The two
setpoints, of temperature and of humidity, and the delta are read as signed. -/
def readClimate (b : ClimateBlock) : Option RawClimate :=
  match heatModeOf b.mode.toNat, optional b.humidityPresence b.humidity.toInt,
      optional b.pulsePresence (SteamPulse.mk b.pulsePeriod.toNat b.pulseOnTime.toNat),
      optional b.deltaPresence b.delta.toInt with
  | some mode, some humidity, some pulse, some delta =>
    let r : RawClimate := ⟨mode, b.setpoint.toInt, b.fan.toNat, humidity, pulse, delta⟩
    if r.presenceOk then some r else none
  | _, _, _, _ => none

/-- R2: the pulse period is clamped first, then the on-time against the clamped period. -/
def SteamPulse.clamp (u : SteamPulse) : SteamPulse :=
  let period := clampNat 30 600 u.period
  ⟨period, clampNat 5 (period - 5) u.onTime⟩

/-- R2: a record with every field clamped to its range. -/
def RawClimate.clamp (r : RawClimate) : ClimateParams where
  mode := r.mode
  setpoint := clampInt (modeSetpoint r.mode).1 (modeSetpoint r.mode).2 r.setpoint
  fan := clampNat (modeFan r.mode).1 (modeFan r.mode).2 r.fan
  humidity := r.humidity.map (clampInt 0 100)
  pulse := r.pulse.map SteamPulse.clamp
  delta := r.delta.map (clampInt 10 1500)

/-- R2: the record as it is written, with the mark that a field was clamped; none for BAD_VALUE. -/
def checkClimate (b : ClimateBlock) : Option (ClimateParams × Bool) :=
  (readClimate b).map (fun r =>
    let c := r.clamp
    (c, decide (RawClimate.mk c.mode c.setpoint c.fan c.humidity c.pulse c.delta ≠ r)))

/-- R2: OK, or CLAMPED where a field was clamped. -/
def okOrClamped (clamped : Bool) : ResultCode := if clamped then .clamped else .ok

/-! ### Stage records (R118) -/

/-- R118: the record as it is held, with the mark that a field was clamped; none for BAD_VALUE. -/
def checkStage (b : StageBlock) : Option (Stage × Bool) :=
  match checkClimate b.climate, endConditionOf b.endCondition.toNat, promptPointOf b.promptPoint.toNat with
  | some (params, clamped), some endCondition, some promptPoint =>
    if b.flags.toNat < 16 then
      let duration := clampNat 1 86400 b.duration.toNat
      let coreTarget := clampInt 200 990 b.coreTarget.toInt
      some (⟨params, endCondition, duration, coreTarget, promptPoint, b.promptCode, b.flags.getLsbD 0,
          b.flags.getLsbD 1, b.flags.getLsbD 2, b.flags.getLsbD 3⟩,
        clamped || decide (duration ≠ b.duration.toNat) || decide (coreTarget ≠ b.coreTarget.toInt))
    else none
  | _, _, _ => none

/-- Section 12.4: the climate block of a held record. An absent field carries presence 0 and zero bytes. -/
def ClimateParams.block (c : ClimateParams) : ClimateBlock where
  mode := byteOf (heatModeCode c.mode)
  setpoint := BitVec.ofInt 16 c.setpoint
  fan := byteOf c.fan
  humidityPresence := byteOf c.humidity.isSome.toNat
  humidity := BitVec.ofInt 8 (c.humidity.getD 0)
  pulsePresence := byteOf c.pulse.isSome.toNat
  pulsePeriod := BitVec.ofNat 16 (match c.pulse with
    | some u => u.period
    | none => 0)
  pulseOnTime := BitVec.ofNat 16 (match c.pulse with
    | some u => u.onTime
    | none => 0)
  deltaPresence := byteOf c.delta.isSome.toNat
  delta := BitVec.ofInt 16 (c.delta.getD 0)

/-- Section 12.4: the stage record of a held stage. -/
def Stage.block (t : Stage) : StageBlock where
  climate := t.params.block
  endCondition := byteOf (endConditionCode t.endCondition)
  duration := BitVec.ofNat 32 t.duration
  coreTarget := BitVec.ofInt 16 t.coreTarget
  promptPoint := byteOf (promptPointCode t.promptPoint)
  promptCode := t.promptCode
  flags := byteOf (flagBit 0 t.preheat + flagBit 1 t.noInterrupt + flagBit 2 t.steamPriority + flagBit 3 t.doorContinue)

/-! ### Wire forms (section 12.4) -/

/-- The 14 bytes of a climate block. -/
def climateBytes (b : ClimateBlock) : List Byte :=
  [b.mode, hiByte b.setpoint, loByte b.setpoint, b.fan, b.humidityPresence, b.humidity, b.pulsePresence,
   hiByte b.pulsePeriod, loByte b.pulsePeriod, hiByte b.pulseOnTime, loByte b.pulseOnTime,
   b.deltaPresence, hiByte b.delta, loByte b.delta]

/-- A climate block from its 14 bytes. -/
def climateBlockOf : List Byte → Option ClimateBlock
  | [m, s1, s0, f, hp, h, pp, p1, p0, o1, o0, dp, d1, d0] =>
    some ⟨m, halfOf s1 s0, f, hp, h, pp, halfOf p1 p0, halfOf o1 o0, dp, halfOf d1 d0⟩
  | _ => none

/-- The 24 bytes of a stage record. -/
def stageBytes (b : StageBlock) : List Byte :=
  climateBytes b.climate ++ [b.endCondition] ++ quadBytes b.duration ++ halfBytes b.coreTarget
    ++ [b.promptPoint, b.promptCode, b.flags]

/-- A stage record from its 24 bytes. -/
def stageBlockOf (bytes : List Byte) : Option StageBlock :=
  match climateBlockOf (bytes.take 14), bytes.drop 14 with
  | some climate, [e, d3, d2, d1, d0, c1, c0, p, code, flags] =>
    some ⟨climate, e, quadOf d3 d2 d1 d0, halfOf c1 c0, p, code, flags⟩
  | _, _ => none

/-! ### Requests as frames (R152, R183) -/

/-- The kind of a request. -/
def requestKind : Request → ReqKind
  | .ping => .ping | .reset => .reset | .statusGet => .statusGet | .linkStats => .linkStats
  | .settingGet _ => .settingGet | .settingPut _ _ => .settingPut | .storeDefaults => .storeDefaults
  | .climateSet _ => .climateSet | .climateOff => .climateOff
  | .programClear _ _ _ => .programClear | .stageAppend _ => .stageAppend | .stageGet _ => .stageGet
  | .programStart _ _ => .programStart | .programPause => .programPause | .programResume => .programResume
  | .programAbort => .programAbort | .stageConfirm => .stageConfirm | .stageSkip => .stageSkip
  | .boilerDrain => .boilerDrain | .scaleGet => .scaleGet
  | .descaleStart _ _ => .descaleStart | .descaleConfirm => .descaleConfirm | .descaleAbort => .descaleAbort
  | .descaleGet => .descaleGet
  | .holdEnter _ _ => .holdEnter | .holdExit _ => .holdExit | .standbyEnter => .standbyEnter | .stop => .stop
  | .faultGet => .faultGet | .faultClear _ => .faultClear
  | .nodeGet _ => .nodeGet | .nodeSet _ _ _ _ _ => .nodeSet | .counterGet _ => .counterGet
  | .noticeGet _ => .noticeGet | .noticeEnable _ => .noticeEnable
  | .captureGet => .captureGet | .captureArm _ _ => .captureArm | .captureRelease _ => .captureRelease

/-- The payload of a request (R183). -/
def requestPayload : Request → List Byte
  | .settingGet item => [item]
  | .settingPut item v => [item, v.b0, v.b1, v.b2, v.b3, v.b4]
  | .climateSet b => climateBytes b
  | .programClear a h m => [a, hiByte h, loByte h, m]
  | .stageAppend b => stageBytes b
  | .stageGet i => [i]
  | .programStart p i => [p, i]
  | .descaleStart p m => [p, m]
  | .holdEnter h m => [hiByte h, loByte h, m]
  | .holdExit a => [a]
  | .faultClear k => [k]
  | .nodeGet a => [a]
  | .nodeSet a m s w t => [a, m, s, w, hiByte t, loByte t]
  | .counterGet z => [z]
  | .noticeGet c => halfBytes c
  | .noticeEnable e => halfBytes e
  | .captureArm t s => [hiByte t, loByte t, s]
  | .captureRelease d => [d]
  | .ping => [] | .reset => [] | .statusGet => [] | .linkStats => [] | .storeDefaults => [] | .climateOff => []
  | .programPause => [] | .programResume => [] | .programAbort => [] | .stageConfirm => [] | .stageSkip => []
  | .boilerDrain => [] | .scaleGet => [] | .descaleConfirm => [] | .descaleAbort => [] | .descaleGet => []
  | .standbyEnter => [] | .stop => [] | .faultGet => [] | .captureGet => []

/-- The frame of a request: its kind byte and its payload (R152, R183). -/
def encodeRequest (q : Request) : Frame := ⟨(requestKind q).code, requestPayload q⟩

/-- A request without fields: its payload is empty. -/
def bare (q : Request) : List Byte → Option Request
  | [] => some q
  | _ :: _ => none

/-- A request with one field of one byte. -/
def withByte (f : Byte → Request) : List Byte → Option Request
  | [a] => some (f a)
  | _ => none

/-- The request that a payload spells for a kind; none where the length is not the kind's. -/
def readPayload (k : ReqKind) (bytes : List Byte) : Option Request :=
  match k with
  | .ping => bare .ping bytes
  | .reset => bare .reset bytes
  | .statusGet => bare .statusGet bytes
  | .linkStats => bare .linkStats bytes
  | .settingGet => withByte .settingGet bytes
  | .settingPut => match bytes with
    | [i, a, b, c, d, e] => some (.settingPut i ⟨a, b, c, d, e⟩)
    | _ => none
  | .storeDefaults => bare .storeDefaults bytes
  | .climateSet => (climateBlockOf bytes).map .climateSet
  | .climateOff => bare .climateOff bytes
  | .programClear => match bytes with
    | [a, h1, h0, m] => some (.programClear a (halfOf h1 h0) m)
    | _ => none
  | .stageAppend => (stageBlockOf bytes).map .stageAppend
  | .stageGet => withByte .stageGet bytes
  | .programStart => match bytes with
    | [p, i] => some (.programStart p i)
    | _ => none
  | .programPause => bare .programPause bytes
  | .programResume => bare .programResume bytes
  | .programAbort => bare .programAbort bytes
  | .stageConfirm => bare .stageConfirm bytes
  | .stageSkip => bare .stageSkip bytes
  | .boilerDrain => bare .boilerDrain bytes
  | .scaleGet => bare .scaleGet bytes
  | .descaleStart => match bytes with
    | [p, m] => some (.descaleStart p m)
    | _ => none
  | .descaleConfirm => bare .descaleConfirm bytes
  | .descaleAbort => bare .descaleAbort bytes
  | .descaleGet => bare .descaleGet bytes
  | .holdEnter => match bytes with
    | [h1, h0, m] => some (.holdEnter (halfOf h1 h0) m)
    | _ => none
  | .holdExit => withByte .holdExit bytes
  | .standbyEnter => bare .standbyEnter bytes
  | .stop => bare .stop bytes
  | .faultGet => bare .faultGet bytes
  | .faultClear => withByte .faultClear bytes
  | .nodeGet => withByte .nodeGet bytes
  | .nodeSet => match bytes with
    | [a, m, s, w, t1, t0] => some (.nodeSet a m s w (halfOf t1 t0))
    | _ => none
  | .counterGet => withByte .counterGet bytes
  | .noticeGet => match bytes with
    | [c1, c0] => some (.noticeGet (halfOf c1 c0))
    | _ => none
  | .noticeEnable => match bytes with
    | [e1, e0] => some (.noticeEnable (halfOf e1 e0))
    | _ => none
  | .captureGet => bare .captureGet bytes
  | .captureArm => match bytes with
    | [t1, t0, s] => some (.captureArm (halfOf t1 t0) s)
    | _ => none
  | .captureRelease => withByte .captureRelease bytes

/-- The request that a frame spells; none for an unknown kind or a wrong length (R158). -/
def decodeRequest (f : Frame) : Option Request :=
  match ReqKind.ofCode f.kind with
  | some k => readPayload k f.payload
  | none => none

end Sys2Proof.Machine
end

