-- ==== Sys2Proof/Machine/Climate.lean ====
section
/-! DEFINITION. Chapter 1: the climate regulator. Parameter writes, the start and end of cooking, the climate period,
steam demand, the vent and the tach latch. What happens to other blocks because of a raised fault stands in Faults.lean. -/

namespace Sys2Proof.Machine

/-! ### The indication that the cavity has reached temperature (R124) -/

/-- R124: what passing the preheat gate does in RUNNING: the AFTER_PREHEAT prompt, or the step COUNTING. -/
def Part.passGate (p : Part) : Part :=
  match p.program.current with
  | some st =>
    if st.promptPoint = .afterPreheat then
      Part.raiseNotice { p with program.state := .waiting, program.reason := some .prompt } .prompt
    else { p with program.step := .counting }
  | none => p

/-- R124: the indication reaches the executor. In PREHEATING it sets the preheat-reached flag; in RUNNING the gate is
then passed at once. -/
def Part.tellReached (p : Part) : Part :=
  if p.program.state.runs && p.program.state != .boundaryWait && !p.program.pausedAtBoundary
      && p.program.step = .preheating && !p.program.preheatReached then
    let q : Part := { p with program.preheatReached := true }
    if q.program.state = .running then q.passGate else q
  else p

/-- R7, R8: PREHEAT_REACHED is raised and the executor is told. -/
def Part.cavityReached (p : Part) : Part := (p.raiseNotice .preheatReached).tellReached

/-! ### Setpoint in force and demands -/

/-- R13: the delta value of a core reading. -/
def deltaValue (cap core delta : Int) : Int :=
  let low := if cap < core + delta then cap else core + delta
  if low < 300 then 300 else low

/-- R4, R7, R13: Ts at a parameter write. A delta written with an invalid core reading gives 30.0 °C (log entry 36). -/
def tsAtWrite (img : Image) (c : ClimateParams) : Int :=
  match c.delta, img.tcore with
  | none, _ => c.setpoint
  | some d, some core => deltaValue c.setpoint core d
  | some _, none => 300

/-- R11, R13: Ts at a climate period expiry; with an invalid core reading it keeps its value. -/
def tsAtExpiry (img : Image) (c : ClimateParams) (last : Option Int) : Int :=
  match c.delta, img.tcore with
  | none, _ => c.setpoint
  | some d, some core => deltaValue c.setpoint core d
  | some _, none => last.getD 300

/-- R8: the setpoint in force has risen by more than 20.0 °C. -/
def raised (before : Option Int) (after : Int) : Bool :=
  match before with
  | some b => decide (b + 200 < after)
  | none => false

/-- R7, R8: the handover value of the integral. -/
def handover (groupMax : Nat) (ts : Int) : Int := clampInt 0 groupMax (groupMax * ts / 5000)

/-- R11 step 6: the split of a demand under given ratings. -/
def splitDemand (ratings : PerElement Nat) (m : HeatMode) (d : Int) : PerElement Nat :=
  .of (fun e => clampNat 0 (ratings.get e) (d.toNat * modeShare m e / 100))

/-- R1: the regulator reads the ratings, at each climate period expiry and at each parameter write. -/
def Part.readRatings (p : Part) : Part := { p with climate.ratings := p.store.ratings }

/-- R1: the group maximum of a mode under the ratings that the regulator has last read. -/
def Climate.groupMax (c : Climate) (m : HeatMode) : Nat := groupMaxOf c.ratings m

/-- R11, R21: the demand is 0 during mains loss, and while FAN_STALL is latched in a fan mode (log entry 18). -/
def Part.demandHeld (p : Part) (m : HeatMode) : Bool :=
  p.mode.mainsLoss || (hasFault p.mode.faults .fanStall && m.fanMode)

/-- R7, R11, R27: write the element demands from a demand in a mode; the demand is kept with them (log entry 19). -/
def Part.giveDemand (p : Part) (m : HeatMode) (d : Int) : Part :=
  let e := if p.demandHeld m then 0 else d
  { p with climate.given := e, power.demands := splitDemand p.climate.ratings m e }

/-- Every element demand 0. -/
def Part.noDemand (p : Part) : Part := { p with climate.given := 0, power.demands := .all 0 }

/-! ### Steam-wanted flag (R14, R15) -/

/-- R14: the rules that force the flag clear. -/
def Part.steamHeldClear (p : Part) : Bool :=
  p.scale.lock || p.mode.mainsLoss || p.program.state = .boundaryWait || !p.climate.state.active

/-- R14, R15: the value that a test gives the flag. -/
def Part.steamTestValue (p : Part) : Bool :=
  if p.steamHeldClear then false
  else match p.climate.params with
    | none => false
    | some c =>
      if c.mode = .steam then
        match p.ring.image.tc, p.climate.ts with
        | some tc, some ts => if tc < ts - 10 then true else if ts ≤ tc then false else p.climate.steamWanted
        | _, _ => false
      else if c.mode = .combi then
        match c.humidity, c.pulse with
        | some hs, _ =>
          match p.ring.image.humidity with
          | some h => if h < 2 * hs - 6 then true else if 2 * hs ≤ h then false else p.climate.steamWanted
          | none => false
        | none, some u => decide (p.climate.pulseCount < u.onTime)
        | none, none => false
      else false

/-- R14: a test of the flag. -/
def Part.steamTest (p : Part) : Part := { p with climate.steamWanted := p.steamTestValue }

/-! ### Vent (R16) -/

/-- R14, R16: the target that the climate asks for. In COMBI with a humidity setpoint, with the lock set and the humidity
reading invalid together, R14 gives OPEN for the lock and CLOSED for the reading: the lock wins here (log entry 58). -/
def Part.ventWanted (p : Part) : VentTarget :=
  match p.climate.state, p.climate.params with
  | .doorPause, _ => p.climate.ventTarget
  | .off, _ => .opened
  | .coolRun, _ => .opened
  | _, none => .opened
  | _, some c =>
    if c.mode = .steam then .closed
    else if c.mode = .combi then
      if p.scale.lock then .opened
      else match c.humidity with
        | none => .closed
        | some hs =>
          match p.ring.image.humidity with
          | none => .closed
          | some h => if 2 * hs + 16 ≤ h then .opened else if h ≤ 2 * hs + 4 then .closed else p.climate.ventTarget
    else .opened

/-- R16, R21, R143: no drive runs during mains loss and in STANDBY. -/
def Part.driveHeld (p : Part) : Bool := p.mode.mainsLoss || p.mode.mode = .standby

/-- R16: the target takes a value; a change starts a drive with a fresh 8 s, or is left for the next start of cooking
where the drive is held (log entry 20). -/
def Part.setVent (p : Part) (t : VentTarget) : Part :=
  if p.climate.ventTarget = t then p
  else if p.driveHeld then { p with climate.ventTarget := t, climate.ventRedrive := true }
  else { p with climate.ventTarget := t, climate.ventDrive := some t, climate.ventRedrive := false }

/-- R16: the target follows the climate. -/
def Part.ventTest (p : Part) : Part := p.setVent p.ventWanted

/-- R16: at the start of cooking the vent is driven again where a drive was stopped. -/
def Part.ventAtStart (p : Part) : Part :=
  if p.climate.ventRedrive && !p.driveHeld then
    { p with climate.ventDrive := some p.climate.ventTarget, climate.ventRedrive := false }
  else p

/-- R16: the drive stops at the matching end switch of a new image. -/
def Part.ventEndSwitch (p : Part) : Part :=
  match p.climate.ventDrive with
  | some .opened => if p.ring.image.ventOpenEnd then { p with climate.ventDrive := none } else p
  | some .closed => if p.ring.image.ventClosedEnd then { p with climate.ventDrive := none } else p
  | none => p

/-- R16: a running drive stops at mains loss and at standby entry. -/
def Part.stopVentDrive (p : Part) : Part :=
  if p.climate.ventDrive.isSome then { p with climate.ventDrive := none, climate.ventRedrive := true } else p

/-! ### Parameter writes (R4, R7) -/

/-- R15: a write that carries a pulse restarts the pulse timer, one without stops it (log entry 21). -/
def Part.pulseAtWrite (p : Part) (c : ClimateParams) : Part :=
  match c.pulse with
  | some u => { p with
      climate.pulseCount := 0
      climate.pulseTimer := Timer.startUnless (p.mode.mainsLoss || p.climate.state = .doorPause) u.period }
  | none => { p with climate.pulseCount := 0, climate.pulseTimer := .stopped }

/-- R7: the cavity is too cold for REGULATE. -/
def cold (img : Image) (ts : Int) : Bool :=
  match img.tc with
  | some tc => decide (tc < ts - 50)
  | none => true

/-- R7 step 4: the demands of a cooking state, under the ratings last read. -/
def Part.demandOf (p : Part) (st : ClimateState) (c : ClimateParams) : Part :=
  let groupMax := p.climate.groupMax c.mode
  match st with
  | .preheat => p.giveDemand c.mode groupMax
  | .regulate => p.giveDemand c.mode (clampInt 0 groupMax p.climate.integral)
  | .off => p.noDemand
  | .doorPause => p.noDemand
  | .coolRun => p.noDemand

/-- R7: a write in OFF or COOL_RUN starts cooking. -/
def Part.startCooking (p : Part) (c : ClimateParams) : Part :=
  let ts := tsAtWrite p.ring.image c
  let groupMax := p.store.groupMax c.mode
  let chosen : ClimateState := if cold p.ring.image ts then .preheat else .regulate
  let opened := !p.ring.image.doorClosed
  let state : ClimateState := if opened then .doorPause else chosen
  let q : Part := { p.readRatings with
    climate.params := some c
    climate.ts := some ts
    climate.tsExpiry := some ts
    climate.state := state
    climate.returnTo := if opened then some chosen else none
    climate.reachedOwed := opened && chosen = .regulate
    climate.integral := if chosen = .preheat || p.mode.mainsLoss then 0 else handover groupMax ts
    climate.grantFresh := false
    climate.periodTimer := .start 1000 }
  let r := ((((q.demandOf state c).pulseAtWrite c).steamTest).ventTest).ventAtStart
  if state = .regulate then r.cavityReached else r

/-- R4, R27: the demands that a write in a cooking state leaves: the group maximum where `full` says so, else the demand
last computed, both under the ratings that the write has read; none in DOOR_PAUSE (log entry 48). -/
def Part.rewriteDemand (p : Part) (c : ClimateParams) (full : Bool) : Part :=
  let groupMax := p.climate.groupMax c.mode
  match p.climate.state with
  | .preheat => p.giveDemand c.mode (if full then groupMax else clampInt 0 groupMax p.climate.given)
  | .regulate => p.giveDemand c.mode (clampInt 0 groupMax p.climate.given)
  | .off => p.noDemand
  | .doorPause => p.noDemand
  | .coolRun => p.noDemand

/-- R4: a change of mode clamps I to the new mode's group maximum. -/
def Part.clampIntegral (p : Part) (m : HeatMode) : Part :=
  { p with climate.integral := clampInt 0 (p.climate.groupMax m) p.climate.integral }

/-- R4: the raise test of a write, in REGULATE or for REGULATE as the state to return to. -/
def Part.raiseReturn (p : Part) (rise : Bool) : Part :=
  if !rise then p
  else match p.climate.state, p.climate.returnTo with
    | .regulate, _ => { p with climate.state := .preheat, climate.integral := 0 }
    | .doorPause, some .regulate =>
      { p with climate.returnTo := some .preheat, climate.integral := 0, climate.reachedOwed := false }
    | _, _ => p

/-- R4: a write in a cooking state. The raise test comes before the demands: a write in REGULATE that raises Ts by more
than 20.0 °C and changes the mode gives the new group maximum at once, as R4 gives for PREHEAT, and one that keeps the mode
leaves the demand last computed until the next expiry, as R8 gives (log entry 48). -/
def Part.updateClimate (p : Part) (c : ClimateParams) : Part :=
  let ts := tsAtWrite p.ring.image c
  let changed := match p.climate.params with
    | some old => decide (old.mode ≠ c.mode)
    | none => true
  let q := Part.raiseReturn { p.readRatings with climate.params := some c, climate.ts := some ts }
    (raised p.climate.ts ts)
  let r := if changed then q.clampIntegral c.mode else q
  (((r.rewriteDemand c (changed || p.climate.state = .preheat)).pulseAtWrite c).steamTest).ventTest

/-- R4: an accepted write of climate parameters. -/
def Part.writeClimate (p : Part) (c : ClimateParams) : Part :=
  if p.climate.state.cooking then p.updateClimate c else p.startCooking c

/-! ### End of cooking and forced off (R6, R10) -/

/-- R6, R10: what ending cooking leaves in the regulator, whichever state follows (log entry 35 for Ts). -/
def Part.clearClimate (p : Part) (next : ClimateState) : Part :=
  let q : Part := { p with
    climate.state := next
    climate.params := none
    climate.ts := none
    climate.tsExpiry := none
    climate.integral := 0
    climate.returnTo := none
    climate.reachedOwed := false
    climate.steamWanted := false
    climate.periodTimer := .stopped
    climate.pulseTimer := .stopped
    climate.pulseCount := 0 }
  q.noDemand.setVent .opened

/-- R10: Tc is valid and above the run-on threshold, item 21. -/
def Part.runOnHot (p : Part) : Bool :=
  match p.ring.image.tc with
  | some tc => decide ((p.store.num 21 : Int) < tc)
  | none => false

/-- R6, R10: end of cooking. It changes nothing in OFF and COOL_RUN. -/
def Part.endCooking (p : Part) : Part :=
  if p.climate.state.cooking then p.clearClimate (if p.runOnHot then .coolRun else .off) else p

/-- R6: forced off. It changes nothing in OFF. -/
def Part.forcedOff (p : Part) : Part :=
  if p.climate.state = .off then p else p.clearClimate .off

/-! ### Door (R9) -/

/-- R9: the door changes to open. -/
def Part.climateDoorOpen (p : Part) : Part :=
  if p.climate.state.active then
    Part.noDemand { p with
      climate.state := .doorPause
      climate.returnTo := some p.climate.state
      climate.reachedOwed := false
      climate.steamWanted := false
      climate.pulseTimer := p.climate.pulseTimer.pause }
  else p

/-- R9: the door changes to closed. The steam test of the same completion follows. -/
def Part.climateDoorClose (p : Part) : Part :=
  match p.climate.state, p.climate.returnTo, p.climate.params with
  | .doorPause, some back, some c =>
    let q := Part.demandOf { p with
      climate.state := back
      climate.returnTo := none
      climate.reachedOwed := false
      climate.pulseTimer := if p.mode.mainsLoss then p.climate.pulseTimer else p.climate.pulseTimer.resume } back c
    if p.climate.reachedOwed then q.cavityReached else q
  | _, _, _ => p

/-! ### Climate period (R11, R12) -/

/-- R12: an element of the group was curtailed in the grant set of the most recent burst window. -/
def Part.groupCurtailed (p : Part) (m : HeatMode) : Bool :=
  p.climate.grantFresh && (modeGroup m).any (fun g => p.power.grants.curtailed.get g.1)

/-- R12: the integral is frozen this period. `sum` is P + I before the update. -/
def Part.frozen (p : Part) (m : HeatMode) (e sum : Int) : Bool :=
  (hasFault p.mode.faults .fanStall && m.fanMode) || p.groupCurtailed m
    || decide (0 < e ∧ (p.climate.groupMax m : Int) ≤ sum) || decide (e < 0 ∧ sum ≤ 0)

/-- R11 steps 2 to 6 in REGULATE, with Tc valid. -/
def Part.regulate (p : Part) (c : ClimateParams) (ts tc : Int) : Part :=
  let groupMax := p.climate.groupMax c.mode
  let e := clampInt (-1000) 1000 (ts - tc)
  let prop := ((p.store.num 10 : Int) * e).tdiv 10
  let i := p.climate.integral
  let moved := if p.frozen c.mode e (prop + i) then i else i + ((p.store.num 11 : Int) * e).tdiv 160
  let kept := clampInt 0 groupMax moved
  Part.giveDemand { p with climate.integral := kept } c.mode (clampInt 0 groupMax (prop + kept))

/-- R8: the exit from PREHEAT with its handover value; the period is then computed in REGULATE. -/
def Part.preheatExit (p : Part) (c : ClimateParams) (ts tc : Int) : Part :=
  Part.cavityReached
    (Part.regulate { p with climate.state := .regulate, climate.integral := handover (p.climate.groupMax c.mode) ts } c ts tc)

/-- R11 steps 2 to 6, after Ts and the raise test. An expiry in DOOR_PAUSE does none of them, so it does not clamp I to a
group maximum that a rating change has lowered, although R12 lists DOOR_PAUSE as frozen (log entry 64). -/
def Part.periodDemand (p : Part) (c : ClimateParams) (ts : Int) : Part :=
  let groupMax := p.climate.groupMax c.mode
  match p.climate.state, p.ring.image.tc with
  | .preheat, some tc => if ts - 50 ≤ tc then p.preheatExit c ts tc else p.giveDemand c.mode groupMax
  | .preheat, none => p.noDemand
  | .regulate, some tc => p.regulate c ts tc
  | .regulate, none => Part.noDemand { p with climate.integral := clampInt 0 groupMax p.climate.integral }
  | .off, _ => p.noDemand
  | .doorPause, _ => p.noDemand
  | .coolRun, _ => p.noDemand

/-- R11: the demand written at an expiry is the period's D. -/
def Part.keepDemand (p : Part) : Part := { p with climate.demand := p.climate.given }

/-- R11, R21: an expiry of the climate period timer. -/
def Part.climatePeriod (p : Part) : Part :=
  match p.climate.params with
  | none => p
  | some c =>
    let ts := tsAtExpiry p.ring.image c p.climate.ts
    if p.mode.mainsLoss then
      (Part.noDemand { p.readRatings with climate.ts := some ts, climate.integral := 0 }).keepDemand
    else
      let q := Part.raiseReturn { p.readRatings with climate.ts := some ts, climate.tsExpiry := some ts }
        (raised p.climate.tsExpiry ts)
      (q.periodDemand c ts).keepDemand

/-! ### Scan completions, pulses, mains (R10, R14 to R16, R21) -/

/-- R10: COOL_RUN is left for OFF when Tc is valid and at or below the run-on threshold. -/
def Part.coolRunEnd (p : Part) : Part :=
  if p.climate.state = .coolRun && p.ring.image.tc.isSome && !p.runOnHot then { p with climate.state := .off } else p

/-- R14, R16: the regulator's tests at a scan completion, after the door has been acted on. -/
def Part.climateScan (p : Part) : Part := (((p.coolRunEnd).steamTest).ventTest).ventEndSwitch

/-- R15: a second counted by the pulse timer. -/
def Part.pulseTick (p : Part) : Part :=
  match p.climate.pulseTimer with
  | .running period =>
    Part.steamTest { p with
      climate.pulseCount := if p.climate.pulseCount + 1 < period then p.climate.pulseCount + 1 else 0 }
  | .paused _ => p
  | .stopped => p

/-- R21: the onset of mains loss. The condition is set. -/
def Part.climateMainsLoss (p : Part) : Part :=
  Part.stopVentDrive (Part.noDemand { p with
    climate.integral := 0
    climate.steamWanted := false
    climate.pulseTimer := p.climate.pulseTimer.pause })

/-- R21: the return of the mains. The condition is clear. -/
def Part.climateMainsReturn (p : Part) : Part :=
  Part.steamTest { p with
    climate.grantFresh := false
    climate.pulseTimer := if p.climate.state = .doorPause then p.climate.pulseTimer else p.climate.pulseTimer.resume }

/-- R22: a wake leaves the regulator with its values after reset, but for the stall count, the fan tach latch and the
overtemperature condition. The window in progress goes on (R38), so its TACH count and its opening level stay (R18). -/
def Climate.wake (c : Climate) : Climate :=
  { Climate.reset with
    stallCount := c.stallCount
    tachLatch := c.tachLatch
    tachCount := c.tachCount
    windowFan := c.windowFan
    overtemp := c.overtemp
    ventRedrive := c.ventRedrive }

/-! ### Fan tach (R18) -/

/-- R18: the measured speed of a window, rpm. -/
def tachSpeed (f : FreqClass) (count : Nat) : Nat :=
  match f with
  | .hz60 => count * 36
  | .hz50 => count * 30
  | .unknown => count * 30

/-- R18: the latch and the stall count at a boundary. FAN_STALL is raised by the caller when the count reaches 3. -/
def Part.latchTach (p : Part) : Part :=
  let commanded := p.climate.windowFan && decide (1 ≤ p.fanLevel)
  let stalled := commanded && decide (tachSpeed p.power.freq p.climate.tachCount < 300)
  { p with
    climate.tachLatch := p.climate.tachCount
    climate.tachCount := 0
    climate.stallCount := if stalled then bump 3 p.climate.stallCount else 0
    climate.windowFan := decide (1 ≤ p.fanLevel) }

end Sys2Proof.Machine
end

