-- ==== Sys2Proof/Machine/Power.lean ====
section
/-! DEFINITION. Chapter 2: the power allocator. The grant pass of a window boundary, withdrawals, the frequency
measurement and the return run. Times of crossings are in microseconds (log entry 10). -/

namespace Sys2Proof.Machine

/-! ### Relay and dwell (R28) -/

/-- R28: an opening of the relay sets both dwell counts to 0; an open relay is not opened again. -/
def Power.openRelay (w : Power) : Power :=
  if w.relay then { w with relay := false, onDwell := 0, offDwell := 0 } else w

/-- R32: a grant closes an open relay and sets the on-dwell to 0; a closed relay stays closed. -/
def Power.closeRelay (w : Power) : Power :=
  if w.relay then w else { w with relay := true, onDwell := 0 }

/-- R28: step 1 of a boundary. -/
def Power.updateDwell (w : Power) : Power :=
  if w.relay then { w with onDwell := bump 255 w.onDwell } else { w with offDwell := bump 255 w.offDwell }

/-! ### Interlocks and order (R30, R31) -/

/-- R30: the cavity inhibition. -/
def Part.cavityInhibited (p : Part) : Bool :=
  !p.ring.image.doorClosed || !p.ring.linked .cavityTemp || p.critical || p.mode.mode = .standby

/-- R30: the boiler interlock lets the boiler be granted. -/
def Part.boilerAllowed (p : Part) : Bool :=
  p.ring.image.lowWet
    && (match p.ring.image.boilerTemp with
      | some t => decide (t < 1400)
      | none => false)
    && !p.steamFault && !p.critical && p.mode.mode != .standby

/-- R31: the priority of the boiler. -/
def Part.boilerPriority (p : Part) : Bool :=
  p.program.steamPriority || (p.mode.mode = .hold && p.mode.holdMoist) || p.boiler.owner = .descale

/-- R31: the boiler goes before the cavity group. -/
def Part.boilerFirst (p : Part) : Bool :=
  (p.power.relay && decide (p.power.onDwell < 5)) || decide (10 ≤ p.power.deferral) || p.boilerPriority

/-! ### Grants (R27, R32 to R35) -/

/-- R27: the element demands, each capped at the rating in force. -/
def Part.cappedDemands (p : Part) : PerElement Nat :=
  .of (fun e => clampNat 0 (p.store.rating e) (p.power.demands.get e))

/-- R1, R31: the claimants of the cavity group, in grant order; none under the cavity inhibition. -/
def Part.claimants (p : Part) : List Element :=
  if p.cavityInhibited then []
  else match p.climate.params with
    | some c => (modeGroup c.mode).map Prod.fst
    | none => []

/-- R33: what the pass over the elements has granted so far, and the power that remains. -/
structure Granting where
  watts : PerElement Nat
  curtailed : PerElement Bool
  remains : Nat
deriving DecidableEq, Repr

/-- R33: the pass over the elements. -/
def grantElements (demands : PerElement Nat) : List Element → Granting → Granting
  | [], g => g
  | e :: rest, g =>
    let d := demands.get e
    let given := if d < g.remains then d else g.remains
    grantElements demands rest
      ⟨g.watts.put e given, g.curtailed.put e (decide (given < d)), g.remains - given⟩

/-- R35: the on-cycle count of a grant under a rating. -/
def onCycleCount (grant rating : Nat) : Nat := grant * 50 / rating

/-- R32: the boiler is granted its rating when its turn comes with this power remaining. -/
def Part.boilerFits (p : Part) (remains : Nat) : Bool :=
  decide (p.store.num 1 ≤ remains) && (p.power.relay || decide (3 ≤ p.power.offDwell))

/-- R23 steps 2 to 6, on the dwell counts as updated at step 1. -/
def Part.grantWindow (p : Part) : Part :=
  let budget := p.store.num 0
  let aux := p.auxLoad
  let available := budget - aux
  let rating := p.store.num 1
  let requested := p.power.boilerRequest && p.boilerAllowed
  let start : Granting := ⟨.all 0, .all false, available⟩
  let before := requested && p.boilerFirst && p.boilerFits available
  let group := grantElements p.cappedDemands p.claimants
    { start with remains := if before then available - rating else available }
  let granted := before || (requested && !p.boilerFirst && p.boilerFits group.remains)
  let relay := if granted then p.power.closeRelay else p.power.openRelay
  { p with power := { relay with
      grants := ⟨group.watts, group.curtailed, if granted then rating else 0,
        .of (fun e => onCycleCount (group.watts.get e) (p.store.rating e))⟩
      deferral :=
        if granted then 0
        else if requested then bump 255 p.power.deferral
        else if p.power.boilerRequest then p.power.deferral
        else 0
      crossing := 0
      withdrawn := false
      budget := budget
      aux := aux
      available := available } }

/-! ### Withdrawals (R36 to R38) -/

/-- R36: the gates are released for the rest of the window; granted watts become 0, curtailed flags keep. -/
def Part.withdrawCavity (p : Part) : Part :=
  { p with power.withdrawn := true, power.grants.watts := .all 0 }

/-- R37: the relay opens for the rest of the window and the boiler grant becomes 0. -/
def Part.withdrawBoiler (p : Part) : Part :=
  if p.power.relay then { p with power := { p.power.openRelay with grants.boiler := 0 } } else p

/-- R37: the image asks for a boiler withdrawal. -/
def Image.boilerUnsafe (i : Image) : Bool :=
  !i.lowWet || (match i.boilerTemp with
    | some t => decide (1400 ≤ t)
    | none => true)

/-! ### Frequency and mains (R23 to R26) -/

/-- R24: the class of the time of 10 half-cycles, microseconds. -/
def classify (t : Nat) : FreqClass :=
  if 94300 ≤ t ∧ t ≤ 106400 then .hz50 else if 79400 ≤ t ∧ t ≤ 87700 then .hz60 else .unknown

/-- R25: a gap without a crossing, microseconds, after which the mains is lost. -/
def lossGap : Nat := 25000

/-- R23: a first window, without grants, opens at this crossing. -/
def Part.openFirstWindow (p : Part) : Part :=
  { p with
    power.counting := true
    power.crossing := 0
    power.withdrawn := false
    climate.tachCount := 0
    climate.windowFan := false }

/-- R25: what the onset does in the allocator. -/
def Power.lose (w : Power) : Power :=
  { w.openRelay with
    grants := .zero
    counting := false
    crossing := 0
    returnRun := 0
    returnTime := 0 }

/-- R26: the run after a crossing of the return run, and whether the measured class lets it go on. The first 10
half-cycles end at the 11th crossing of the run. -/
def Power.returnCrossing (w : Power) (gap : Nat) : Power :=
  if w.returnRun = 0 ∨ lossGap < gap then { w with returnRun := 1, returnTime := 0 }
  else if w.returnRun < 10 then { w with returnRun := w.returnRun + 1, returnTime := w.returnTime + gap }
  else if w.returnRun = 10 then
    let c := classify (w.returnTime + gap)
    if c = .unknown ∨ (w.freq ≠ .unknown ∧ c ≠ w.freq) then { w with returnRun := 0, returnTime := 0 }
    else { w with freq := c, returnRun := 11, returnTime := w.returnTime + gap }
  else { w with returnRun := w.returnRun + 1 }

/-- R26: this crossing is the 50th of the run. -/
def Power.completesReturn (w : Power) (gap : Nat) : Bool := w.returnRun = 49 && decide (gap ≤ lossGap)

/-- R23: this crossing closes the window. -/
def Power.closesWindow (w : Power) (gap : Nat) : Bool := w.counting && w.crossing = 99 && decide (gap ≤ lossGap)

/-- R24: this crossing ends the 10th half-cycle of the start-up measurement. -/
def Power.endsMeasurement (w : Power) (gap : Nat) : Bool :=
  match w.measure with
  | .timing n _ => n = 9 && decide (gap ≤ lossGap)
  | .waiting => false
  | .none => false

end Sys2Proof.Machine
end

