-- ==== Sys2Proof/Machine/Scale.lean ====
section
/-! DEFINITION. Chapter 5: the scale tracker's records. Accruals, the due test, the steam lock, drain completions and the
load step. Requests and their settlement stand in Settlement.lean. -/

namespace Sys2Proof.Machine

/-- R87: the lock threshold for a due threshold. -/
def lockThreshold (due : Nat) : Nat := clampNat 0 65535 (due * 5 / 4)

/-- R87: the load is at or above the lock threshold. -/
def Part.lockByLoad (p : Part) : Bool := decide (lockThreshold (p.store.num 13) ≤ p.scale.load)

/-- R87: the steam lock is evaluated. -/
def Part.evaluateLock (p : Part) : Part :=
  { p with scale.lock := p.lockByLoad || p.descale.record.rinseOwed }

/-- R86: the due test. -/
def Part.dueTest (p : Part) : Part :=
  if p.scale.dueArmed && decide (p.store.num 13 ≤ p.scale.load) then
    Part.raiseNotice { p with scale.dueArmed := false } .descaleDue
  else p

/-- R90: the scale record is queued, and the last queued load follows it. -/
def Part.queueScale (p : Part) : Part :=
  Part.queueItem { p with scale.lastQueued := p.scale.load } 14 (.scale p.scale.load p.scale.remainder)

/-- R90: the blowdown record is queued. -/
def Part.queueBlowdown (p : Part) : Part :=
  p.queueItem 15 (.blowdown p.scale.progress p.scale.owed p.scale.credit p.scale.flush)

/-- R89: the loop of the evaporation accrual. The count bounds its turns: a progress below 100000 and an interval of at
least 1000 take fewer than 100. -/
def Scale.evaporate (interval : Nat) : Nat → Scale → Scale
  | 0, t => t
  | n + 1, t =>
    if t.progress < interval then t
    else
      let u := { t with progress := t.progress - interval }
      if 0 < u.credit then Scale.evaporate interval n { u with credit := u.credit - 1 }
      else if u.owed < 5 then Scale.evaporate interval n { u with owed := u.owed + 1 }
      else { u with progress := interval - 1 }

/-- R89: the evaporation accrual of a volume. -/
def Part.accrueEvaporation (p : Part) (volume : Nat) : Part :=
  { p with scale := Scale.evaporate (p.store.num 17) 100 { p.scale with progress := p.scale.progress + volume } }

/-- R94: the top-up suspension follows its condition. -/
def Part.followSuspension (p : Part) : Part := { p with scale.suspended := p.suspends }

/-- R85: the deposit of a volume. -/
def Part.deposit (p : Part) (volume : Nat) : Part :=
  let t := volume * p.store.num 12 + p.scale.remainder
  { p with scale.load := clampNat 0 65535 (p.scale.load + t / 100), scale.remainder := t % 100 }

/-- R85: one accrual of a top-up volume, with the record writes of R90: item 14 before item 15 (log entry 41). -/
def Part.accrue (p : Part) (volume : Nat) : Part :=
  let q := ((((p.deposit volume).accrueEvaporation volume).dueTest).evaluateLock).followSuspension
  let r := if p.scale.lastQueued + 100 ≤ q.scale.load then q.queueScale else q
  r.queueBlowdown

/-- R90: the blowdown record is queued where owed, credit or flush-required differ from what they were. -/
def Part.queueIfOwing (before after : Part) : Part :=
  if (before.scale.owed, before.scale.credit, before.scale.flush)
      = (after.scale.owed, after.scale.credit, after.scale.flush) then after
  else after.queueBlowdown

/-- R90: an accepted write to item 17 queues the blowdown record where it changes the record. -/
def Part.queueIfChanged (before after : Part) : Part :=
  if (before.scale.progress, before.scale.owed, before.scale.credit, before.scale.flush)
      = (after.scale.progress, after.scale.owed, after.scale.credit, after.scale.flush) then after
  else after.queueBlowdown

/-- R84: a descale completion at the tracker, with the record writes of R90: item 14 before item 15 (log entry 41). -/
def Part.scaleDescaled (p : Part) : Part :=
  let q := Part.evaluateLock { p with
    scale.load := 0
    scale.remainder := 0
    scale.dueArmed := true
    scale.flush := true }
  q.queueScale.queueBlowdown

/-- R95: the pull-in of a completed NORMAL drain. -/
def Part.pullIn (p : Part) : Part :=
  if 0 < p.scale.owed then { p with scale.owed := p.scale.owed - 1 }
  else if p.store.num 17 / 2 ≤ p.scale.progress ∧ p.scale.credit < 2 then
    { p with scale.credit := p.scale.credit + 1, scale.progress := 0 }
  else p

/-- R91, R95: a completed blowdown repays one owed blowdown. -/
def Part.repay (p : Part) : Part := { p with scale.owed := p.scale.owed - 1 }

/-- R74, R90, R95, R96: what a completed drain does to the records, by its purpose. -/
def Part.scaleDrained (p : Part) (purpose : Option Purpose) : Part :=
  let q := match purpose with
    | some .normal => p.pullIn
    | some .blowdown => p.repay
    | some .flush => { p with scale.flush := false }
    | some .rinse => p
    | some .topup => p
    | some .dose => p
    | none => p
  (p.queueIfOwing q).queueScale

/-- R86 to R88: an accepted write to item 13 or item 17, told to the tracker. -/
def Part.scaleTold (p : Part) (item : Nat) : Part :=
  if item = 13 then p.dueTest.evaluateLock
  else if item = 17 then p.queueIfChanged ((p.accrueEvaporation 0).followSuspension)
  else p

/-- R98: item 14 as the store has loaded it. -/
def Part.recordLoaded (p : Part) : Part :=
  match p.store.served 14 with
  | .scale load remainder => { p with scale.load := load, scale.remainder := remainder }
  | _ => p

/-- R98: item 15 as the store has loaded it. -/
def Part.blowdownLoaded (p : Part) : Part :=
  match p.store.served 15 with
  | .blowdown progress owed credit flush => { p with
      scale.progress := progress, scale.owed := owed, scale.credit := credit, scale.flush := flush }
  | _ => p

/-- R98: a progress at or above the interval is spent as at an accrual of nothing. A progress cut to the interval less 1
alone is no time of R90's list. -/
def Part.progressLoaded (p : Part) : Part := p.queueIfOwing (p.accrueEvaporation 0)

/-- R86, R98: the last queued load, and the due flag or its notice. -/
def Part.dueLoaded (p : Part) : Part :=
  let q : Part := { p with scale.lastQueued := p.scale.load }
  if q.scale.load < q.store.num 13 then { q with scale.dueArmed := true } else q.raiseNotice .descaleDue

/-- R98 steps 2 to 5: the tracker completes the load step, from the records as the store has loaded them. A damaged
record has been queued by the store. -/
def Part.scaleLoaded (p : Part) : Part :=
  ((((p.recordLoaded).blowdownLoaded).progressLoaded).dueLoaded).evaluateLock

end Sys2Proof.Machine
end

