-- ==== Sys2Proof/Machine/Boiler.lean ====
section
/-! DEFINITION. Chapter 4, the parts that ask nothing of other blocks: entering the boiler's states, starting a heating
or a drain. Fills stand in Fill.lean, what reaches the boiler from outside in BoilerEvents.lean. -/

namespace Sys2Proof.Machine

/-- R62: the timers that may run in a state go on, every other boiler timer stops. READY and STEAMING share the level
delay timer (R71). -/
def Boiler.stopTimers (b : Boiler) (next : BoilerState) : Boiler :=
  { b with
    fillTimer := if next = .filling ∨ next = .topping then b.fillTimer else .stopped
    drainTimer := if next = .draining then b.drainTimer else .stopped
    runOnTimer := if next = .draining then b.runOnTimer else .stopped
    coolWaitTimer := if next = .coolWait then b.coolWaitTimer else .stopped
    idleDrainTimer := if next = .ready then b.idleDrainTimer else .stopped
    levelTimer := if next = .ready ∨ next = .steaming then b.levelTimer else .stopped }

/-- R62, R66: enter a state in which neither a fill nor a drain is in progress. -/
def Part.boilerRest (p : Part) (next : BoilerState) : Part :=
  { p with boiler := { p.boiler.stopTimers next with
      state := next
      purpose := none
      continuation := .none
      pauseReason := none
      tankSeenOut := false
      flow := 0 } }

/-- Clear the boiler request in the demand set. -/
def Part.noBoilerRequest (p : Part) : Part := { p with power.boilerRequest := false }

/-- Enter EMPTY (R74, R79). -/
def Part.boilerEmpty (p : Part) : Part := (p.boilerRest .empty).noBoilerRequest

/-- Enter READY; the keep-hot band keeps the request with owner COOKING (R69). -/
def Part.boilerReady (p : Part) : Part :=
  let q := p.boilerRest .ready
  if q.boiler.owner = .cooking then q else q.noBoilerRequest

/-- R64, R79: READY if LOW_WET is wet, else EMPTY, with the request clear. -/
def Part.boilerEndFill (p : Part) : Part :=
  if p.ring.image.lowWet then (p.boilerRest .ready).noBoilerRequest else p.boilerEmpty

/-- R70: enter STEAMING if its conditions hold, else READY. -/
def Part.boilerSteamOrReady (p : Part) : Part :=
  if p.maySteam then p.boilerRest .steaming else p.boilerReady

/-- R69: start heating to a target. The request is set at the next scan completion that calls for it (log entry 27). -/
def Part.startHeating (p : Part) (target : Int) (next : Continuation) : Part :=
  let q := (p.boilerRest .heating).noBoilerRequest
  { q with boiler.target := target, boiler.continuation := next }

/-- R74: the drain timer stops and the run-on timer of 10 s starts, paused during mains loss (R80). -/
def Part.startRunOn (p : Part) : Part :=
  { p with
    boiler.drainTimer := .stopped
    boiler.runOnTimer := Timer.startUnless p.mode.mainsLoss 10 }

/-- R74: enter DRAINING; a LOW_WET already dry starts the run-on at once. -/
def Part.enterDraining (p : Part) : Part :=
  let q : Part := { p with boiler := { p.boiler.stopTimers .draining with
    state := .draining
    drainTimer := Timer.startUnless p.mode.mainsLoss 90 } }
  if p.ring.image.lowWet then q else q.startRunOn

/-- R73: the image shows the boiler at or below 85.0 °C. -/
def Image.drainCool (i : Image) : Bool :=
  match i.boilerTemp with
  | some t => decide (t ≤ 850)
  | none => false

/-- R73: a drain starts with its purpose and its continuation. -/
def Part.startDrain (p : Part) (purpose : Purpose) (next : Continuation) : Part :=
  let q : Part := Part.noBoilerRequest { p with boiler := { p.boiler.stopTimers .coolWait with
    purpose := some purpose
    continuation := next
    pauseReason := none
    tankSeenOut := false
    flow := 0 } }
  if purpose = .blowdown ∨ purpose = .flush ∨ p.ring.image.drainCool then q.enterDraining
  else { q with boiler.state := .coolWait, boiler.coolWaitTimer := .start 1200 }

/-- The continuation of a drain: a report under owner DESCALE, none otherwise (R63). -/
def Part.drainReport (p : Part) : Continuation := if p.boiler.owner = .descale then .report else .none

/-- R68: enter FILL_PAUSED, with WATER_NEEDED. -/
def Part.pauseFill (p : Part) (reason : PauseReason) : Part :=
  Part.raiseNotice (Part.noBoilerRequest { p with
    boiler.state := .fillPaused
    boiler.fillTimer := .stopped
    boiler.pauseReason := some reason
    boiler.tankSeenOut := decide (reason = .tankOut) }) .waterNeeded

/-- R65: the pump runs: TOPPING for a top-up, else FILLING, with the fill timer started afresh (R68, R80). A paused fill
keeps its timeout class (R68), a DOSE fill too (log entry 53). -/
def Part.runFill (p : Part) : Part :=
  let q : Part := { p with
    boiler.state := if p.boiler.purpose = some .topup then .topping else .filling
    boiler.fillTimer := Timer.startUnless p.mode.mainsLoss p.boiler.fillTimeout
    boiler.pauseReason := none
    boiler.tankSeenOut := false }
  if p.boiler.purpose = some .topup then q else q.noBoilerRequest

/-- R64, R70, R79: a top-up ended early hands over the volume counted so far. -/
def Part.handOver (p : Part) : Part :=
  if p.boiler.purpose = some .topup then p.accrue (p.boiler.flow / 2) else p

end Sys2Proof.Machine
end

