-- ==== Sys2Proof/Machine/Fill.lean ====
section
/-! DEFINITION. Fills (R65, R66) with what their completion asks of the descale sequencer (R106, R109), and the
sequencer's heating direction (R100). -/

namespace Sys2Proof.Machine

/-! ### The descale record (R101) -/

/-- R99, R101: the working phase and the stored phase change together, with the prompt reason. The record is queued at
the end of the operation, when it differs from the served item 16 (log entry 37). -/
def Part.descalePhase (p : Part) (phase : DescalePhase) (prompt : Option PromptReason) : Part :=
  { p with
    descale.phase := phase
    descale.record.phase := phase
    descale.prompt := prompt }

/-- R101: a change of rinse-owed is told to the scale tracker at once. -/
def Part.setRinseOwed (p : Part) (b : Bool) : Part :=
  Part.evaluateLock { p with descale.record.rinseOwed := b }

/-- R101: the descale record is queued where it differs from the served item 16. -/
def Part.storeDescale (p : Part) : Part :=
  if p.store.served 16 = .descale p.descale.record then p else p.queueItem 16 (.descale p.descale.record)

/-- R99: the procedure span. -/
def Descale.inSpan (d : Descale) : Bool :=
  match d.phase, d.prompt with
  | .idle, _ => false
  | .awaitSolution, some .start => false
  | .awaitSolution, _ => true
  | .drainFirst, _ => true
  | .dose, _ => true
  | .warm, _ => true
  | .soak, _ => true
  | .soakDrain, _ => true
  | .awaitRinseWater, _ => true
  | .rinse, _ => true

/-- R100: a heating direction: given in READY with no critical fault latched, else held. -/
def Part.directHeat (p : Part) (target : Int) : Part :=
  if p.boiler.state = .ready ∧ p.critical = false then
    Part.startHeating { p with descale.held := none } target .report
  else { p with descale.held := some (.heat target) }

/-- R106, R109: the boiler reports the completion of a directed fill. -/
def Part.descaleFilled (p : Part) : Part :=
  match p.descale.phase, p.descale.rinseStep with
  | .dose, _ => (p.descalePhase .warm none).directHeat 600
  | .rinse, some .fill => Part.directHeat { p with descale.rinseStep := some .heat } 800
  | _, _ => p

/-! ### Fills (R65, R66) -/

/-- R66, R69, R78: what follows a completed NORMAL fill, by the owner. -/
def Part.normalFilled (p : Part) : Part :=
  match p.boiler.owner with
  | .cooking => p.startHeating 980 (if p.scale.flush then .flushDrain else .none)
  | .none => p.boilerReady
  | .descale => p.startHeating p.boiler.target .report

/-- R66: a fill completes. -/
def Part.fillDone (p : Part) : Part :=
  let volume := p.boiler.flow / 2
  let q : Part := { p with boiler.lastFill := volume, boiler.flow := 0, boiler.fillTimer := .stopped }
  match p.boiler.purpose with
  | some .topup => (q.accrue volume).boilerSteamOrReady
  | some .normal => q.normalFilled
  | some .dose => q.boilerReady.descaleFilled
  | some .rinse => q.boilerReady.descaleFilled
  | some .blowdown => q.boilerReady
  | some .flush => q.boilerReady
  | none => q.boilerReady

/-- R63: the timeout class of a fill, seconds. -/
def Image.fillClass (i : Image) : Nat := if i.lowWet then 20 else 60

/-- R65: a fill starts with its purpose and its continuation. -/
def Part.startFill (p : Part) (purpose : Purpose) (next : Continuation) : Part :=
  let q : Part := { p with boiler := { p.boiler.stopTimers .filling with
    purpose := some purpose
    continuation := next
    flow := 0
    fillTimer := .stopped
    fillTimeout := p.ring.image.fillClass } }
  if p.ring.image.highWet then q.fillDone
  else if p.ring.image.tankPresent then q.runFill
  else q.pauseFill .tankOut

/-- R69, R70, R78: a NORMAL fill that heating follows. -/
def Part.normalFill (p : Part) : Part := p.startFill .normal .heating

end Sys2Proof.Machine
end

