-- ==== Sys2Proof/Machine/Descale.lean ====
section
/-! DEFINITION. Chapter 6: the descale sequencer: directions, phases, abort, completion and recovery. -/

namespace Sys2Proof.Machine

/-! ### Directions (R100) -/

/-- R100: a fill direction: given in EMPTY or READY with no critical fault latched, else held. -/
def Part.directFill (p : Part) (purpose : Purpose) : Part :=
  if (p.boiler.state = .empty ∨ p.boiler.state = .ready) ∧ p.critical = false then
    Part.startFill { p with descale.held := none } purpose .report
  else { p with descale.held := some (.fill purpose) }

/-- R100: a drain direction: held in FAULT, joined to a drain in hand, else given; it ends a fill or a heating first. -/
def Part.directDrain (p : Part) (purpose : Purpose) : Part :=
  match p.boiler.state with
  | .fault => { p with descale.held := some (.drain purpose) }
  | .coolWait => { p with descale.held := none, boiler.continuation := .report }
  | .draining => { p with descale.held := none, boiler.continuation := .report }
  | .empty => Part.startDrain { p with descale.held := none } purpose .report
  | .filling => Part.startDrain { p with descale.held := none } purpose .report
  | .fillPaused => Part.startDrain { p with descale.held := none } purpose .report
  | .heating => Part.startDrain { p with descale.held := none } purpose .report
  | .ready => Part.startDrain { p with descale.held := none } purpose .report
  | .steaming => Part.startDrain { p with descale.held := none } purpose .report
  | .topping => Part.startDrain { p with descale.held := none } purpose .report

/-- R100: a held direction is given where its condition holds. -/
def Part.giveHeld (p : Part) : Part :=
  if p.boiler.owner = .descale then
    match p.descale.held with
    | some (.fill purpose) => p.directFill purpose
    | some (.heat target) => p.directHeat target
    | some (.drain purpose) => p.directDrain purpose
    | none => p
  else p

/-! ### Phases (R105 to R110) -/

/-- R105, R106: enter DOSE. -/
def Part.enterDose (p : Part) : Part := (p.descalePhase .dose none).directFill .dose

/-- R105: enter DRAIN_FIRST. -/
def Part.enterDrainFirst (p : Part) : Part :=
  let q := p.descalePhase .drainFirst none
  if p.ring.image.lowWet || p.ring.image.highWet then q.directDrain .normal else q.enterDose

/-- R107: enter SOAK; the soak timer counts seconds. -/
def Part.enterSoak (p : Part) : Part :=
  Part.descalePhase { p with descale.soakTimer := .start (p.descale.soakMinutes * 60) } .soak none

/-- R108: enter SOAK_DRAIN. -/
def Part.enterSoakDrain (p : Part) : Part :=
  Part.directDrain
    (Part.descalePhase { p with descale.soakTimer := .stopped, descale.rinseStep := none } .soakDrain none) .normal

/-- R103: giving up. The boiler is not touched. -/
def Part.descaleGiveUp (p : Part) : Part :=
  Part.raiseNotice (Part.descalePhase { p with descale.outcome := .aborted } .idle none) .descaleStep

/-- The sequencer releases the boiler: it holds no direction and no rinse step, and the owner becomes NONE (R110). -/
def Part.descaleRelease (p : Part) : Part :=
  { p with
    boiler.owner := .none
    boiler.continuation := .none
    descale.held := none
    descale.rinseStep := none
    descale.soakTimer := .stopped }

/-- R110: the end of the procedure, with or without completion. -/
def Part.descaleEnd (p : Part) : Part :=
  if p.descale.record.rinseOwed then
    let q := (p.setRinseOwed false).descaleRelease
    Part.raiseNotice (Part.descalePhase { q with
      descale.record.rinses := 0
      descale.outcome := if q.descale.recovered then .recovered else .aborted
      descale.recovered := false } .idle none) .descaleStep
  else
    let q := p.scaleDescaled.descaleRelease
    Part.raiseNotice (Part.descalePhase { q with
      descale.record.rinses := 0
      descale.outcome := .completed } .idle none) .descaleDone

/-- R109: the next rinse starts, or the procedure ends. -/
def Part.nextRinse (p : Part) : Part :=
  let q : Part := { p with descale.record.rinses := bump 3 p.descale.record.rinses }
  if q.descale.record.rinses < 3 then Part.directFill { q with descale.rinseStep := some .fill } .rinse
  else q.descaleEnd

/-- R105, R108, R109: the boiler reports the completion of a drain of this purpose, or counts its entry to EMPTY as one
(R112). Only a RINSE drain of the step DRAIN counts a rinse. -/
def Part.descaleDrained (p : Part) : Part :=
  match p.descale.phase, p.descale.rinseStep with
  | .drainFirst, _ => p.enterDose
  | .soakDrain, _ =>
    if p.descale.record.rinses < 3 then
      (p.descalePhase .awaitRinseWater (some .rinseWater)).raiseNotice .descaleStep
    else p.descaleEnd
  | .rinse, some .drain => p.nextRinse
  | _, _ => p

/-- R107, R109: the boiler reports the target reached. -/
def Part.descaleHeated (p : Part) : Part :=
  match p.descale.phase, p.descale.rinseStep with
  | .warm, _ => p.enterSoak
  | .rinse, some .heat => Part.directDrain { p with descale.rinseStep := some .drain } .rinse
  | _, _ => p

/-- R106: the boiler reports the timeout of a DOSE fill. The stored phase stays DOSE. -/
def Part.descaleDoseTimeout (p : Part) : Part :=
  match p.descale.phase with
  | .dose => Part.raiseNotice { p with
      descale.phase := .awaitSolution, descale.prompt := some .tankEmpty } .descaleStep
  | _ => p

/-- R107: the re-warm band of a scan completion in SOAK. -/
def Part.descaleRewarm (p : Part) : Part :=
  match p.descale.phase, p.ring.image.boilerTemp with
  | .soak, some t => if p.boiler.state = .ready ∧ t < 550 then p.directHeat 600 else p
  | _, _ => p

/-- R107: the soak timer expires. -/
def Part.soakDone (p : Part) : Part :=
  match p.descale.soakTimer, p.descale.phase with
  | .running _, .soak => p.enterSoakDrain
  | _, _ => p

/-! ### Abort, STOP and faults (R111, R112) -/

/-- R111: releasing the boiler in DRAIN_FIRST. A drain in hand runs on with owner NONE. -/
def Part.descaleReleaseDrainFirst (p : Part) : Part :=
  Part.raiseNotice (Part.descalePhase { p.descaleRelease with descale.outcome := .aborted } .idle none) .descaleStep

/-- R111: what DESCALE_ABORT does, and whether it is accepted. -/
def Part.descaleAbort (p : Part) : Part × Bool :=
  match p.descale.phase, p.descale.prompt with
  | .idle, _ => (p, false)
  | .awaitSolution, some .start => (p.descaleGiveUp, true)
  | .awaitSolution, _ => ((p.setRinseOwed true).enterSoakDrain, true)
  | .drainFirst, _ => (p.descaleReleaseDrainFirst, true)
  | .dose, _ => ((p.setRinseOwed true).enterSoakDrain, true)
  | .warm, _ => ((p.setRinseOwed true).enterSoakDrain, true)
  | .soak, _ => ((p.setRinseOwed true).enterSoakDrain, true)
  | .soakDrain, _ => if p.descale.record.rinseOwed then (p, false) else (p.setRinseOwed true, true)
  | .awaitRinseWater, _ => (p, false)
  | .rinse, _ => (p, false)

/-- R111: STOP acts as DESCALE_ABORT does where that is accepted, and changes nothing elsewhere. -/
def Part.descaleStop (p : Part) : Part := p.descaleAbort.1

/-- R112: a critical fault is latched; the boiler has acted as on STOP. -/
def Part.descaleCritical (p : Part) : Part :=
  match p.descale.phase, p.descale.rinseStep with
  | .rinse, some .fill => { p with descale.held := some (.fill .rinse) }
  | .rinse, some .heat => { p with descale.held := some (.heat 800) }
  | _, _ => p.descaleStop

/-- R112: under owner DESCALE the boiler reports its entry to FAULT. In RINSE the step becomes FILL with the fill held, also
where a critical fault holds a heating already (log entry 60). -/
def Part.descaleBoilerFault (p : Part) : Part :=
  match p.descale.phase with
  | .drainFirst => { p with descale.held := none }
  | .soakDrain => Part.directDrain (p.setRinseOwed true) .normal
  | .rinse => { p with descale.rinseStep := some .fill, descale.held := some (.fill .rinse) }
  | .awaitSolution => (p.setRinseOwed true).enterSoakDrain
  | .dose => (p.setRinseOwed true).enterSoakDrain
  | .warm => (p.setRinseOwed true).enterSoakDrain
  | .soak => (p.setRinseOwed true).enterSoakDrain
  | .awaitRinseWater => p
  | .idle => p

/-! ### Recovery (R114) -/

/-- R114: the stored phase is DOSE or a later one. -/
def DescaleRecord.atOrAfterDose (r : DescaleRecord) : Bool := decide (3 ≤ descalePhaseCode r.phase)

/-- R114: recovery at the start-up water step, for a stored phase at or after DOSE. It queues the record whether or not it
differs from the stored one. -/
def Part.descaleRecover (p : Part) : Part :=
  let q := p.setRinseOwed true
  let r := Part.enterSoakDrain { q with descale.recovered := true, boiler.owner := .descale }
  r.queueItem 16 (.descale r.descale.record)

/-- R114: a stored phase before DOSE is set to IDLE. -/
def Part.descaleNoRecovery (p : Part) : Part :=
  if p.descale.record.phase = .idle then p
  else Part.setRinseOwed { p with descale.record.phase := .idle, descale.record.rinses := 0 } false

end Sys2Proof.Machine
end

