-- ==== Sys2Proof/Machine/Modes.lean ====
section
/-! DEFINITION. Chapter 8, the modes: a change of mode with its effect on the report timer (R160), HOLD, standby entry
and wake. -/

namespace Sys2Proof.Machine

/-- R160: the report timer starts from zero with the interval in force, if it is not 0. -/
def Part.startReports (p : Part) : Part :=
  let interval := p.store.num 19
  { p with report.timer := if interval = 0 then .stopped else .start interval }

/-- R160: the report timer stops and a pending report is dropped. -/
def Report.halt (r : Report) : Report := { r with timer := .stopped, pending := false }

/-- R137, R160: the mode changes, and the link controller is told for its reports. -/
def Part.setMode (p : Part) (m : OpMode) : Part :=
  let q : Part := { p with mode.mode := m }
  if !m.reports then { q with report := p.report.halt }
  else if !p.mode.mode.reports then q.startReports
  else q

/-- R160: an accepted write of item 19. -/
def Part.reportIntervalTold (p : Part) : Part :=
  if p.store.num 19 = 0 then { p with report := p.report.halt }
  else if p.report.timer = .stopped && p.mode.mode.reports && p.mode.startup != .load then p.startReports
  else p

/-! ### Wake and standby (R60, R139, R143) -/

/-- R22, R60, R139: the part wakes from STANDBY. The next scan starts as soon as none is in progress. -/
def Part.wake (p : Part) : Part :=
  if p.mode.mode = .standby then
    Part.setMode { p with
      mode.wakeWindow := true
      ring.imageValid := false
      ring.eligible := false
      ring.startAtOnce := true
      climate := p.climate.wake } .active
  else p

/-- R142: the pending conditions. -/
def Part.standbyReady (p : Part) : Bool :=
  p.climate.state = .off && p.boiler.state = .empty && p.store.queue.isEmpty

/-- R143: entry to STANDBY. -/
def Part.enterStandby (p : Part) : Part :=
  (((p.withdrawCavity).withdrawBoiler).stopVentDrive).setMode .standby

/-! ### HOLD (R140, R141) -/

/-- R140: the HOLD climate. -/
def holdClimate (setpoint : Int) (moist : Bool) : ClimateParams where
  mode := if moist then .combi else .hotAir
  setpoint := setpoint
  fan := 1
  humidity := if moist then some 60 else none
  pulse := none
  delta := none

/-- R140: entry to HOLD; the hold timer counts seconds. -/
def Part.enterHold (p : Part) (setpoint : Int) (moist : Bool) : Part :=
  Part.setMode
    { p.writeClimate (holdClimate setpoint moist) with
      mode.holdSetpoint := some setpoint
      mode.holdMoist := moist
      mode.holdTimer := .start (p.store.num 18 * 60) } .hold

/-- R141, R147: the hold's own values and its timer end. -/
def Part.clearHold (p : Part) : Part :=
  { p with mode.holdTimer := .stopped, mode.holdSetpoint := none, mode.holdMoist := false }

/-- R141: the hold ends. -/
def Part.endHold (p : Part) : Part := ((p.clearHold).setMode .active).endCooking

end Sys2Proof.Machine
end

