-- ==== Sys2Proof/Machine/Recipe.lean ====
section
/-! DEFINITION. Chapter 7: the recipe executor, except stage boundaries, which ask the scale tracker (Settlement.lean). -/

namespace Sys2Proof.Machine

/-! ### Degraded conditions (R130, R131) -/

/-- R131: a STEAM stage without steam: a steam fault is latched or the lock is set. -/
def Part.lacksSteam (p : Part) (st : Stage) : Bool := st.params.mode = .steam && (p.steamFault || p.scale.lock)

/-- R131: a STEAM stage whose boiler is in FILL_PAUSED. -/
def Part.lacksWater (p : Part) (st : Stage) : Bool := st.params.mode = .steam && p.boiler.state = .fillPaused

/-- R130: a CORE stage without a core reading, or a delta stage at its beginning. -/
def Part.lacksProbe (p : Part) (st : Stage) (beginning : Bool) : Bool :=
  p.ring.image.tcore.isNone && (st.endCondition = .core || (beginning && st.params.delta.isSome))

/-- Section 7.6: the degraded conditions in their order; the first that holds gives the reason. -/
def Part.degraded (p : Part) (st : Stage) (beginning : Bool) : Option WaitReason :=
  if p.lacksSteam st then some .steamFault
  else if p.lacksWater st then some .water
  else if p.lacksProbe st beginning then some .probeLost
  else none

/-- The executor enters WAITING with a reason. -/
def Part.waitFor (p : Part) (r : WaitReason) : Part := { p with program.state := .waiting, program.reason := some r }

/-- R123, R127: a prompt. -/
def Part.promptUser (p : Part) : Part := (p.waitFor .prompt).raiseNotice .prompt

/-- Section 7.6, R124: the test of the degraded conditions in PREHEATING and COUNTING; where none holds, a preheat gate
already passed is acted on. -/
def Part.testDegraded (p : Part) (beginning : Bool) : Part :=
  match p.program.state, p.program.step, p.program.current with
  | .running, .preheating, some st =>
    match p.degraded st beginning with
    | some r => p.waitFor r
    | none => if p.program.preheatReached then p.passGate else p
  | .running, .counting, some st =>
    match p.degraded st beginning with
    | some r => p.waitFor r
    | none => p
  | _, _, _ => p

/-- A return to RUNNING from another wait or from PAUSED. -/
def Part.returnRunning (p : Part) : Part :=
  Part.testDegraded { p with program.state := .running, program.reason := none } false

/-- R130: the CORE_PROBE node leaves LINKED. -/
def Part.probeGone (p : Part) : Part :=
  match p.program.state, p.program.step, p.program.current with
  | .running, .preheating, some st => if st.endCondition = .core then p.waitFor .probeLost else p
  | .running, .counting, some st => if st.endCondition = .core then p.waitFor .probeLost else p
  | _, _, _ => p

/-! ### Stages (R123) -/

/-- R124: the climate is in REGULATE, or in DOOR_PAUSE with REGULATE to return to. A stage whose write leaves it so passes the
preheat gate at its beginning, whether the write found cooking under way or started it (log entry 23). -/
def Climate.hot (c : Climate) : Bool :=
  c.state = .regulate || (c.state = .doorPause && c.returnTo = some .regulate)

/-- R123: a stage begins. -/
def Part.beginStage (p : Part) (st : Stage) : Part :=
  let q := Part.raiseNotice { p.writeClimate st.params with
    program.written := some st.params
    program.state := .running
    program.reason := none } .stageChange
  let r : Part := { q with program.step := if st.preheat then .preheating else .counting }
  let t := if st.preheat && r.climate.hot then
      Part.raiseNotice { r with program.preheatReached := true } .preheatReached
    else r
  t.testDegraded true

/-- R123: enter the stage at an index below the stage count. -/
def Part.enterStage (p : Part) (index : Nat) : Part :=
  let q : Part := { p with
    program.state := .running
    program.reason := none
    program.index := index
    program.elapsed := 0
    program.preheatReached := false
    program.step := .notBegun }
  match q.program.current with
  | some st => if st.promptPoint = .atStart then q.promptUser else q.beginStage st
  | none => q

/-! ### The end of the program (R129, R134) -/

/-- R129: the executor ends. -/
def Part.programEnded (p : Part) : Part :=
  Part.raiseNotice { p with
    program.state := .ended, program.reason := none, program.resume := none
    program.written := none, program.settlement := none } .programEnd

/-- R134: the executor is aborted; the climate is the caller's matter. -/
def Part.programAborted (p : Part) : Part :=
  if p.program.state.runs then
    Part.raiseNotice { p with
      program.state := .aborted, program.reason := none, program.resume := none
      program.written := none, program.settlement := none } .programEnd
  else p

/-- R129, R140: the end action. Without a ring element HOLD ends as STOP does. -/
def Part.endAction (p : Part) : Part :=
  match p.program.header.endAction with
  | .stop => p.endCooking.programEnded
  | .hold =>
    if p.store.groupMax .hotAir = 0 then p.endCooking.programEnded
    else (p.enterHold p.program.header.holdSetpoint p.program.header.moist).programEnded

/-- R128, R129: the executor leaves BOUNDARY_WAIT, if it waited there, and goes on. What it writes then, the HOLD of an end
action included, finds it outside BOUNDARY_WAIT, so the COMBI rules of R14 apply to the steam test of that write. -/
def Part.goOn (p : Part) : Part :=
  let q : Part := { p with program.state := .running, program.settlement := none }
  if q.program.index + 1 < q.program.stages.length then q.enterStage (q.program.index + 1) else q.endAction

/-- R134: PROGRAM_ABORT on a running program. -/
def Part.abortProgram (p : Part) : Part := if p.program.state.runs then p.endCooking.programAborted else p

/-! ### Pause and resume (R133, R135) -/

/-- R133, R135: enter PAUSED; the state and reason become the resume state. -/
def Part.pauseProgram (p : Part) (r : WaitReason) : Part :=
  { p with
    program.state := .paused
    program.resume := some (p.program.state, p.program.reason)
    program.reason := some r }

/-- R133, R135: return to the resume state. -/
def Part.resumeProgram (p : Part) : Part :=
  let q : Part := { p with program.resume := none }
  match p.program.resume with
  | some (.running, _) => q.returnRunning
  | some (.waiting, some .water) =>
    if p.boiler.state = .fillPaused then q.waitFor .water else q.returnRunning
  | some (.waiting, r) => { q with program.state := .waiting, program.reason := r }
  | some (.boundaryWait, _) =>
    let t : Part := { q with program.state := .boundaryWait, program.reason := none }
    if t.program.settlement.isSome then t.goOn else t
  | some (.empty, _) => p
  | some (.loaded, _) => p
  | some (.paused, _) => p
  | some (.ended, _) => p
  | some (.aborted, _) => p
  | none => p

/-- R135: the onset of mains loss. -/
def Part.programMainsLoss (p : Part) : Part :=
  match p.program.state with
  | .running => p.pauseProgram .mains
  | .waiting => p.pauseProgram .mains
  | .boundaryWait => p.pauseProgram .mains
  | .empty => p
  | .loaded => p
  | .paused => p
  | .ended => p
  | .aborted => p

/-- R135: the return of the mains. -/
def Part.programMainsReturn (p : Part) : Part :=
  if p.program.state = .paused ∧ p.program.reason = some .mains then p.resumeProgram else p

/-- R133: PROGRAM_RESUME in PAUSED with reason HOST. -/
def Part.programResume (p : Part) : Part :=
  let q := match p.program.written with
    | some c => p.writeClimate c
    | none => p
  if q.mode.mainsLoss then { q with program.reason := some .mains } else q.resumeProgram

end Sys2Proof.Machine
end

