-- ==== Sys2Proof/Machine/Settlement.lean ====
section
/-! DEFINITION. Blowdown requests and their settlement (R76, R77, R91 to R95), stage boundaries (R126, R128, R132), the
boiler owner (R64), and what STOP, FAULT and a completed drain do to the boiler (R74, R79, R81). -/

namespace Sys2Proof.Machine

/-! ### Settlement (R91, R128) -/

/-- R128, R133, R135: the executor is told the settlement: in BOUNDARY_WAIT it goes on, paused from there it keeps it. -/
def Part.tellExecutor (p : Part) (how : Settlement) : Part :=
  if p.program.state = .boundaryWait then p.goOn
  else if p.program.pausedAtBoundary then { p with program.settlement := some how }
  else p

/-- R91: the request in hand is settled. -/
def Part.settleBlowdown (p : Part) (how : Settlement) : Part :=
  if p.scale.inHand then Part.tellExecutor { p with scale.inHand := false } how else p

/-- R64, R76, R79, R81: a waiting request is dropped as refused. -/
def Part.refuseWaiting (p : Part) : Part :=
  if p.boiler.waiting then Part.settleBlowdown { p with boiler.waiting := false } .refused else p

/-- R91: the tracker withdraws a waiting request when nothing is owed. -/
def Part.withdrawRequest (p : Part) : Part :=
  if p.boiler.waiting && p.scale.owed = 0 then Part.settleBlowdown { p with boiler.waiting := false } .withdrawn else p

/-! ### Requests (R76, R77, R91) -/

/-- R77: a blowdown starts. -/
def Part.startBlowdown (p : Part) : Part :=
  Part.startDrain { p with boiler.waiting := false, boiler.inFlight := true } .blowdown .refill

/-- R76: the boiler's answer to a blowdown request. -/
def Part.answerBlowdown (p : Part) : Part :=
  if p.boiler.owner ≠ .cooking then p.settleBlowdown .refused
  else match p.boiler.state with
    | .fault => p.settleBlowdown .refused
    | .ready => p.startBlowdown
    | .steaming => p.startBlowdown
    | .empty => (p.scaleDrained (some .blowdown)).settleBlowdown .completed
    | .filling => { p with boiler.waiting := true }
    | .fillPaused => { p with boiler.waiting := true }
    | .heating => { p with boiler.waiting := true }
    | .topping => { p with boiler.waiting := true }
    | .coolWait => { p with boiler.waiting := true }
    | .draining => { p with boiler.waiting := true }

/-- R91: the tracker asks for a blowdown; one in hand serves the request. -/
def Part.requestBlowdown (p : Part) : Part :=
  if p.scale.inHand then p else Part.answerBlowdown { p with scale.inHand := true }

/-- R92: the lull situation. -/
def Part.lullSituation (p : Part) : Bool :=
  decide (1 ≤ p.scale.owed) && (p.boiler.state = .ready || p.boiler.state = .steaming) && p.boiler.owner = .cooking
    && p.scale.lull = .reached && !p.program.noInterrupt && p.mode.mode != .standbyPending

/-- R94: the forced situation. -/
def Part.forcedSituation (p : Part) : Bool :=
  p.scale.owed = 5 && p.boiler.owner = .cooking && p.boiler.state != .fault && !p.program.noInterrupt

/-- R91: the situations are tested. -/
def Part.testSituations (p : Part) : Part :=
  if p.lullSituation || p.forcedSituation then p.requestBlowdown else p

/-! ### Stage boundaries (R93, R126, R128, R132) -/

/-- R93, R128: a stage reaches its boundary. The step becomes FINISHED at every boundary, that of a stage skipped before its
end condition was met and of the last stage of a program among them (log entry 61). The entry to BOUNDARY_WAIT clears the steam-wanted flag (R14), also where the
settlement comes at once (log entry 59). -/
def Part.boundary (p : Part) : Part :=
  let q : Part := { p with program.step := .finished, program.reason := none, program.settlement := none }
  if q.scale.owed < 4 then q.goOn
  else Part.requestBlowdown { q with program.state := .boundaryWait, climate.steamWanted := false }

/-- R126: the end condition is met. -/
def Part.finishStage (p : Part) (st : Stage) : Part :=
  if st.promptPoint = .atEnd then Part.promptUser { p with program.step := .finished } else p.boundary

/-! ### Owner (R64) -/

/-- R64: the owner that the climate calls for. -/
def Part.ownerWanted (p : Part) : Owner :=
  if p.boiler.owner = .descale then .descale else if p.climate.usesSteam then .cooking else .none

/-- R64: what the boiler does when the owner changes from COOKING to NONE. -/
def Part.leaveCooking (p : Part) : Part :=
  let q : Part := { p with boiler.owner := .none }
  let r := match q.boiler.state with
    | .heating => (q.boilerRest .ready).noBoilerRequest
    | .steaming => (q.boilerRest .ready).noBoilerRequest
    | .filling => q.handOver.boilerEndFill
    | .fillPaused => q.handOver.boilerEndFill
    | .topping => q.handOver.boilerEndFill
    | .coolWait => { q with boiler.continuation := .none }
    | .draining => { q with boiler.continuation := .none }
    | .ready => q.noBoilerRequest
    | .empty => q
    | .fault => q
  r.refuseWaiting

/-- R64: the owner follows the climate regulator. -/
def Part.followOwner (p : Part) : Part :=
  if p.ownerWanted = p.boiler.owner then p
  else if p.boiler.owner = .cooking then p.leaveCooking
  else { p with boiler.owner := p.ownerWanted }

/-! ### STOP and FAULT (R79, R81) -/

/-- R79: the boiler ends fills and heating, lets drains run on and drops its continuation. -/
def Part.boilerStop (p : Part) : Part :=
  let q := match p.boiler.state with
    | .filling => p.handOver.boilerEndFill
    | .fillPaused => p.handOver.boilerEndFill
    | .topping => p.handOver.boilerEndFill
    | .heating => (p.boilerRest .ready).noBoilerRequest
    | .steaming => (p.boilerRest .ready).noBoilerRequest
    | .coolWait => { p with boiler.continuation := .none }
    | .draining => { p with boiler.continuation := .none }
    | .empty => p
    | .ready => p
    | .fault => p
  q.refuseWaiting

/-- R81: the boiler enters FAULT. -/
def Part.enterFault (p : Part) : Part :=
  if p.boiler.state = .fault then p
  else
    let flying := p.boiler.inFlight
    let q := (Part.boilerRest { p with boiler.inFlight := false } .fault).noBoilerRequest
    let r := if flying then q.settleBlowdown .endedWithout else q.refuseWaiting
    if r.boiler.owner = .descale then r.descaleBoilerFault else r

/-- R81, R112: the boiler leaves FAULT. Under owner DESCALE an exit drain serves a held drain, and the entry to EMPTY
counts as the completion of the drain that DRAIN_FIRST or SOAK_DRAIN waits for. -/
def Part.exitFault (p : Part) : Part :=
  if p.boiler.state ≠ .fault then p
  else if p.ring.image.lowWet then p.startDrain .normal p.drainReport
  else
    let q := p.boilerEmpty
    if q.boiler.owner = .descale ∧ (q.descale.phase = .drainFirst ∨ q.descale.phase = .soakDrain) then
      Part.descaleDrained { q with descale.held := none }
    else q

/-! ### Drains completed and abandoned (R74, R77) -/

/-- R74, R77, R78: what follows a completed drain of a purpose: the sequencer is told, or a NORMAL refill starts, if the owner
is still COOKING. -/
def Part.afterDrain (p : Part) (purpose : Option Purpose) (next : Continuation) : Part :=
  if p.boiler.owner = .descale then p.descaleDrained
  else if p.boiler.owner = .cooking ∧ next = .refill then
    p.startFill .normal (if purpose = some .blowdown then .reheat else .heating)
  else p

/-- R74: the run-on timer expires and the drain completes. A settlement may change the climate, so the owner is
followed before the refill is judged. -/
def Part.drainDone (p : Part) : Part :=
  let purpose := p.boiler.purpose
  let next := p.boiler.continuation
  let q := p.boilerEmpty.scaleDrained purpose
  let r := if purpose = some .blowdown then
      (Part.settleBlowdown { q with boiler.inFlight := false } .completed).followOwner
    else q
  r.afterDrain purpose next

/-- R141: the refill of an abandoned blowdown, or the heating after a refill completed at once, ends: READY if LOW_WET is
wet, else EMPTY. -/
def Part.endRefill (p : Part) : Part :=
  match p.boiler.state with
  | .filling => p.boilerEndFill
  | .fillPaused => p.boilerEndFill
  | .heating => p.boilerEndFill
  | .ready => p.boilerEndFill
  | .empty => p
  | .steaming => p
  | .topping => p
  | .coolWait => p
  | .draining => p
  | .fault => p

/-- R77, R95: a blowdown's refill is in hand: its drain has completed and the boiler fills again. -/
def Part.blowdownRefill (p : Part) : Bool :=
  (p.boiler.state = .filling || p.boiler.state = .fillPaused) && p.boiler.owner = .cooking
    && p.boiler.continuation = .reheat

/-- R77, R95: at HOLD_EXIT the refill of a blowdown whose drain has completed runs on. The owner becomes NONE, so its reheat
is dropped and a waiting request is refused (R64), and the fill ends in READY (R66, log entry 49). -/
def Part.refillRunsOn (p : Part) : Part :=
  Part.refuseWaiting { p with boiler.owner := .none, boiler.continuation := .none }

/-- R77: HOLD_EXIT abandons a blowdown in flight; the refill starts at once. -/
def Part.abandonBlowdown (p : Part) : Part :=
  let q := Part.settleBlowdown { p.boilerEmpty with boiler.inFlight := false } .abandoned
  q.normalFill

end Sys2Proof.Machine
end

