-- ==== Sys2Proof/Machine/Faults.lean ====
section
/-! DEFINITION. The fault set: latching with the effects of each class (R146, R147), the causes (section 8.5), and what
the clearing of a fault leaves (R149). -/

namespace Sys2Proof.Machine

/-- R146: the flag is set and FAULT is raised; the first fault of an empty set is kept. -/
def Part.latch (p : Part) (k : FaultKind) : Part :=
  Part.raiseNotice { p with
    mode.first := if p.mode.faults = 0 then some k else p.mode.first
    mode.faults := p.mode.faults ||| faultFlag k } .fault

/-- R147: the mode on the latching of a critical fault. -/
def Part.safeStop (p : Part) : Part := if p.mode.mode = .starting then p else p.clearHold.setMode .safeStop

/-- R147: the effects of a critical fault, when none was latched before. -/
def Part.criticalEffects (p : Part) : Part :=
  ((((((((p.withdrawCavity).withdrawBoiler).wake).forcedOff).programAborted).boilerStop).descaleCritical).safeStop)

/-- R142: a pending standby is cancelled by a steam fault. -/
def Part.cancelStandby (p : Part) : Part :=
  if p.mode.mode = .standbyPending then p.setMode .active else p

/-- R146: the effects of a steam fault. -/
def Part.steamEffects (p : Part) : Part := ((p.withdrawBoiler).enterFault).cancelStandby

/-- R11, R146: FAN_STALL removes the cavity demand in the fan modes. -/
def Part.stallEffects (p : Part) : Part :=
  match p.climate.params with
  | some c => if p.climate.state.active && c.mode.fanMode then p.noDemand else p
  | none => p

/-- R146: a block raises a fault. -/
def Part.raiseFault (p : Part) (k : FaultKind) : Part :=
  if hasFault p.mode.faults k then p
  else match faultClass k with
    | .critical => if p.critical then p.latch k else (p.latch k).criticalEffects
    | .cavityHeat => (p.latch k).stallEffects
    | .steam => (p.latch k).steamEffects
    | .warning => p.latch k

/-- Section 8.5: the cause of a fault kind is present. The entry of a kind is the one of `Ring.linked` (log entry 62). -/
def Part.causePresent (p : Part) (k : FaultKind) : Bool :=
  match k with
  | .cavityOvertemp => p.climate.overtemp
  | .cavityNodeLost => !p.ring.linked .cavityTemp
  | .doorNodeLost => !p.ring.linked .door
  | .nodeMap => !p.ring.mapSound
  | .fanStall => decide (3 ≤ p.climate.stallCount)
  | .boilerOverheat => p.boiler.overheat
  | .boilerNodeLost => !p.ring.linked .boiler
  | .tankNodeLost => !p.ring.linked .waterTank
  | .fillFault => false
  | .drainTimeout => false
  | .storeDefaulted => false

/-- R149: the flag is cleared; the first-fault kind becomes none with the last flag. -/
def Part.unlatch (p : Part) (k : FaultKind) : Part :=
  let faults := p.mode.faults &&& ~~~ faultFlag k
  { p with mode.faults := faults, mode.first := if faults = 0 then none else p.mode.first }

/-- R149: what the clearing leaves. Held directions are given by the reactions that follow. -/
def Part.clearFault (p : Part) (k : FaultKind) : Part :=
  let q := p.unlatch k
  let r := if p.critical && !q.critical && q.mode.mode = .safeStop then q.setMode .active else q
  if p.steamFault && !r.steamFault then r.exitFault else r

/-- R20: the overtemperature watch of a scan completion. -/
def Part.overtempWatch (p : Part) : Part :=
  match p.ring.image.tc with
  | some t =>
    if 3000 ≤ t then
      (if p.climate.overtemp then p else Part.raiseFault { p with climate.overtemp := true } .cavityOvertemp)
    else if t < 2500 then { p with climate.overtemp := false }
    else p
  | none => p

/-- R72: the overheat watch of a scan completion. -/
def Part.overheatWatch (p : Part) : Part :=
  match p.ring.image.boilerTemp with
  | some t =>
    if 1500 ≤ t then
      (if p.boiler.overheat then p else Part.raiseFault { p with boiler.overheat := true } .boilerOverheat)
    else if t < 1400 then { p with boiler.overheat := false }
    else p
  | none => p

end Sys2Proof.Machine
end

