-- ==== Sys2Proof/Machine/Reactions.lean ====
section
/-! DEFINITION. What the blocks do at once when a condition they follow changes. The manual says that such changes are
told at once but gives no order among the blocks; the model takes the reactions below in a fixed order, round after
round, after each command (DESIGN CHOICE, log entry 13). Each reaction depends on the state alone, and does nothing where
its condition does not hold. -/

namespace Sys2Proof.Machine

/-- R14, R16: the rules that force the steam-wanted flag clear, and the vent target under the lock. -/
def Part.followSteamWanted (p : Part) : Part :=
  let q : Part := if p.steamHeldClear then { p with climate.steamWanted := false } else p
  if q.scale.lock then q.ventTest else q

/-- R103: a procedure in AWAIT_SOLUTION with reason START is given up when cooking or a program starts. -/
def Part.followGiveUp (p : Part) : Part :=
  if p.descale.phase = .awaitSolution ∧ p.descale.prompt = some .start
      ∧ (p.climate.state.cooking || p.program.state.runs) then p.descaleGiveUp
  else p

/-- R70: a top-up ends at once under the lock or a suspension; STEAMING is left when its conditions fail. -/
def Part.followSteaming (p : Part) : Part :=
  match p.boiler.state with
  | .topping =>
    if p.boiler.owner = .cooking && (p.scale.lock || p.scale.suspended) then
      Part.boilerReady { p.handOver with boiler.lastFill := p.boiler.flow / 2 }
    else p
  | .steaming => if p.maySteam then p else p.boilerReady
  | .ready => p
  | .empty => p
  | .filling => p
  | .fillPaused => p
  | .heating => p
  | .coolWait => p
  | .draining => p
  | .fault => p

/-- R76: a waiting request starts in READY or STEAMING with owner COOKING. -/
def Part.followWaiting (p : Part) : Part :=
  if p.boiler.waiting && p.boiler.owner = .cooking && (p.boiler.state = .ready || p.boiler.state = .steaming) then
    p.startBlowdown
  else p

/-- R92: the lull timer runs or has run while the owner is COOKING and no steam is wanted. -/
def Part.followLull (p : Part) : Part :=
  if p.boiler.owner = .cooking && !p.climate.steamWanted then
    (if p.scale.lull = .stopped then { p with scale.lull := .running } else p)
  else { p with scale.lull := .stopped }

/-- R70: READY goes to STEAMING, and an EMPTY boiler is filled for steam. -/
def Part.followDemand (p : Part) : Part :=
  match p.boiler.state with
  | .ready => if p.maySteam then p.boilerRest .steaming else p
  | .empty =>
    if p.boiler.owner = .cooking && p.climate.steamWanted && !p.scale.lock then p.normalFill else p
  | .steaming => p
  | .filling => p
  | .fillPaused => p
  | .heating => p
  | .topping => p
  | .coolWait => p
  | .draining => p
  | .fault => p

/-- R62, R69, R72: the boiler request that the boiler's state gives. -/
def Part.requestWanted (p : Part) : Bool :=
  p.ring.image.lowWet && (match p.boiler.state with
    | .steaming => true
    | .topping => p.climate.steamWanted
    | .heating => p.power.boilerRequest
    | .ready => p.boiler.owner = .cooking && p.power.boilerRequest
    | .empty => false
    | .filling => false
    | .fillPaused => false
    | .coolWait => false
    | .draining => false
    | .fault => false)

/-- R71: the conditions under which the level delay timer may run, apart from the image. -/
def Part.levelAllowed (p : Part) : Bool :=
  (p.boiler.state = .ready || p.boiler.state = .steaming) && p.boiler.owner = .cooking
    && !p.scale.lock && !p.scale.suspended

/-- R62, R71, R75: the boiler request, the idle-drain timer and the level delay timer follow the boiler's state. -/
def Part.followBoiler (p : Part) : Part :=
  { p with
    power.boilerRequest := p.requestWanted
    boiler.idleDrainTimer :=
      if p.boiler.state = .ready && p.boiler.owner = .none then
        (if p.boiler.idleDrainTimer = .stopped then .start 1200 else p.boiler.idleDrainTimer)
      else .stopped
    boiler.levelTimer := if p.levelAllowed then p.boiler.levelTimer else .stopped }

/-- R131: the WATER wait ends when the boiler leaves FILL_PAUSED, and a STEAM stage waits on a steam fault, the lock or
FILL_PAUSED. -/
def Part.followDegraded (p : Part) : Part :=
  match p.program.state, p.program.reason, p.program.step, p.program.current with
  | .waiting, some .water, _, _ => if p.boiler.state = .fillPaused then p else p.returnRunning
  | .running, _, .preheating, some st =>
    if p.lacksSteam st then p.waitFor .steamFault else if p.lacksWater st then p.waitFor .water else p
  | .running, _, .counting, some st =>
    if p.lacksSteam st then p.waitFor .steamFault else if p.lacksWater st then p.waitFor .water else p
  | _, _, _, _ => p

/-- R142: in STANDBY_PENDING a READY boiler is drained, and STANDBY is entered when the conditions hold, during mains loss
too (log entry 54). -/
def Part.followStandby (p : Part) : Part :=
  if p.mode.mode = .standbyPending then
    if p.standbyReady then p.enterStandby
    else if p.boiler.state = .ready ∧ p.boiler.owner = .none then p.startDrain .normal .none
    else p
  else p

/-- One round of the reactions, in their order. -/
def Part.reactOnce (p : Part) : Part :=
  let a := ((p.followSteamWanted).followGiveUp).followOwner
  let b := ((a.followSuspension).followSteaming).followWaiting
  let c := ((b.followLull).withdrawRequest).testSituations
  let d := ((c.followDemand).followBoiler).giveHeld
  ((d.followDegraded).storeDescale).followStandby

/-- The rounds of reactions. -/
def Part.react : Nat → Part → Part
  | 0, p => p
  | n + 1, p => Part.react n p.reactOnce

/-- The reactions that follow an event (log entry 13). -/
def Part.settle (p : Part) : Part := p.react 5

end Sys2Proof.Machine
end

