-- ==== Sys2Proof/Machine/Ring.lean ====
section
/-! DEFINITION. Chapter 3 and change capture: polls, the judgement of replies, link states, identities, change detection,
the sensor image, and what every block does at a scan completion. -/

namespace Sys2Proof.Machine

/-! ### The sensor image (R53) -/

/-- R53: a usable entry of a kind: LINKED, with a main reading and without an identity mismatch. -/
def Ring.reading (r : Ring) (k : NodeKind) : Option Reading :=
  match r.supplier k with
  | some n => if n.link = .linked && !n.mismatch then n.main else none
  | none => none

/-- R53: the value of a reading, where it is within its kind's range. -/
def Ring.value (r : Ring) (k : NodeKind) : Option Int :=
  match r.reading k with
  | some m => if m.valid then some m.value else none
  | none => none

/-- R53: Tcore needs PLUGGED as well. -/
def Ring.coreValue (r : Ring) : Option Int :=
  match r.reading .coreProbe with
  | some m => if m.valid && firstFlag m.status then some m.value else none
  | none => none

/-- R53: the kind's first own flag, or the value it takes when not valid. -/
def Ring.flagOne (r : Ring) (k : NodeKind) (dflt : Bool) : Bool :=
  match r.reading k with
  | some m => firstFlag m.status
  | none => dflt

/-- R53: the kind's second own flag, or the value it takes when not valid. -/
def Ring.flagTwo (r : Ring) (k : NodeKind) (dflt : Bool) : Bool :=
  match r.reading k with
  | some m => secondFlag m.status
  | none => dflt

/-- R53: the image derived from the node table, stamped with the scan's number. -/
def Ring.deriveImage (r : Ring) : Image where
  tc := r.value .cavityTemp
  tcore := r.coreValue
  humidity := r.value .humidity
  boilerTemp := r.value .boiler
  lowWet := r.flagOne .boiler false
  highWet := r.flagTwo .boiler false
  tankPresent := r.flagOne .waterTank false
  tankLow := r.flagTwo .waterTank true
  doorClosed := r.flagOne .door false
  doorLocked := r.flagTwo .door false
  ventOpenEnd := r.flagOne .vent false
  ventClosedEnd := r.flagTwo .vent false
  levelValid := (r.reading .boiler).isSome
  tankValid := (r.reading .waterTank).isSome
  doorValid := (r.reading .door).isSome
  ventValid := (r.reading .vent).isSome
  scan := r.scan

/-- R52: the addresses whose changed flag is set, address n in bit n − 1. -/
def changedFlags : List NodeEntry → Nat
  | [] => 0
  | n :: rest => n.changed.toNat + 2 * changedFlags rest

/-- R52: the changed-node set. -/
def Ring.changedNodes (r : Ring) : Half := BitVec.ofNat 16 (changedFlags r.nodes)

/-! ### Change capture (R172) -/

/-- R172: the snapshot of a scan. -/
def Ring.snapshot (r : Ring) : Snapshot := ⟨r.scan, r.changedSet, r.nodes.map (fun n => ⟨n.link, n.main⟩)⟩

/-- R172: a completed scan is offered to change capture. -/
def Part.offerCapture (p : Part) : Part :=
  if (p.ring.changedSet &&& p.capture.trigger) = 0 then p
  else match p.capture.snapshot with
    | some _ => { p with capture.missed := bump 255 p.capture.missed }
    | none =>
      if p.capture.armed then
        Part.raiseNotice { p with
          capture.snapshot := some p.ring.snapshot
          capture.missed := 0
          capture.armed := decide (p.capture.style = .continuous) } .captureTaken
      else p

/-! ### What the blocks do at a scan completion (log entry 14) -/

/-- A change of the door between two images (R55). -/
inductive DoorChange
  | none | opened | closed
deriving DecidableEq, Repr

/-- R55: the door change of a new image; the first image after a reset makes none. -/
def doorChange (derived before after : Bool) : DoorChange :=
  if !derived || before = after then .none else if after then .closed else .opened

/-- R9, R10, R14, R16, R20: the climate regulator. -/
def Part.scanClimate (p : Part) (d : DoorChange) : Part :=
  let q := p.overtempWatch
  let r := match d with
    | .opened => q.climateDoorOpen
    | .closed => q.climateDoorClose
    | .none => q
  r.climateScan

/-- R36, R37: the power allocator. -/
def Part.scanPower (p : Part) (d : DoorChange) : Part :=
  let q := if d = .opened then p.withdrawCavity else p
  if q.ring.image.boilerUnsafe then q.withdrawBoiler else q

/-- R69: the target of the heating in hand is reached. -/
def Part.heatingEnd (p : Part) : Part :=
  if p.boiler.owner = .descale then p.boilerReady.descaleHeated
  else if p.boiler.continuation = .flushDrain then p.startDrain .flush .refill
  else p.noBoilerRequest.boilerSteamOrReady

/-- R69: a scan completion in HEATING. LOW_WET dry is judged before the temperature (log entry 57). -/
def Part.scanHeating (p : Part) : Part :=
  if !p.ring.image.lowWet then p.noBoilerRequest.normalFill
  else match p.ring.image.boilerTemp with
    | some t => if p.boiler.target ≤ t then p.heatingEnd else { p with power.boilerRequest := true }
    | none => p.noBoilerRequest

/-- R69: the keep-hot band of READY with owner COOKING. -/
def Part.scanKeepHot (p : Part) : Part :=
  if p.boiler.owner = .cooking then
    match p.ring.image.boilerTemp with
    | some t =>
      if !p.ring.image.lowWet || decide (980 ≤ t) then p.noBoilerRequest
      else if t < 950 then { p with power.boilerRequest := true }
      else p
    | none => p.noBoilerRequest
  else p

/-- R71: the level delay timer at a completion: 5 s of HIGH_WET dry. -/
def Part.scanLevel (p : Part) : Part :=
  if p.ring.image.highWet then { p with boiler.levelTimer := .stopped }
  else if p.levelAllowed && p.boiler.levelTimer = .stopped then { p with boiler.levelTimer := .start 5 }
  else p

/-- R66, R68: a scan completion in FILLING or TOPPING. A completion that shows HIGH_WET wet and the tank out completes
the fill (log entry 38). -/
def Part.scanFill (p : Part) : Part :=
  if p.ring.image.highWet then p.fillDone
  else if p.ring.image.tankPresent then p
  else p.pauseFill .tankOut

/-- R68: a scan completion in FILL_PAUSED. -/
def Part.scanPaused (p : Part) : Part :=
  if p.ring.image.tankPresent then
    if p.boiler.tankSeenOut then (if p.ring.image.highWet then p.fillDone else p.runFill) else p
  else { p with boiler.tankSeenOut := true }

/-- R74: a scan completion in DRAINING, before the run-on has started. -/
def Part.scanDraining (p : Part) : Part :=
  if p.boiler.runOnTimer = .stopped ∧ p.ring.image.lowWet = false then p.startRunOn else p

/-- Chapter 4: the boiler controller, by its state, after the overheat watch. -/
def Part.scanBoiler (p : Part) : Part :=
  let q := p.overheatWatch
  match q.boiler.state with
  | .empty => q
  | .filling => q.scanFill
  | .fillPaused => q.scanPaused
  | .heating => q.scanHeating
  | .ready => q.scanKeepHot.scanLevel
  | .steaming => q.scanLevel
  | .topping => q.scanFill
  | .coolWait => if q.ring.image.drainCool then q.enterDraining else q
  | .draining => q.scanDraining
  | .fault => q

/-- R126: the CORE half of the end condition is met. -/
def Part.coreReached (p : Part) (st : Stage) : Bool :=
  (st.endCondition = .core || st.endCondition = .timeOrCore)
    && (match p.ring.image.tcore with
      | some t => decide (st.coreTarget ≤ t)
      | none => false)

/-- R126, R130: the recipe executor: the degraded conditions, then the CORE judgement. -/
def Part.scanProgram (p : Part) : Part :=
  let q := p.testDegraded false
  match q.program.state, q.program.step, q.program.current with
  | .running, .counting, some st => if q.coreReached st then q.finishStage st else q
  | _, _, _ => q

/-- R139, R143: the mode controller: a door-open change wakes the part, and a valid image ends the window of a wake. -/
def Part.scanMode (p : Part) (d : DoorChange) : Part :=
  if p.mode.mode = .standby then (if d = .opened then p.wake else p)
  else if p.ring.imageValid then { p with mode.wakeWindow := false }
  else p

/-! ### Start-up (R82, R114, R181) -/

/-- R82: the boiler's start-up step. -/
def Part.boilerStartup (p : Part) : Part :=
  if p.boiler.state = .fault then p
  else if p.ring.image.lowWet || p.ring.image.highWet then p.startDrain .normal .none
  else p

/-- R114, R181: the water step, and entry to ACTIVE or SAFE_STOP. -/
def Part.waterStep (p : Part) : Part :=
  if p.mode.startup = .water then
    let q := if p.descale.record.atOrAfterDose then p.descaleRecover else p.descaleNoRecovery.boilerStartup
    Part.setMode { q with mode.startup := .done } (if q.critical then .safeStop else .active)
  else p

/-! ### Scan completion (R52) -/

/-- R52 steps 1 to 3. -/
def Ring.complete (r : Ring) : Ring :=
  let changed := r.changedNodes
  { r with
    image := r.deriveImage
    imageValid := r.imageValid || (r.eligible && r.linked .cavityTemp)
    derived := true
    changedSet := changed
    found := decide (changed ≠ 0)
    phase := .idle
    poll := none }

/-- R52 steps 1 to 7. -/
def Part.scanEvent (p : Part) (d : DoorChange) : Part :=
  let q : Part := { p with ring := p.ring.complete }
  let r := if d = .none then q else q.raiseNotice .doorChange
  let t := if r.ring.found then r.raiseNotice .watchChange else r
  (t.raiseNotice .scanDone).offerCapture

/-- R52: a scan completes, and every block acts on the image. -/
def Part.completeScan (p : Part) : Part :=
  let d := doorChange p.ring.derived p.ring.image.doorClosed p.ring.deriveImage.doorClosed
  let q := p.scanEvent d
  let r := (((q.scanClimate d).scanPower d).scanBoiler).scanProgram
  (((r.descaleRewarm).scanMode d).waterStep).settle

/-! ### Polls (R44, R48, R49, R56) -/

/-- R49: the identity fetch may be made. -/
def NodeEntry.identAllowed (n : NodeEntry) (scan : Nat) : Bool :=
  match n.identScan with
  | none => true
  | some s => decide (8 ≤ (scan + 65536 - s) % 65536)

/-- R44: the fetch of a poll. -/
def NodeEntry.chooseFetch (n : NodeEntry) (scan : Nat) : Fetch :=
  if n.requestSeen && n.identAllowed scan then .ident
  else if n.selector = .alt && scan % 2 = 1 then .alt
  else if n.selector = .stats && scan % 2 = 1 then .stats
  else .main

/-- R44: the entry is polled in ordinary scans. -/
def NodeEntry.polled (n : NodeEntry) : Bool := n.kind != .none && !n.masked

/-- R44: the first address at or after one that is polled; the count bounds the search. -/
def Ring.nextAddress (r : Ring) : Nat → Nat → Option Nat
  | 0, _ => none
  | n + 1, a => if a ≤ 12 then (if (r.entry a).polled then some a else r.nextAddress n (a + 1)) else none

/-- R44, R49: a poll of an address begins: its changed flag is cleared, and an IDENT attempt is recorded. -/
def Ring.beginPoll (r : Ring) (a : Nat) : Ring :=
  let n := r.entry a
  let f := n.chooseFetch r.scan
  { r.putEntry a { n with changed := false, identScan := if f = .ident then some r.scan else n.identScan } with
    poll := some ⟨a, f, 1, false⟩ }

/-- R44: the next poll of the scan, from an address on; none where the scan has no further poll. -/
def Ring.pollFrom (r : Ring) (a : Nat) : Ring :=
  match r.nextAddress 12 a with
  | some b => r.beginPoll b
  | none => { r with poll := none }

/-- R43, R60: the scan interval in force, ms. -/
def Part.scanInterval (p : Part) : Nat := if p.mode.mode = .standby then 2000 else p.store.num 20

/-- R43: a scan starts: the timer restarts, the number rises, and the first poll goes out. -/
def Part.startScan (p : Part) : Part :=
  { p with ring := Ring.pollFrom { p.ring with
    phase := .scanning
    scan := (p.ring.scan + 1) % 65536
    timer := .start p.scanInterval
    startAtOnce := false
    eligible := true } 1 }

/-- R43, R52, R60: where the next scan is due at once and none is in progress, it starts; a scan with no polls completes
at once. The count bounds the scans. -/
def Part.advance : Nat → Part → Part
  | 0, p => p
  | n + 1, p =>
    if p.ring.phase = .idle && p.ring.startAtOnce then
      let q := p.startScan
      if q.ring.poll.isSome then q else Part.advance n q.completeScan
    else p

/-- R44, R52: the poll in flight has been dealt with: the next poll follows, or the scan completes. -/
def Part.nextPoll (p : Part) (address : Nat) : Part :=
  let q : Part := { p with ring := p.ring.pollFrom (address + 1) }
  if q.ring.poll.isSome then q else q.completeScan

/-! ### Judgement (R45, R46, R47, R50, R51) -/

/-- R46, R47, R36, R130: the link state of a kind has changed: the blocks that follow link states are told at once (log entry 62 for
the entry of a kind). -/
def Part.linkTold (p : Part) (before : Ring) (k : NodeKind) (lost : Bool) : Part :=
  let q := if before.linked .cavityTemp && !p.ring.linked .cavityTemp then p.withdrawCavity else p
  let r := if before.linked .coreProbe && !q.ring.linked .coreProbe then q.probeGone else q
  if lost then
    match k with
    | .cavityTemp => r.raiseFault .cavityNodeLost
    | .door => r.raiseFault .doorNodeLost
    | .boiler => r.raiseFault .boilerNodeLost
    | .waterTank => r.raiseFault .tankNodeLost
    | .none => r
    | .coreProbe => r
    | .humidity => r
    | .vent => r
  else r

/-- R45: what a miss counts. -/
def NodeEntry.miss (n : NodeEntry) (badCheck : Bool) : NodeEntry :=
  { n with
    misses := bump 3 n.misses
    totalMisses := bump 65535 n.totalMisses
    crcErrors := if badCheck then bump 65535 n.crcErrors else n.crcErrors }

/-- R45, R46: a miss outside discovery. -/
def Part.judgeMiss (p : Part) (address : Nat) (badCheck : Bool) : Part :=
  let n := (p.ring.entry address).miss badCheck
  let lost := n.link = .linked && n.misses = 3
  let q : Part := { p with ring := p.ring.putEntry address (if lost then { n with link := .lost } else n) }
  if lost then (q.raiseNotice .nodeChange).linkTold p.ring n.kind true else q

/-- R51: the status test and the value test against the reading that the new one replaces. -/
def NodeEntry.detects (n : NodeEntry) (old : Reading) (value : Int) (status : Byte) : Bool :=
  ((old.status ^^^ status) &&& n.watch) != 0
    || (valueUsed n.kind && decide (0 < n.threshold)
      && decide (n.threshold ≤ (value - n.reference.getD value).natAbs))

/-- R45, R51: a good MAIN reply. -/
def NodeEntry.goodMain (n : NodeEntry) (r : RingReply) : NodeEntry :=
  let value := r.value.toInt
  let reading : Reading := ⟨value, r.status, valueInRange n.kind value⟩
  match n.main, n.freshReference with
  | some old, false =>
    let changed := n.detects old value r.status
    { n with
      main := some reading
      changed := changed
      reference := if changed then some value else n.reference }
  | _, _ => { n with main := some reading, reference := some value, freshReference := false }

/-- R45: a good ALT or STATS reply. -/
def NodeEntry.goodAlt (n : NodeEntry) (r : RingReply) (f : Selector) : NodeEntry :=
  { n with alt := some ⟨r.value.toInt, r.status, f⟩ }

/-- R49, R50: a good IDENT reply. An address mapped NONE has no kind to match. -/
def NodeEntry.goodIdent (n : NodeEntry) (r : RingReply) : NodeEntry :=
  { n with
    identity := some ⟨r.kind, r.variant, r.serial⟩
    requestSeen := false
    mismatch := n.kind != .none && r.kind != n.kind }

/-- R45, R46: what a good reply makes of its entry, the link state included. -/
def NodeEntry.good (n : NodeEntry) (r : RingReply) : NodeEntry :=
  let m := match r.fetch with
    | .main => n.goodMain r
    | .alt => n.goodAlt r .alt
    | .stats => n.goodAlt r .stats
    | .ident => n.goodIdent r
  { m with
    misses := 0
    link := .linked
    requestSeen := m.requestSeen || serviceFlag r.status }

/-- R45, R46, R49, R50: a good reply outside discovery. -/
def Part.judgeGood (p : Part) (address : Nat) (r : RingReply) : Part :=
  let n := p.ring.entry address
  let m := n.good r
  let q : Part := { p with ring := p.ring.putEntry address m }
  let t := if n.link ≠ .linked ∨ r.fetch = .ident then q.raiseNotice .nodeChange else q
  if r.fetch = .ident ∧ m.mismatch then t.raiseFault .nodeMap else t

/-- R45: a frame answers a poll. -/
def answersPoll (r : RingReply) (poll : Poll) : Bool := r.address = poll.address && r.fetch = poll.fetch

/-! ### Discovery (R56) -/

/-- R56: the poll of an address with an attempt of the discovery scan. -/
def Ring.discover (r : Ring) (a attempt : Nat) : Ring := { r with poll := some ⟨a, .ident, attempt, false⟩ }

/-- R41, R56: the node table built from the map; the other fields have their reset values. -/
def Store.mapNodes (s : Store) : List NodeEntry :=
  (List.range 12).map (fun i => NodeEntry.reset (s.mapKind (i + 1)))

/-- R56: the discovery scan starts. -/
def Part.startDiscovery (p : Part) : Part :=
  { p with
    ring := Ring.discover { p.ring with nodes := p.store.mapNodes, phase := .discovery, scan := 0 } 1 1
    mode.startup := .discovery }

/-- R56: NODE_MAP is raised at the end of discovery. -/
def Ring.mapFaulty (r : Ring) : Bool :=
  !r.mapNamesRequired
    || r.nodes.any (fun n => requiredKinds.contains n.kind && n.link = .absent)
    || r.nodes.any (fun n => n.mismatch)

/-- R56: the discovery scan ends and ordinary scanning begins with scan 1. -/
def Part.endDiscovery (p : Part) : Part :=
  let q : Part := { p with
    ring := { p.ring with phase := .idle, poll := none, startAtOnce := true }
    mode.startup := .water }
  if q.ring.mapFaulty then q.raiseFault .nodeMap else q

/-- R56: the next address of the discovery scan, or its end. -/
def Part.nextDiscovery (p : Part) (address : Nat) : Part :=
  if address < 12 then { p with ring := p.ring.discover (address + 1) 1 } else p.endDiscovery

/-- R56: a miss of the discovery scan: at most three attempts for each address. Only a good reply records an identity
fetch scan there (log entry 52). -/
def Part.discoveryMiss (p : Part) (poll : Poll) (badCheck : Bool) : Part :=
  let q : Part := { p with ring := p.ring.putEntry poll.address ((p.ring.entry poll.address).miss badCheck) }
  if poll.attempt < 3 then { q with ring := q.ring.discover poll.address (poll.attempt + 1) }
  else q.nextDiscovery poll.address

/-- R56: a good IDENT reply of the discovery scan. -/
def Part.discoveryGood (p : Part) (poll : Poll) (r : RingReply) : Part :=
  let m := { (p.ring.entry poll.address).good r with identScan := some 0 }
  Part.nextDiscovery { p with ring := p.ring.putEntry poll.address m } poll.address

/-! ### The commands of the ring -/

/-- R45, R56: a complete frame arrives in the reply window. -/
def Part.nodeReply (p : Part) (r : RingReply) : Part :=
  match p.ring.poll with
  | none => p
  | some poll =>
    let badCheck := decide (crc8 r.body ≠ r.crc)
    let isGood := !badCheck && answersPoll r poll
    match p.ring.phase with
    | .discovery => if isGood then p.discoveryGood poll r else p.discoveryMiss poll badCheck
    | .scanning =>
      if poll.discard then p.nextPoll poll.address
      else if isGood then (p.judgeGood poll.address r).nextPoll poll.address
      else (p.judgeMiss poll.address badCheck).nextPoll poll.address
    | .idle => p

/-- R45: the reply window closes without a complete frame. -/
def Part.replyMissing (p : Part) : Part :=
  match p.ring.poll with
  | none => p
  | some poll =>
    match p.ring.phase with
    | .discovery => p.discoveryMiss poll false
    | .scanning =>
      if poll.discard then p.nextPoll poll.address
      else (p.judgeMiss poll.address false).nextPoll poll.address
    | .idle => p

/-- R43: the scan timer expires. In a scan it has overrun; the next scan starts at the completion of the one in
progress. -/
def Part.scanTimer (p : Part) : Part :=
  match p.ring.timer with
  | .running _ =>
    if p.ring.phase = .idle then { p with ring.startAtOnce := true, ring.timer := .stopped }
    else { p with ring.startAtOnce := true, ring.overruns := bump 65535 p.ring.overruns, ring.timer := .stopped }
  | .paused _ => p
  | .stopped => p

end Sys2Proof.Machine
end

