-- ==== Sys2Proof/Machine/Mains.lean ====
section
/-! DEFINITION. What a zero-crossing does by its place (R23 to R26; log entry 9), the window boundary, and the onset and
the end of mains loss in every block (R80, R150). -/

namespace Sys2Proof.Machine

/-- R80: the fill, drain and run-on timers pause with the pumps. -/
def Boiler.pauseTimers (b : Boiler) : Boiler :=
  { b with
    fillTimer := b.fillTimer.pause
    drainTimer := b.drainTimer.pause
    runOnTimer := b.runOnTimer.pause }

/-- R80: the paused timers resume from their remaining time. -/
def Boiler.resumeTimers (b : Boiler) : Boiler :=
  { b with
    fillTimer := b.fillTimer.resume
    drainTimer := b.drainTimer.resume
    runOnTimer := b.runOnTimer.resume }

/-- R25, R150: the onset of mains loss. -/
def Part.mainsOnset (p : Part) : Part :=
  let q := Part.raiseNotice { p with power := p.power.lose, mode.mainsLoss := true } .fault
  let r := q.climateMainsLoss.programMainsLoss
  { r with boiler := r.boiler.pauseTimers }

/-- R26, R150: the end of mains loss; the crossing opens a first window without grants. -/
def Part.mainsEnd (p : Part) : Part :=
  let q := Part.openFirstWindow { p with mode.mainsLoss := false, power.returnRun := 0, power.returnTime := 0 }
  let r := q.climateMainsReturn
  Part.programMainsReturn { r with boiler := r.boiler.resumeTimers }

/-- R18, R23: the window boundary. The tach latch and the dwell counts come first, then the grants. -/
def Part.windowBoundary (p : Part) : Part :=
  let q : Part := p.latchTach
  let r : Part := { q with power := q.power.updateDwell }
  let t := if r.climate.stallCount = 3 ∧ p.climate.stallCount ≠ 3 then r.raiseFault .fanStall else r
  { t.grantWindow with climate.grantFresh := true }

/-- R24, R181: the start-up measurement has ended without a class; discovery follows. -/
def Part.measureFailed (p : Part) : Part :=
  Part.startDiscovery (Part.mainsOnset { p with power.measure := .none })

/-- R24, R181: the start-up measurement has measured a time of 10 half-cycles; discovery follows. -/
def Part.measured (p : Part) (time : Nat) : Part :=
  let c := classify time
  if c = .unknown then p.measureFailed
  else Part.startDiscovery (Part.openFirstWindow { p with power.measure := .none, power.freq := c })

/-- R23, R35: a crossing in a window. -/
def Part.windowCrossing (p : Part) : Part :=
  if p.power.crossing = 99 then p.windowBoundary else { p with power.crossing := p.power.crossing + 1 }

/-- R26: a crossing during mains loss. -/
def Part.returnCrossing (p : Part) (gap : Nat) : Part :=
  if p.power.completesReturn gap then p.mainsEnd else { p with power := p.power.returnCrossing gap }

/-- R23 to R26: a zero-crossing, with the time since the crossing before it. A gap of more than 25 ms has ended a
measurement or begun a mains loss before the crossing comes (log entry 10). -/
def Part.zeroCrossing (p : Part) (gap : Nat) : Part :=
  match p.power.measure with
  | .waiting => { p with power.measure := .timing 0 0 }
  | .timing n t =>
    if lossGap < gap then p.measureFailed.returnCrossing gap
    else if n = 9 then p.measured (t + gap)
    else { p with power.measure := .timing (n + 1) (t + gap) }
  | .none =>
    if p.mode.mainsLoss then p.returnCrossing gap
    else if p.power.freq = .unknown then p
    else if lossGap < gap then p.mainsOnset.returnCrossing gap
    else if p.power.counting then p.windowCrossing
    else p

/-- R24: no crossing for 25 ms during the start-up measurement. -/
def Part.measureTimeout (p : Part) : Part := if p.power.measure = .none then p else p.measureFailed

/-- R25: 25 ms without a crossing, once a class is known. -/
def Part.crossingsStop (p : Part) : Part :=
  if p.power.measure = .none && p.power.freq != .unknown && !p.mode.mainsLoss then p.mainsOnset else p

end Sys2Proof.Machine
end

