-- ==== Sys2Proof/Machine/Timers.lean ====
section
/-! DEFINITION. The expiries of the boiler's, the executor's and the mode controller's timers, and the pulse inputs. An
expiry of a timer that does not run changes nothing (log entry 4). -/

namespace Sys2Proof.Machine

/-- R67: the pump ran, the tank is full, and no water moved. -/
def Part.noFlow (p : Part) : Bool :=
  p.boiler.flow = 0 && p.ring.image.tankPresent && !p.ring.image.tankLow

/-- R67: the fill timer expires. -/
def Part.fillTimeout (p : Part) : Part :=
  if p.boiler.fillTimer.runs && (p.boiler.state = .filling || p.boiler.state = .topping) then
    if p.noFlow then p.raiseFault .fillFault
    else if p.boiler.purpose = some .dose then p.boilerEndFill.descaleDoseTimeout
    else p.pauseFill .noWater
  else p

/-- R74: the drain timer expires before LOW_WET has read dry. -/
def Part.drainTimeout (p : Part) : Part :=
  if p.boiler.drainTimer.runs && p.boiler.state = .draining then p.raiseFault .drainTimeout else p

/-- R74: the run-on timer expires. -/
def Part.runOnDone (p : Part) : Part :=
  if p.boiler.runOnTimer.runs && p.boiler.state = .draining then p.drainDone else p

/-- R73: the cool-wait timer expires. -/
def Part.coolWaitDone (p : Part) : Part :=
  if p.boiler.coolWaitTimer.runs && p.boiler.state = .coolWait then p.enterDraining else p

/-- R75: the idle-drain timer expires. -/
def Part.idleDrain (p : Part) : Part :=
  if p.boiler.idleDrainTimer.runs && p.boiler.state = .ready then p.startDrain .normal .none else p

/-- R71: the level delay timer expires. -/
def Part.levelDelayDone (p : Part) : Part :=
  if p.boiler.levelTimer.runs && (p.boiler.state = .ready || p.boiler.state = .steaming) then
    p.startFill .topup .none
  else p

/-- R92: the lull timer expires. -/
def Part.lullReached (p : Part) : Part :=
  if p.scale.lull = .running then { p with scale.lull := .reached } else p

/-- R126: the TIME half of the end condition is met. -/
def Part.timeReached (p : Part) (st : Stage) : Bool :=
  (st.endCondition = .time || st.endCondition = .timeOrCore) && decide (st.duration ≤ p.program.elapsed)

/-- R125, R126: a second counted by the stage timer. -/
def Part.stageSecond (p : Part) : Part :=
  if p.stageTimerRuns then
    let q : Part := { p with program.elapsed := bump 86400 p.program.elapsed }
    match q.program.current with
    | some st => if q.timeReached st then q.finishStage st else q
    | none => q
  else p

/-- R141: the hold timer expires. -/
def Part.holdExpiry (p : Part) : Part :=
  if p.mode.holdTimer.runs && p.mode.mode = .hold then p.endHold.raiseNotice .holdEnd else p

/-- R16: a vent drive has run for 8 s. -/
def Part.ventTimeout (p : Part) : Part := { p with climate.ventDrive := none }

/-- R66: a FLOW pulse is counted while P_FILL is on. -/
def Part.flowPulse (p : Part) : Part :=
  if p.fillPump then { p with boiler.flow := bump 65535 p.boiler.flow } else p

/-- R18: a TACH pulse is counted in the window in progress (log entry 22). -/
def Part.tachPulse (p : Part) : Part :=
  if p.power.counting then { p with climate.tachCount := bump 65535 p.climate.tachCount } else p

/-- R11: the climate period timer expires. -/
def Part.climateExpiry (p : Part) : Part := if p.climate.periodTimer.runs then p.climatePeriod else p

end Sys2Proof.Machine
end

