-- ==== Sys2Proof/Machine/Startup.lean ====
section
/-! DEFINITION. Reset and the load step (R178, R180, R181). -/

namespace Sys2Proof.Machine

/-! ### A reset during a write (R178, log entry 3) -/

/-- The bytes of a torn item, as many as the item uses. -/
def tornValue (item n : Nat) : List Byte :=
  (List.range (itemBytes item)).map (fun i => getAt 0 (Config.tornBytes n) i)

/-- The check byte of a torn item: it never fits its bytes. -/
def tornCheckByte (item n : Nat) (bytes : List Byte) : Byte :=
  crc8 (byteOf item :: bytes) ^^^ (if Config.tornCheck n = 0 then 1 else Config.tornCheck n)

/-- R178: the stored form that the n-th cut-off write leaves; the bytes and the check are free values. -/
def tornForm (item n : Nat) : StoredForm :=
  let bytes := tornValue item n
  ⟨bytes, tornCheckByte item n bytes⟩

/-- R178: the item whose write a reset cuts off keeps its earlier value or is left damaged. -/
def State.cutWrite (s : State) : State :=
  match s.part.store.writing, s.part.store.queue with
  | some _, e :: _ => { s with
      free := s.free + 1
      flash := if Config.writeTorn s.free then setAt s.flash e.item (tornForm e.item s.free) else s.flash }
  | _, _ => s

/-! ### The load step (R180) -/

/-- R180: one item read from its stored form: its value or its default, and whether it is damaged. -/
def loadItem (item : Nat) (f : StoredForm) : ItemValue × Bool :=
  match loadForm item f with
  | some v => (v, false)
  | none => (defaultValue item, true)

/-- R180: the items from a number on, in ascending order. -/
def loadItems : Nat → List StoredForm → List (ItemValue × Bool)
  | _, [] => []
  | item, f :: rest => loadItem item f :: loadItems (item + 1) rest

/-- R98, R180: a damaged scale record takes the due threshold as loaded. -/
def damagedScale (loaded : List (ItemValue × Bool)) : ItemValue :=
  match getAt (.number 0, false) loaded 13 with
  | (.number due, _) => .scale due 0
  | _ => .scale 0 0

/-- R180: the base values of the items. -/
def baseValues (loaded : List (ItemValue × Bool)) : List ItemValue :=
  let values := loaded.map Prod.fst
  if (getAt (.number 0, false) loaded 14).2 then setAt values 14 (damagedScale loaded) else values

/-- R180: a damaged internal item is queued for writing. -/
def Part.queueDamaged (p : Part) (item : Nat) : Part :=
  if getAt false p.store.defaulted item then p.queueItem item (getAt (.number 0) p.store.base item) else p

/-- R180: STORE_DEFAULTED, once for all the damaged items of a start-up. -/
def Part.reportDamage (p : Part) : Part :=
  if p.store.defaulted.any (fun b => b) then (p.raiseNotice .storeDefaulted).raiseFault .storeDefaulted else p

/-- R114, R180: the descale record as loaded. -/
def Part.descaleLoaded (p : Part) : Part :=
  match p.store.served 16 with
  | .descale r => { p with descale.record := r }
  | _ => p

/-- R180: the load step of the store, the scale tracker and the report timer; the frequency measurement follows. -/
def Part.loadStep (p : Part) (flash : List StoredForm) : Part :=
  let loaded := loadItems 0 flash
  let q : Part := { p with store.base := baseValues loaded, store.defaulted := loaded.map Prod.snd }
  let r := ((((q.queueDamaged 14).queueDamaged 15).queueDamaged 16).reportDamage).descaleLoaded
  let t := r.scaleLoaded.startReports
  { t with mode.startup := .frequency, power.measure := .waiting }

/-- R181: every block takes its values after reset, and the start-up sequence begins. -/
def State.startUp (s : State) : State :=
  let t := s.afterReset
  { t with part := t.part.loadStep t.flash }

/-- R165, R181: power-on or nRESET, which cuts off a write in progress. -/
def State.powerOn (s : State) : State := s.cutWrite.startUp

end Sys2Proof.Machine
end

