-- ==== Sys2Proof/Machine/Reports.lean ====
section
/-! DEFINITION. The records of sections 12.5 and 12.6: the status report and the reply fields of the requests that read. -/

namespace Sys2Proof.Machine

/-- The four bits of a flag per element: top, bottom, ring, grill. -/
def elementBits (x : PerElement Bool) : Nat :=
  flagBit 0 x.top + flagBit 1 x.bottom + flagBit 2 x.ring + flagBit 3 x.grill

/-- Four two-byte fields: top, bottom, ring, grill. -/
def elementWords (x : PerElement Nat) : List Byte :=
  natBytes x.top ++ natBytes x.bottom ++ natBytes x.ring ++ natBytes x.grill

/-- Section 12.3: the held direction. -/
def heldCode : Option Direction → Nat
  | none => 0
  | some (.fill _) => 1
  | some (.heat _) => 2
  | some (.drain _) => 3

/-- Section 12.5, offset 3; FAULT_GET carries the same byte. -/
def Part.safetyByte (p : Part) : Byte := byteOf (flagBit 0 p.mode.mainsLoss + flagBit 1 p.safetyOut)

/-- A code or 0xFF for none (R182). -/
def firstFaultByte (k : Option FaultKind) : Byte := optByte (k.map faultCode)

/-- Section 12.5, offsets 1 to 11: mode controller, climate regulator and frequency class. R182: in OFF the setpoint in
force has no value. -/
def Part.reportHead (p : Part) : List Byte :=
  [byteOf (opModeCode p.mode.mode), firstFaultByte p.mode.first, p.safetyByte,
   byteOf (climateStateCode p.climate.state), optByte (p.climate.returnTo.map climateStateCode)]
  ++ optIntBytes p.climate.ts ++ intBytes p.climate.demand
  ++ [byteOf (flagBit 0 (p.climate.ventTarget = .closed)), byteOf (freqClassCode p.power.freq)]

/-- Section 12.5, offsets 12 to 33: the power allocator. -/
def Part.reportPower (p : Part) : List Byte :=
  natBytes p.power.budget ++ natBytes p.power.aux ++ natBytes p.power.available
  ++ elementWords p.power.grants.watts ++ natBytes p.power.grants.boiler
  ++ [byteOf (elementBits p.power.grants.curtailed + flagBit 4 p.power.relay),
      byteOf p.power.grants.onCycles.top, byteOf p.power.grants.onCycles.bottom,
      byteOf p.power.grants.onCycles.ring, byteOf p.power.grants.onCycles.grill, byteOf p.power.deferral]

/-- Section 12.5, offsets 34 to 45: the sensor image. -/
def Ring.reportImage (r : Ring) : List Byte :=
  let i := r.image
  optIntBytes i.tc ++ optIntBytes i.tcore ++ optIntBytes i.humidity ++ optIntBytes i.boilerTemp
  ++ [byteOf (flagBit 0 i.tc.isSome + flagBit 1 i.tcore.isSome + flagBit 2 i.humidity.isSome
        + flagBit 3 i.boilerTemp.isSome + flagBit 4 r.found + flagBit 5 r.imageValid),
      byteOf (flagBit 0 i.lowWet + flagBit 1 i.highWet + flagBit 2 i.tankPresent + flagBit 3 i.tankLow
        + flagBit 4 i.doorClosed + flagBit 5 i.doorLocked + flagBit 6 i.ventOpenEnd + flagBit 7 i.ventClosedEnd)]
  ++ natBytes i.scan

/-- Section 12.5, offsets 46 to 57: boiler controller, scale tracker and descale sequencer. -/
def Part.reportWater (p : Part) : List Byte :=
  [byteOf (boilerStateCode p.boiler.state), byteOf (purposeCode p.boiler.purpose), byteOf (ownerCode p.boiler.owner),
   byteOf (pauseReasonCode p.boiler.pauseReason)]
  ++ natBytes p.boiler.lastFill
  ++ [byteOf (flagBit 0 p.boiler.inFlight + flagBit 1 p.steamDelivered + flagBit 2 (p.scale.lock && p.lockByLoad)
        + flagBit 3 (p.scale.lock && p.descale.record.rinseOwed) + flagBit 4 p.scale.suspended),
      byteOf p.scale.owed,
      byteOf (descalePhaseCode p.descale.phase), byteOf (promptReasonCode p.descale.prompt),
      byteOf p.descale.record.rinses, byteOf (heldCode p.descale.held)]

/-- Section 12.5, offset 66: the prompt code while the reason is PROMPT. -/
def Program.promptByte (g : Program) : Byte :=
  if g.state = .waiting && g.reason = some .prompt then
    (match g.current with
      | some st => st.promptCode
      | none => 0)
  else 0

/-- Section 12.5, offsets 58 to 66: the recipe executor. -/
def Program.report (g : Program) : List Byte :=
  [byteOf (programStateCode g.state), byteOf (waitReasonCode g.reason), byteOf g.index, byteOf (stageStepCode g.step)]
  ++ quadBytes (BitVec.ofNat 32 g.elapsed) ++ [g.promptByte]

/-- R161, section 12.5: the 67 bytes of a status report that carries a number. -/
def Part.statusBytes (p : Part) (number : Nat) : List Byte :=
  [byteOf number] ++ p.reportHead ++ p.reportPower ++ p.ring.reportImage ++ p.reportWater ++ p.program.report

/-- R163: the reply fields of PING. Where the map names CAVITY_TEMP at more than one address, the serial is that of the lowest
(log entry 63). -/
def Part.pingBytes (p : Part) : List Byte :=
  let identity := match p.ring.supplier .cavityTemp with
    | some n => n.identity
    | none => none
  halfBytes Config.partCode ++ [Config.revision, byteOf identity.isSome.toNat]
  ++ quadBytes (match identity with
    | some i => i.serial
    | none => 0)

/-- R184: the value field, five bytes; bytes an item does not use are 0. -/
def ItemValue.field (v : ItemValue) : List Byte := (v.bytes ++ [0, 0, 0, 0, 0]).take 5

/-- R176: the reply fields of SETTING_GET. -/
def Store.settingBytes (s : Store) (item : Nat) : List Byte :=
  [byteOf item, byteOf (sourceCode (s.source item)), byteOf (getAt false s.defaulted item).toNat]
  ++ (s.served item).field

/-- R97, section 12.6: the reply fields of SCALE_GET. -/
def Part.scaleBytes (p : Part) : List Byte :=
  let due := p.store.num 13
  natBytes p.scale.load ++ [byteOf p.scale.remainder] ++ natBytes due ++ natBytes (lockThreshold due)
  ++ natBytes p.scale.progress ++ natBytes (p.store.num 17)
  ++ [byteOf p.scale.owed, byteOf p.scale.credit,
      byteOf (flagBit 0 p.scale.dueArmed + flagBit 1 (due ≤ p.scale.load) + flagBit 2 (p.scale.lock && p.lockByLoad)
        + flagBit 3 (p.scale.lock && p.descale.record.rinseOwed) + flagBit 4 p.scale.flush
        + flagBit 5 (p.scale.lull = .reached) + flagBit 6 p.scale.suspended),
      byteOf (flagBit 0 p.scale.inHand + flagBit 1 p.boiler.inFlight)]

/-- R115: the soak time remaining in seconds, 0 outside SOAK. The part already soaked is a free value (log entry 5). -/
def Descale.soakRemaining (d : Descale) (n : Nat) : Nat :=
  if d.phase = .soak then d.soakMinutes * 60 - Config.soakElapsed n else 0

/-- R115, section 12.6: the reply fields of DESCALE_GET. -/
def Descale.bytes (d : Descale) (remaining : Nat) : List Byte :=
  [byteOf (descalePhaseCode d.phase), byteOf (descalePhaseCode d.record.phase), byteOf (promptReasonCode d.prompt),
   byteOf d.record.rinses, byteOf (rinseStepCode d.rinseStep),
   byteOf (flagBit 0 d.record.rinseOwed + flagBit 1 d.recovered), byteOf d.soakMinutes]
  ++ natBytes remaining ++ [byteOf (heldCode d.held), byteOf (outcomeCode d.outcome)]

/-- R148: the latched kinds whose causes are present, kind n in bit n. -/
def Part.causes (p : Part) : Half :=
  p.mode.faults &&& BitVec.ofNat 16
    (flagBit 0 (p.causePresent .cavityOvertemp) + flagBit 1 (p.causePresent .cavityNodeLost)
      + flagBit 2 (p.causePresent .doorNodeLost) + flagBit 3 (p.causePresent .nodeMap)
      + flagBit 4 (p.causePresent .fanStall) + flagBit 5 (p.causePresent .boilerOverheat)
      + flagBit 6 (p.causePresent .boilerNodeLost) + flagBit 7 (p.causePresent .tankNodeLost)
      + flagBit 8 (p.causePresent .fillFault) + flagBit 9 (p.causePresent .drainTimeout)
      + flagBit 10 (p.causePresent .storeDefaulted))

/-- R148, section 12.6: the reply fields of FAULT_GET. -/
def Part.faultBytes (p : Part) : List Byte :=
  halfBytes p.mode.faults ++ halfBytes p.causes
  ++ [firstFaultByte p.mode.first, p.safetyByte, byteOf (opModeCode p.mode.mode)]

/-- Section 12.6: value and status of an optional main reading; zero bytes where it is absent. -/
def readingBytes : Option Reading → List Byte
  | some m => intBytes m.value ++ [m.status]
  | none => [0, 0, 0]

/-- Section 12.6: value, status and fetch of an optional alt reading. -/
def altBytes : Option AltReading → List Byte
  | some m => intBytes m.value ++ [m.status, byteOf (selectorCode m.fetch)]
  | none => [0, 0, 0, 0]

/-- Section 12.6: an optional identity record. -/
def identityBytes : Option Identity → List Byte
  | some i => [byteOf (nodeKindCode i.kind), byteOf (variantCode i.variant)] ++ quadBytes i.serial
  | none => [0, 0, 0, 0, 0, 0]

/-- The valid mark of an optional main reading. -/
def readingValid : Option Reading → Bool
  | some m => m.valid
  | none => false

/-- R57, section 12.6: the reply fields of NODE_GET. -/
def Ring.nodeBytes (r : Ring) (address : Nat) : List Byte :=
  let n := r.entry address
  [byteOf address, byteOf (nodeKindCode n.kind),
   byteOf (flagBit 0 n.masked + flagBit 1 n.changed + flagBit 2 n.requestSeen + flagBit 3 n.mismatch
     + flagBit 4 n.main.isSome + flagBit 5 (readingValid n.main) + flagBit 6 n.alt.isSome
     + flagBit 7 n.reference.isSome),
   byteOf (flagBit 0 n.identity.isSome + flagBit 1 n.identScan.isSome),
   byteOf (selectorCode n.selector), byteOf (linkStateCode n.link), byteOf n.misses]
  ++ natBytes n.totalMisses ++ natBytes n.crcErrors ++ readingBytes n.main ++ altBytes n.alt
  ++ intBytes (n.reference.getD 0) ++ [n.watch] ++ natBytes n.threshold ++ identityBytes n.identity
  ++ natBytes (n.identScan.getD 0) ++ natBytes r.image.scan

/-- R164, section 12.6: the ring counts of the entries. -/
def nodeCounts : List NodeEntry → List Byte
  | [] => []
  | n :: rest => natBytes n.totalMisses ++ natBytes n.crcErrors ++ nodeCounts rest

/-- R164, section 12.6: the reply fields of COUNTER_GET. -/
def Part.counterBytes (p : Part) : List Byte :=
  natBytes p.boiler.flow ++ natBytes p.climate.tachLatch ++ nodeCounts p.ring.nodes
  ++ natBytes p.ring.overruns ++ natBytes p.ring.image.scan

/-- Section 12.6: one entry of a snapshot. -/
def SnapshotEntry.bytes (e : SnapshotEntry) : List Byte :=
  byteOf (linkStateCode e.link + flagBit 2 e.main.isSome + flagBit 3 (readingValid e.main)) :: readingBytes e.main

/-- Section 12.6: the entries of a snapshot. -/
def snapshotEntries : List SnapshotEntry → List Byte
  | [] => []
  | e :: rest => e.bytes ++ snapshotEntries rest

/-- Section 12.6: the 52 bytes of a held snapshot; zero where none is held. -/
def snapshotBytes : Option Snapshot → List Byte
  | some t => natBytes t.scan ++ halfBytes t.changedSet ++ snapshotEntries t.entries
  | none => List.replicate 52 0

/-- R173, section 12.6: the reply fields of CAPTURE_GET. -/
def Capture.bytes (c : Capture) : List Byte :=
  [byteOf (flagBit 0 c.armed + flagBit 1 c.snapshot.isSome), byteOf (captureStyleCode c.style)]
  ++ halfBytes c.trigger ++ [byteOf c.missed] ++ snapshotBytes c.snapshot

end Sys2Proof.Machine
end

