-- ==== Sys2Proof/Machine/Requests.lean ====
section
/-! DEFINITION. What the owner of each request kind does with an admitted request: its checks in their order, its effect
and its reply. What other blocks do at once in consequence follows in Link.lean, when the request has been settled. -/

namespace Sys2Proof.Machine

/-- R157: a result code and the reply fields after it. A refusal carries none. -/
structure Reply where
  code : ResultCode
  fields : List Byte
deriving DecidableEq, Repr

/-- A reply without fields. -/
def Reply.bare (c : ResultCode) : Reply := ⟨c, []⟩

/-- An OK reply with fields. -/
def Reply.okWith (fields : List Byte) : Reply := ⟨.ok, fields⟩

/-- A refused request changes nothing (R157). -/
def Part.refuse (p : Part) (c : ResultCode) : Part × Reply := (p, .bare c)

/-! ### Settings (chapter 11) -/

/-- R176. -/
def Part.settingGet (p : Part) (item : Byte) : Part × Reply :=
  if 34 ≤ item.toNat then p.refuse .badValue else (p, .okWith (p.store.settingBytes item.toNat))

/-- R177, R184: the value that a SETTING_PUT carries for an item, or none for a node map value above 7. -/
def putValue (item : Nat) (v : ValueField) : Option ItemValue :=
  if item < 22 then some (.number (halfOf v.b0 v.b1).toNat) else (nodeKindOf v.b0.toNat).map .kind

/-- R177 check 6: the value as accepted, with the mark that it was changed. -/
def clampValue (item : Nat) : ItemValue → ItemValue × Bool
  | .number n => (.number (clampItem item n), decide (clampItem item n ≠ n))
  | .kind k => (.kind k, false)
  | .scale a b => (.scale a b, false)
  | .blowdown a b c d => (.blowdown a b c d, false)
  | .descale r => (.descale r, false)

/-- R177: an accepted write, told to the scale tracker or to the link controller. -/
def Part.acceptItem (p : Part) (item : Nat) (v : ItemValue) : Part :=
  let q := Part.scaleTold { p with store := p.store.accept item v } item
  if item = 19 then q.reportIntervalTold else q

/-- R177. -/
def Part.settingPut (p : Part) (item : Byte) (v : ValueField) : Part × Reply :=
  let i := item.toNat
  if 34 ≤ i then p.refuse .badValue
  else if 14 ≤ i ∧ i ≤ 16 then p.refuse .refusedState
  else if p.mode.mode = .safeStop ∧ i < 22 then p.refuse .faultActive
  else match putValue i v with
    | none => p.refuse .badValue
    | some value =>
      if (p.store.entry i).isNone ∧ 5 ≤ p.store.queue.length then p.refuse .busy
      else
        let c := clampValue i value
        (p.acceptItem i c.1, .bare (okOrClamped c.2))

/-- R179. The first items of the run join the queue before the tracker acts on items 13 and 17, so a blowdown record
that the default of item 17 changes joins behind them (log entry 50). -/
def Part.storeDefaults (p : Part) : Part × Reply :=
  if p.store.run ≠ [] then p.refuse .busy
  else
    let q : Part := { p with store := p.store.formRun }
    (((q.scaleTold 13).scaleTold 17).reportIntervalTold, .bare .ok)

/-! ### Climate (chapter 1) -/

/-- R3 checks 2 to 6. -/
def Part.climateRefusal (p : Part) (c : ClimateParams) : Option ResultCode :=
  if p.program.state.runs then some .refusedState
  else if p.descale.inSpan then some .refusedState
  else if c.mode ≠ .steam ∧ p.store.groupMax c.mode = 0 then some .refusedState
  else if c.delta.isSome && p.ring.image.tcore.isNone then some .refusedState
  else if c.mode = .steam ∧ p.scale.lock then some .locked
  else none

/-- R3. -/
def Part.climateSet (p : Part) (b : ClimateBlock) : Part × Reply :=
  match checkClimate b with
  | none => p.refuse .badValue
  | some (c, clamped) =>
    match p.climateRefusal c with
    | some code => p.refuse code
    | none => (p.writeClimate c, .bare (okOrClamped clamped))

/-- R5. -/
def Part.climateOff (p : Part) : Part × Reply :=
  if p.program.state.runs then p.refuse .refusedState else (p.endCooking, .bare .ok)

/-! ### Programs (chapter 7) -/

/-- R117: the program is emptied and takes a header. -/
def Part.clearedProgram (p : Part) (h : ProgramHeader) : Part :=
  { p with
    program.header := h
    program.stages := []
    program.index := 0
    program.elapsed := 0
    program.state := .empty }

/-- R117. -/
def Part.programClear (p : Part) (endAction : Byte) (setpoint : Half) (moist : Byte) : Part × Reply :=
  match endActionOf endAction.toNat, flagOf moist with
  | some a, some m =>
    if p.program.state.runs then p.refuse .refusedState
    else
      let hold := clampInt 600 900 setpoint.toInt
      (p.clearedProgram ⟨a, hold, m⟩, .bare (okOrClamped (decide (hold ≠ setpoint.toInt))))
  | _, _ => p.refuse .badValue

/-- R119: the state after a stage has been appended. -/
def loadedState (s : ProgramState) : ProgramState := if s.runs then s else .loaded

/-- R119. -/
def Part.stageAppend (p : Part) (b : StageBlock) : Part × Reply :=
  match checkStage b with
  | none => p.refuse .badValue
  | some (st, clamped) =>
    if 16 ≤ p.program.stages.length then p.refuse .refusedState
    else if st.params.mode ≠ .steam ∧ p.store.groupMax st.params.mode = 0 then p.refuse .refusedState
    else
      ({ p with program.stages := p.program.stages ++ [st], program.state := loadedState p.program.state },
        .bare (okOrClamped clamped))

/-- R120. -/
def Part.stageGet (p : Part) (index : Byte) : Part × Reply :=
  match p.program.stages[index.toNat]? with
  | some st => (p, .okWith ([index, byteOf p.program.stages.length] ++ stageBytes st.block))
  | none => p.refuse .badValue

/-- R122 check 4: a stage from an index on uses steam. -/
def Program.usesSteamFrom (g : Program) (index : Nat) : Bool :=
  (g.stages.drop index).any (fun st => st.params.mode.steamMode)

/-- R122: the checks in their order, for a start index. -/
def Part.startRefusal (p : Part) (index : Nat) : Option ResultCode :=
  if p.program.state = .empty ∨ p.program.state.runs then some .refusedState
  else if p.program.stages.length ≤ index then some .badValue
  else if p.descale.inSpan then some .refusedState
  else if p.scale.lock && p.program.usesSteamFrom index then some .locked
  else none

/-- R122: the program starts at an index. A manual climate is ended where the first stage prompts at its start. -/
def Part.startProgram (p : Part) (index : Nat) : Part :=
  let waits : Bool := match p.program.stages[index]? with
    | some st => decide (st.promptPoint = .atStart)
    | none => false
  let q := if waits then p.endCooking else p
  let r := Part.enterStage { q with
    program.written := none
    program.resume := none
    program.settlement := none
    program.state := .running } index
  if r.mode.mainsLoss then r.pauseProgram .mains else r

/-- R122. -/
def Part.programStart (p : Part) (presence index : Byte) : Part × Reply :=
  match flagOf presence with
  | none => p.refuse .badValue
  | some given =>
    let i := if given then index.toNat else 0
    match p.startRefusal i with
    | some code => p.refuse code
    | none => (p.startProgram i, .bare .ok)

/-- R133. -/
def Part.programPause (p : Part) : Part × Reply :=
  match p.program.state with
  | .running => (p.forcedOff.pauseProgram .host, .bare .ok)
  | .waiting => (p.forcedOff.pauseProgram .host, .bare .ok)
  | .paused => ({ p.forcedOff with program.reason := some .host }, .bare .ok)
  | .empty => p.refuse .refusedState
  | .loaded => p.refuse .refusedState
  | .boundaryWait => p.refuse .refusedState
  | .ended => p.refuse .refusedState
  | .aborted => p.refuse .refusedState

/-- R133. -/
def Part.resumeRequest (p : Part) : Part × Reply :=
  if p.program.state = .paused ∧ p.program.reason = some .host then (p.programResume, .bare .ok)
  else p.refuse .refusedState

/-- R134. -/
def Part.abortRequest (p : Part) : Part × Reply :=
  if p.program.state.runs then (p.abortProgram, .bare .ok) else p.refuse .refusedState

/-- R127: a confirmed prompt, by the step. -/
def Part.confirmPrompt (p : Part) (st : Stage) : Part :=
  match p.program.step with
  | .notBegun => p.beginStage st
  | .preheating => Part.returnRunning { p with program.step := .counting }
  | .counting => p
  | .finished => p.boundary

/-- R127. -/
def Part.stageConfirm (p : Part) : Part × Reply :=
  match p.program.state, p.program.reason, p.program.current with
  | .waiting, some .prompt, some st =>
    if p.program.step = .counting then p.refuse .refusedState else (p.confirmPrompt st, .bare .ok)
  | .waiting, some .probeLost, _ =>
    if p.ring.image.tcore.isSome then (p.returnRunning, .bare .ok) else p.refuse .refusedState
  | .waiting, some .steamFault, _ =>
    if p.scale.lock then p.refuse .locked
    else if p.steamFault then p.refuse .refusedState
    else (p.returnRunning, .bare .ok)
  | .running, _, some st =>
    if st.endCondition = .confirm ∧ p.program.step = .counting then (p.finishStage st, .bare .ok)
    else p.refuse .refusedState
  | _, _, _ => p.refuse .refusedState

/-- R132. -/
def Part.stageSkip (p : Part) : Part × Reply :=
  if p.program.state = .running ∨ p.program.state = .waiting then (p.boundary, .bare .ok)
  else p.refuse .refusedState

/-! ### Boiler and scale (chapters 4 and 5) -/

/-- R75. With owner NONE the boiler does not heat or steam; a request that came then would find it busy (log entry
26). -/
def Part.boilerDrain (p : Part) : Part × Reply :=
  if p.boiler.owner ≠ .none then p.refuse .refusedState
  else match p.boiler.state with
    | .fault => p.refuse .refusedState
    | .ready => (p.startDrain .normal .none, .bare .ok)
    | .empty => (p, .bare .ok)
    | .coolWait => (p, .bare .ok)
    | .draining => (p, .bare .ok)
    | .filling => p.refuse .busy
    | .fillPaused => p.refuse .busy
    | .topping => p.refuse .busy
    | .heating => p.refuse .busy
    | .steaming => p.refuse .busy

/-- R97. -/
def Part.scaleGet (p : Part) : Part × Reply := (p, .okWith p.scaleBytes)

/-! ### Descaling (chapter 6) -/

/-- R102 checks 2 to 5, which DESCALE_CONFIRM makes as well (R104). -/
def Part.descaleRefusal (p : Part) : Option ResultCode :=
  if p.climate.state.cooking then some .refusedState
  else if p.program.state.runs then some .refusedState
  else match p.boiler.state with
    | .filling => some .busy
    | .topping => some .busy
    | .coolWait => some .busy
    | .draining => some .busy
    | .fillPaused => some .refusedState
    | .heating => some .refusedState
    | .steaming => some .refusedState
    | .fault => some .refusedState
    | .empty => none
    | .ready => none

/-- R102: the accepted start of a procedure. -/
def Part.beginDescale (p : Part) (minutes : Nat) : Part :=
  Part.raiseNotice (Part.descalePhase { p with
    descale.soakMinutes := minutes, descale.record.rinses := 0 } .awaitSolution (some .start)) .descaleStep

/-- R102. -/
def Part.descaleStart (p : Part) (presence minutes : Byte) : Part × Reply :=
  match flagOf presence with
  | none => p.refuse .badValue
  | some given =>
    if p.descale.phase ≠ .idle then p.refuse .refusedState
    else match p.descaleRefusal with
      | some code => p.refuse code
      | none =>
        let soak := if given then clampNat 10 60 minutes.toNat else 30
        (p.beginDescale soak, .bare (okOrClamped (given && decide (soak ≠ minutes.toNat))))

/-- R104. -/
def Part.descaleConfirm (p : Part) : Part × Reply :=
  match p.descale.phase, p.descale.prompt with
  | .awaitSolution, some .start =>
    match p.descaleRefusal with
    | some code => p.refuse code
    | none => (Part.enterDrainFirst { p with boiler.owner := .descale }, .bare .ok)
  | .awaitSolution, _ => (p.enterDose, .bare .ok)
  | .awaitRinseWater, _ =>
    (Part.directFill { p.descalePhase .rinse none with descale.rinseStep := some .fill } .rinse, .bare .ok)
  | _, _ => p.refuse .refusedState

/-- R111. -/
def Part.abortDescale (p : Part) : Part × Reply :=
  let r := p.descaleAbort
  if r.2 then (r.1, .bare .ok) else p.refuse .refusedState

/-! ### Modes and faults (chapter 8) -/

/-- R140 checks 1 to 3. -/
def Part.holdRefusal (p : Part) : Option ResultCode :=
  if p.program.state.runs then some .refusedState
  else if p.descale.phase ≠ .idle then some .refusedState
  else if p.store.groupMax .hotAir = 0 then some .refusedState
  else none

/-- R140. -/
def Part.holdEnter (p : Part) (setpoint : Half) (moist : Byte) : Part × Reply :=
  match flagOf moist with
  | none => p.refuse .badValue
  | some m =>
    match p.holdRefusal with
    | some code => p.refuse code
    | none =>
      let hold := clampInt 600 900 setpoint.toInt
      (p.enterHold hold m, .bare (okOrClamped (decide (hold ≠ setpoint.toInt))))

/-- R77, R95, R141. An abandoned blowdown's refill ends with the hold, whatever the owner. The refill of a blowdown whose
drain has completed runs on; any other fill ends as the owner becomes NONE (R64, log entry 49). -/
def Part.holdExit (p : Part) (abandon : Byte) : Part × Reply :=
  match flagOf abandon with
  | none => p.refuse .badValue
  | some a =>
    if p.mode.mode = .hold then
      (if a && p.boiler.inFlight then p.abandonBlowdown.endHold.endRefill
        else if p.blowdownRefill then p.endHold.refillRunsOn
        else p.endHold, .bare .ok)
    else p.refuse .refusedState

/-- R142: the checks in their order. -/
def Part.standbyRefusal (p : Part) : Option ResultCode :=
  if p.descale.phase ≠ .idle then some .refusedState
  else if p.climate.state.cooking then some .refusedState
  else if p.program.state.runs then some .refusedState
  else match p.boiler.state with
    | .filling => some .busy
    | .topping => some .busy
    | .fillPaused => some .refusedState
    | .heating => some .refusedState
    | .steaming => some .refusedState
    | .fault => some .refusedState
    | .empty => none
    | .ready => none
    | .coolWait => none
    | .draining => none

/-- R142. The standby drain and the entry to STANDBY follow as reactions. -/
def Part.standbyEnter (p : Part) : Part × Reply :=
  match p.standbyRefusal with
  | some code => p.refuse code
  | none => (p.setMode .standbyPending, .bare .ok)

/-- R79: STOP acts on the boiler when the owner is NONE or COOKING. -/
def Part.stopBoiler (p : Part) : Part := if p.boiler.owner = .descale then p else p.boilerStop

/-- R145: what STOP does in a mode. -/
def Part.stopped (p : Part) : Part :=
  match p.mode.mode with
  | .active =>
    let q := if p.program.state.runs then p.abortProgram else p.endCooking
    (q.descaleStop).stopBoiler
  | .hold => p.endHold.stopBoiler
  | .standbyPending => (p.setMode .active).stopBoiler
  | .safeStop => p.descaleStop.stopBoiler
  | .starting => p
  | .standby => p

/-- R145. -/
def Part.stopRequest (p : Part) : Part × Reply := (p.stopped, .bare .ok)

/-- R148. -/
def Part.faultGet (p : Part) : Part × Reply := (p, .okWith p.faultBytes)

/-- R149. -/
def Part.faultClear (p : Part) (kind : Byte) : Part × Reply :=
  match faultOf kind.toNat with
  | none => p.refuse .badValue
  | some k =>
    if !hasFault p.mode.faults k then (p, .bare .ok)
    else if p.causePresent k then p.refuse .faultActive
    else (p.clearFault k, .bare .ok)

/-! ### Ring (chapter 3) -/

/-- R57: the address is an enumerated field. -/
def addressOf (a : Byte) : Option Nat := if 1 ≤ a.toNat ∧ a.toNat ≤ 12 then some a.toNat else none

/-- R57. -/
def Part.nodeGet (p : Part) (address : Byte) : Part × Reply :=
  match addressOf address with
  | some a => (p, .okWith (p.ring.nodeBytes a))
  | none => p.refuse .badValue

/-- R58: the entry as NODE_SET writes it. A mask that is set on an unmasked entry takes its link state away; a mask that
is cleared makes the next MAIN reply take a fresh reference. A MAIN reply to a poll in flight is judged with the new watch
mask and threshold, as R51 gives (log entry 51). -/
def NodeEntry.configure (n : NodeEntry) (masked : Bool) (f : Selector) (watch : Byte) (threshold : Nat) : NodeEntry :=
  let m := { n with selector := f, watch := watch, threshold := threshold, masked := masked }
  if masked && !n.masked then
    { m with link := .absent, misses := 0, changed := false, requestSeen := false }
  else if !masked && n.masked then { m with freshReference := true }
  else m

/-- R44, R58: the poll in flight of an entry that is being masked will be discarded. -/
def Ring.discardPoll (r : Ring) (address : Nat) : Ring :=
  match r.poll with
  | some poll => if poll.address = address then { r with poll := some { poll with discard := true } } else r
  | none => r

/-- R58: an accepted NODE_SET. Masking the core probe takes it from LINKED, which the executor is told (log entry 30). -/
def Part.configureNode (p : Part) (a : Nat) (masked : Bool) (f : Selector) (watch : Byte) (threshold : Nat) : Part :=
  let n := p.ring.entry a
  let ring := p.ring.putEntry a (n.configure masked f watch threshold)
  Part.linkTold { p with ring := if masked && !n.masked then ring.discardPoll a else ring } p.ring n.kind false

/-- R58. -/
def Part.nodeSet (p : Part) (address masked selector watch : Byte) (threshold : Half) : Part × Reply :=
  match addressOf address, flagOf masked, selectorOf selector.toNat with
  | some a, some m, some f =>
    let kind := (p.ring.entry a).kind
    if kind = .none then p.refuse .refusedState
    else if m && requiredKinds.contains kind then p.refuse .refusedState
    else
      let t := clampNat 0 1000 threshold.toNat
      (p.configureNode a m f watch t, .bare (okOrClamped (decide (t ≠ threshold.toNat))))
  | _, _, _ => p.refuse .badValue

/-- R59: the ring counters are zeroed. -/
def Ring.zeroCounters (r : Ring) : Ring :=
  { r with nodes := r.nodes.map (fun n => { n with totalMisses := 0, crcErrors := 0 }), overruns := 0 }

/-- R59, R164. -/
def Part.counterGet (p : Part) (zero : Byte) : Part × Reply :=
  match flagOf zero with
  | none => p.refuse .badValue
  | some z => (if z then { p with ring := p.ring.zeroCounters } else p, .okWith p.counterBytes)

/-! ### Notices and change capture (chapter 10) -/

/-- R169: the pending set after the clear, and the judgement of the re-assertion. -/
def NoticeUnit.fetch (u : NoticeUnit) (clear : Half) : NoticeUnit :=
  let left := u.pending &&& ~~~ clear
  { u with pending := left, owed := (left &&& u.enable) != 0, inHand := true }

/-- R169. -/
def Part.noticeGet (p : Part) (clear : Half) : Part × Reply :=
  ({ p with notice := p.notice.fetch clear },
    .okWith (halfBytes p.notice.pending ++ halfBytes p.notice.enable))

/-- R170. -/
def Part.noticeEnable (p : Part) (enable : Half) : Part × Reply :=
  ({ p with notice.enable := enable }, .okWith (halfBytes enable ++ halfBytes p.notice.pending))

/-- R173. -/
def Part.captureGet (p : Part) : Part × Reply := (p, .okWith p.capture.bytes)

/-- R171: a trigger set names an address and no flag beyond the twelfth. -/
def triggerOk (t : Half) : Bool := t != 0 && (t &&& 0xF000) = 0

/-- R171. -/
def Part.captureArm (p : Part) (trigger : Half) (style : Byte) : Part × Reply :=
  match captureStyleOf style.toNat with
  | none => p.refuse .badValue
  | some c =>
    if triggerOk trigger then
      ({ p with capture.trigger := trigger, capture.style := c, capture.armed := true }, .bare .ok)
    else p.refuse .badValue

/-- R173. -/
def Part.captureRelease (p : Part) (disarm : Byte) : Part × Reply :=
  match flagOf disarm with
  | none => p.refuse .badValue
  | some d =>
    ({ p with capture.snapshot := none, capture.missed := 0, capture.armed := p.capture.armed && !d }, .bare .ok)

end Sys2Proof.Machine
end

