-- ==== Sys2Proof/Machine/Link.lean ====
section
/-! DEFINITION. Chapter 9: the receiver, the receive queue, the request in hand, admission (R138), replies and status
reports, and the reset wait. `State.onBlocks` is how every command reaches the blocks. -/

namespace Sys2Proof.Machine

/-! ### Commands and the blocks -/

/-- R165: in the reset wait the report timer stays stopped and no report becomes pending. -/
def Part.quietReports (p : Part) (wait : Bool) : Part := if wait then { p with report := p.report.halt } else p

/-- What a command does to the blocks, with the reactions that follow (log entry 13) and the scans that are due at
once. -/
def State.onBlocks (s : State) (f : Part → Part) : State :=
  { s with part := (Part.advance 3 (f s.part).settle).quietReports s.link.resetWait }

/-- R139: a frame wakes the part in STANDBY. -/
def State.woken (s : State) : State := if s.part.mode.mode = .standby then s.onBlocks Part.wake else s

/-! ### Admission (R138, R139) -/

/-- R138: the rows of the admission table. -/
inductive AdmissionRow
  | always | reads | cookingReads | notices | release | stopReset | holdExit | standbyEnter | faultClear | settingPut
  | other
deriving DecidableEq, Repr

/-- R138: the row of a kind. -/
def admissionRow : ReqKind → AdmissionRow
  | .ping => .always | .statusGet => .always | .linkStats => .always
  | .settingGet => .reads | .nodeGet => .reads | .counterGet => .reads | .faultGet => .reads | .captureGet => .reads
  | .stageGet => .cookingReads | .scaleGet => .cookingReads | .descaleGet => .cookingReads
  | .noticeGet => .notices | .noticeEnable => .notices
  | .captureRelease => .release
  | .stop => .stopReset | .reset => .stopReset
  | .holdExit => .holdExit
  | .standbyEnter => .standbyEnter
  | .faultClear => .faultClear
  | .settingPut => .settingPut
  | .storeDefaults => .other | .climateSet => .other | .climateOff => .other | .programClear => .other
  | .stageAppend => .other | .programStart => .other | .programPause => .other | .programResume => .other
  | .programAbort => .other | .stageConfirm => .other | .stageSkip => .other | .boilerDrain => .other
  | .descaleStart => .other | .descaleConfirm => .other | .descaleAbort => .other | .holdEnter => .other
  | .nodeSet => .other | .captureArm => .other

/-- R138 in HOLD: the answer that the mode gives, or none where the kind is admitted. -/
def admissionHold : AdmissionRow → Option ResultCode
  | .always => none | .reads => none | .notices => none | .release => none | .stopReset => none | .holdExit => none
  | .cookingReads => some .refusedMode | .standbyEnter => some .refusedMode | .faultClear => some .refusedMode
  | .settingPut => some .refusedMode | .other => some .refusedMode

/-- R138 in STANDBY_PENDING: STANDBY_ENTER is answered OK without a change. -/
def admissionPending : AdmissionRow → Option ResultCode
  | .always => none | .reads => none | .notices => none | .release => none | .stopReset => none
  | .standbyEnter => some .ok
  | .holdExit => some .refusedMode | .cookingReads => some .refusedMode | .faultClear => some .refusedMode
  | .settingPut => some .refusedMode | .other => some .refusedMode

/-- R138 in SAFE_STOP. -/
def admissionSafeStop : AdmissionRow → Option ResultCode
  | .always => none | .reads => none | .cookingReads => none | .notices => none | .stopReset => none
  | .faultClear => none | .settingPut => none
  | .release => some .faultActive | .holdExit => some .faultActive | .standbyEnter => some .faultActive
  | .other => some .faultActive

/-- R139: the kinds answered NOT_READY between a wake and a valid image. -/
def waitsForImage : ReqKind → Bool
  | .climateSet => true | .programStart => true | .holdEnter => true | .descaleStart => true
  | .ping => false | .reset => false | .statusGet => false | .linkStats => false | .settingGet => false
  | .settingPut => false | .storeDefaults => false | .climateOff => false | .programClear => false
  | .stageAppend => false | .stageGet => false | .programPause => false | .programResume => false
  | .programAbort => false | .stageConfirm => false | .stageSkip => false | .boilerDrain => false
  | .scaleGet => false | .descaleConfirm => false | .descaleAbort => false | .descaleGet => false
  | .holdExit => false | .standbyEnter => false | .stop => false | .faultGet => false | .faultClear => false
  | .nodeGet => false | .nodeSet => false | .counterGet => false | .noticeGet => false | .noticeEnable => false
  | .captureGet => false | .captureArm => false | .captureRelease => false

/-- R138, R139: the answer that the mode gives to a kind, or none where the kind goes to its owner. A request in STANDBY
has woken the part before it is judged, so STANDBY is judged as ACTIVE. -/
def admission (m : ModeControl) (k : ReqKind) : Option ResultCode :=
  match m.mode with
  | .starting => if admissionRow k = .always then none else some .notReady
  | .active => if m.wakeWindow && waitsForImage k then some .notReady else none
  | .standby => if m.wakeWindow && waitsForImage k then some .notReady else none
  | .hold => admissionHold (admissionRow k)
  | .standbyPending => admissionPending (admissionRow k)
  | .safeStop => admissionSafeStop (admissionRow k)

/-! ### Owners (R156, R183) -/

/-- R157: OK and CLAMPED: the request has been carried out. -/
def carriedOut (c : ResultCode) : Bool := c = .ok || c = .clamped

/-- A request that reads, or that changes what no other block follows. -/
def State.plain (s : State) (r : Part × Reply) : State × Reply := ({ s with part := r.1 }, r.2)

/-- A request whose effect other blocks follow; a refused one changes nothing (R157). -/
def State.acting (s : State) (r : Part × Reply) : State × Reply :=
  if carriedOut r.2.code then (s.onBlocks (fun _ => r.1), r.2) else (s, r.2)

/-- R165: RESET is admitted; the reset wait follows its reply. -/
def State.resetRequest (s : State) : State × Reply := ({ s with link.resetAnswered := true }, .bare .ok)

/-- R162: LINK_STATS copies and clears the error counters. -/
def State.linkStats (s : State) : State × Reply :=
  ({ s with link.crcErrors := 0, link.framingErrors := 0, link.overruns := 0 },
    .okWith [byteOf s.link.crcErrors, byteOf s.link.framingErrors, byteOf s.link.overruns])

/-- R161: STATUS_GET carries the number of the last report sent. -/
def State.statusGet (s : State) : State × Reply := (s, .okWith (s.part.statusBytes s.part.report.number))

/-- R115: DESCALE_GET; the soak time remaining draws a free value in SOAK (log entry 5). -/
def State.descaleGet (s : State) : State × Reply :=
  ({ s with free := if s.part.descale.phase = .soak then s.free + 1 else s.free },
    .okWith (s.part.descale.bytes (s.part.descale.soakRemaining s.free)))

/-- R156: an admitted request goes to the block that owns its kind. -/
def State.serve (s : State) (q : Request) : State × Reply :=
  match q with
  | .ping => (s, .okWith s.part.pingBytes)
  | .reset => s.resetRequest
  | .statusGet => s.statusGet
  | .linkStats => s.linkStats
  | .settingGet item => s.plain (s.part.settingGet item)
  | .settingPut item value => s.acting (s.part.settingPut item value)
  | .storeDefaults => s.acting s.part.storeDefaults
  | .climateSet block => s.acting (s.part.climateSet block)
  | .climateOff => s.acting s.part.climateOff
  | .programClear endAction setpoint moist => s.plain (s.part.programClear endAction setpoint moist)
  | .stageAppend stage => s.plain (s.part.stageAppend stage)
  | .stageGet index => s.plain (s.part.stageGet index)
  | .programStart presence index => s.acting (s.part.programStart presence index)
  | .programPause => s.acting s.part.programPause
  | .programResume => s.acting s.part.resumeRequest
  | .programAbort => s.acting s.part.abortRequest
  | .stageConfirm => s.acting s.part.stageConfirm
  | .stageSkip => s.acting s.part.stageSkip
  | .boilerDrain => s.acting s.part.boilerDrain
  | .scaleGet => s.plain s.part.scaleGet
  | .descaleStart presence minutes => s.acting (s.part.descaleStart presence minutes)
  | .descaleConfirm => s.acting s.part.descaleConfirm
  | .descaleAbort => s.acting s.part.abortDescale
  | .descaleGet => s.descaleGet
  | .holdEnter setpoint moist => s.acting (s.part.holdEnter setpoint moist)
  | .holdExit abandon => s.acting (s.part.holdExit abandon)
  | .standbyEnter => s.acting s.part.standbyEnter
  | .stop => s.acting s.part.stopRequest
  | .faultGet => s.plain s.part.faultGet
  | .faultClear kind => s.acting (s.part.faultClear kind)
  | .nodeGet address => s.plain (s.part.nodeGet address)
  | .nodeSet address masked selector watch threshold =>
    s.acting (s.part.nodeSet address masked selector watch threshold)
  | .counterGet zero => s.plain (s.part.counterGet zero)
  | .noticeGet clear => s.plain (s.part.noticeGet clear)
  | .noticeEnable enable => s.plain (s.part.noticeEnable enable)
  | .captureGet => s.plain s.part.captureGet
  | .captureArm trigger style => s.plain (s.part.captureArm trigger style)
  | .captureRelease disarm => s.plain (s.part.captureRelease disarm)

/-! ### The request in hand (R156 to R158) -/

/-- R158, R138, R156: a frame is judged: the general checks, admission, and its owner. -/
def State.answer (s : State) (f : Frame) : State × Reply :=
  match ReqKind.ofCode f.kind with
  | none => (s, .bare .unknownKind)
  | some k =>
    if f.payload.length ≠ k.length then (s, .bare .badLength)
    else match admission s.part.mode k with
      | some code => (s, .bare code)
      | none => match readPayload k f.payload with
        | some q => s.serve q
        | none => (s, .bare .badLength)

/-- R157: the frame of a reply: the kind plus 0x80 modulo 256, the result code, and the fields where it was carried out. -/
def replyFrame (kind : Byte) (r : Reply) : Frame :=
  ⟨kind + 0x80, resultByte r.code :: (if carriedOut r.code then r.fields else [])⟩

/-- R152: the bytes of a frame on the link: start byte, length, kind, payload and check, the check's high byte first. -/
def frameBytes (kind : Byte) (payload : List Byte) (check : Half) : List Byte :=
  0xA5 :: byteOf payload.length :: kind :: (payload ++ halfBytes check)

/-- R152, R154: the check of a frame, over its length, kind and payload. -/
def Frame.check (f : Frame) : Half := crc16 (byteOf f.payload.length :: f.kind :: f.payload)

/-- R152, R159: the bytes that leave TXD for a frame, in their order. -/
def Frame.bytes (f : Frame) : List Byte := frameBytes f.kind f.payload f.check

/-- R159: the bytes that leave TXD for the frame being sent; at the idle level none. -/
def Link.txd (l : Link) : List Byte :=
  match l.sending with
  | .idle => []
  | .reply f => f.bytes
  | .report f => f.bytes

/-- R159: a reply begins at once where the transmitter is idle, else it waits. -/
def Link.sendReply (l : Link) (f : Frame) : Link :=
  match l.sending with
  | .idle => { l with sending := .reply f }
  | .reply _ => { l with reply := some f }
  | .report _ => { l with reply := some f }

/-- R156: the link controller may take a request. -/
def Link.canTake (l : Link) : Bool := l.inHand.isNone && l.reply.isNone && !l.resetWait

/-- R139, R156: a frame is taken as the request in hand and settled; `rest` is what stays in the receive queue. -/
def State.handle (s : State) (f : Frame) (rest : List Frame) : State :=
  let a := State.woken { s with link.inHand := some f, link.queue := rest }
  let r := a.answer f
  { r.1 with link := r.1.link.sendReply (replyFrame f.kind r.2) }

/-- R156: the frame at the head of the receive queue is taken, where a request may be taken. -/
def State.take (s : State) : State :=
  match s.link.queue with
  | [] => s
  | f :: rest => if s.link.canTake then s.handle f rest else s

/-! ### The receive queue (R155) -/

/-- R139, R155: an intact frame is offered to the receive queue. -/
def State.offer (s : State) (f : Frame) : State :=
  if s.link.queue.length < 4 then State.woken { s with link.queue := s.link.queue ++ [f] }
  else { s with link.overruns := bump 255 s.link.overruns }

/-- A request whose intact frame has just arrived: it is taken at once where nothing is before it, else it is offered to
the receive queue (log entry 7). In the reset wait it is ignored (R165). -/
def State.submit (s : State) (q : Request) : State :=
  if s.link.resetWait then s
  else if s.link.canTake ∧ s.link.queue = [] then s.handle (encodeRequest q) []
  else s.offer (encodeRequest q)

/-! ### The receiver (R153, R154) -/

/-- R153: a partial frame is discarded and counted. -/
def Link.framingError (l : Link) : Link :=
  { l with receiver := .hunt, framingErrors := bump 255 l.framingErrors }

/-- R154: a complete frame, from its length byte to its second check byte. An intact one is offered to the receive
queue. -/
def State.judgeFrame (s : State) (got : List Byte) : State :=
  match got with
  | len :: kind :: rest =>
    let payload := rest.take len.toNat
    let check := rest.drop len.toNat
    if check = halfBytes (crc16 (len :: kind :: payload)) then s.offer ⟨kind, payload⟩
    else { s with link.crcErrors := bump 255 s.link.crcErrors }
  | _ => s

/-- R153: the bytes of a frame after its start byte: length, kind, payload and check. -/
def frameComplete : List Byte → Bool
  | [] => false
  | len :: rest => rest.length = len.toNat + 3

/-- R153: a byte with a good stop bit, in ASSEMBLE. -/
def State.assemble (s : State) (got : List Byte) (b : Byte) : State :=
  if got = [] ∧ 120 < b.toNat then { s with link := s.link.framingError }
  else if frameComplete (got ++ [b]) then State.judgeFrame { s with link.receiver := .hunt } (got ++ [b])
  else { s with link.receiver := .assemble (got ++ [b]) }

/-- R153, R165: a byte arrives on RXD; the receiver is stopped in the reset wait. -/
def State.receive (s : State) (b : Byte) (stopGood : Bool) : State :=
  if s.link.resetWait then s
  else match s.link.receiver with
    | .hunt => if stopGood && b = 0xA5 then { s with link.receiver := .assemble [] } else s
    | .assemble got => if stopGood then s.assemble got b else { s with link := s.link.framingError }

/-- R153: a gap of more than 10 ms in a frame. -/
def State.receiveGap (s : State) : State :=
  match s.link.receiver with
  | .hunt => s
  | .assemble _ => { s with link := s.link.framingError }

/-! ### The transmitter and reports (R159 to R161, R165, R169) -/

/-- R160, R161: a status report begins: it is built now, with the next number. -/
def State.beginReport (s : State) : State :=
  let n := (s.part.report.number + 1) % 256
  { s with
    part.report.pending := false
    part.report.number := n
    link.sending := .report ⟨0x60, s.part.statusBytes n⟩ }

/-- R160: a pending report begins as the transmitter comes free. -/
def State.transmitterFree (s : State) : State :=
  if s.part.report.pending then s.beginReport else { s with link.sending := .idle }

/-- R169: the reply of a NOTICE_GET has ended; a re-assertion that is owed begins. One that falls into the release of an
earlier one makes one pulse with it (log entry 55). -/
def NoticeUnit.replyEnd (u : NoticeUnit) : NoticeUnit :=
  if u.inHand then { u with inHand := false, owed := false, pulse := u.pulse || u.owed } else u

/-- R165: the reset wait begins. -/
def State.enterResetWait (s : State) : State :=
  { s with
    link.queue := []
    link.receiver := .hunt
    link.resetAnswered := false
    link.resetWait := true
    link.sending := .idle
    part.report := s.part.report.halt }

/-- R156, R159, R165, R169: the last byte of a reply has left TXD. -/
def State.replyEnd (s : State) : State :=
  let a : State := { s with link.inHand := none, part.notice := s.part.notice.replyEnd }
  if a.link.resetAnswered then a.enterResetWait else a.transmitterFree

/-- R159: the last byte of a report has left TXD; a waiting reply goes first. -/
def State.reportEnd (s : State) : State :=
  match s.link.reply with
  | some f => { s with link.reply := none, link.sending := .reply f }
  | none => s.transmitterFree

/-- R159: the transmitter has sent a frame to its last byte. -/
def State.transmitEnd (s : State) : State :=
  match s.link.sending with
  | .idle => s
  | .reply _ => s.replyEnd
  | .report _ => s.reportEnd

/-- R160: the report timer expires while reports are allowed and the interval is not 0. A report begins at once where the
transmitter is idle. -/
def State.reportExpiry (s : State) : State :=
  if s.part.report.timer.runs && s.part.mode.mode.reports && s.part.store.num 19 != 0 then
    let a : State := { s with
      part.report.pending := true
      part.report.timer := .start (s.part.store.num 19) }
    if a.link.sending = .idle then a.beginReport else a
  else s

/-! ### Reset wait and stored items (R165, R178) -/

/-- R165: the reset wait ends when the write queue is empty. -/
def State.resetWaitEnd (s : State) : State :=
  if s.link.resetWait && s.part.store.queue.isEmpty then s.startUp else s

/-- R178: a write completes: the item's stored form is the written value with its check byte. -/
def State.writeComplete (s : State) : State :=
  match s.part.store.writing, s.part.store.queue with
  | some v, e :: _ =>
    State.onBlocks { s with flash := setAt s.flash e.item (storedForm e.item v) }
      (fun p => { p with store := p.store.completeWrite v })
  | _, _ => s

end Sys2Proof.Machine
end

