-- ==== Sys2Proof/Machine/HostRequests.lean ====
section
/-! DEFINITION. The meanings of the host's requests given directly: each acts as an intact frame of that request that has
just arrived (log entry 7). What the owner of each kind does with it stands in Requests.lean. -/

namespace Sys2Proof.Machine

/-- PING (R163). -/
def execPing (s : State) : Host.Outcome State Fault Refusal :=
  .next (s.submit .ping)

/-- RESET (R165). -/
def execReset (s : State) : Host.Outcome State Fault Refusal :=
  .next (s.submit .reset)

/-- STATUS_GET (R161). -/
def execStatusGet (s : State) : Host.Outcome State Fault Refusal :=
  .next (s.submit .statusGet)

/-- LINK_STATS (R162). -/
def execLinkStats (s : State) : Host.Outcome State Fault Refusal :=
  .next (s.submit .linkStats)

/-- SETTING_GET (R176). -/
def execSettingGet (item : Byte) (s : State) : Host.Outcome State Fault Refusal :=
  .next (s.submit (.settingGet item))

/-- SETTING_PUT (R177). -/
def execSettingPut (item : Byte) (value : ValueField) (s : State) : Host.Outcome State Fault Refusal :=
  .next (s.submit (.settingPut item value))

/-- STORE_DEFAULTS (R179). -/
def execStoreDefaults (s : State) : Host.Outcome State Fault Refusal :=
  .next (s.submit .storeDefaults)

/-- CLIMATE_SET (R3). -/
def execClimateSet (block : ClimateBlock) (s : State) : Host.Outcome State Fault Refusal :=
  .next (s.submit (.climateSet block))

/-- CLIMATE_OFF (R5). -/
def execClimateOff (s : State) : Host.Outcome State Fault Refusal :=
  .next (s.submit .climateOff)

/-- PROGRAM_CLEAR (R117). -/
def execProgramClear (endAction : Byte) (holdSetpoint : Half) (moist : Byte) (s : State) : Host.Outcome State Fault Refusal :=
  .next (s.submit (.programClear endAction holdSetpoint moist))

/-- STAGE_APPEND (R119). -/
def execStageAppend (stage : StageBlock) (s : State) : Host.Outcome State Fault Refusal :=
  .next (s.submit (.stageAppend stage))

/-- STAGE_GET (R120). -/
def execStageGet (index : Byte) (s : State) : Host.Outcome State Fault Refusal :=
  .next (s.submit (.stageGet index))

/-- PROGRAM_START (R122). -/
def execProgramStart (presence index : Byte) (s : State) : Host.Outcome State Fault Refusal :=
  .next (s.submit (.programStart presence index))

/-- PROGRAM_PAUSE (R133). -/
def execProgramPause (s : State) : Host.Outcome State Fault Refusal :=
  .next (s.submit .programPause)

/-- PROGRAM_RESUME (R133). -/
def execProgramResume (s : State) : Host.Outcome State Fault Refusal :=
  .next (s.submit .programResume)

/-- PROGRAM_ABORT (R134). -/
def execProgramAbort (s : State) : Host.Outcome State Fault Refusal :=
  .next (s.submit .programAbort)

/-- STAGE_CONFIRM (R127). -/
def execStageConfirm (s : State) : Host.Outcome State Fault Refusal :=
  .next (s.submit .stageConfirm)

/-- STAGE_SKIP (R132). -/
def execStageSkip (s : State) : Host.Outcome State Fault Refusal :=
  .next (s.submit .stageSkip)

/-- BOILER_DRAIN (R75). -/
def execBoilerDrain (s : State) : Host.Outcome State Fault Refusal :=
  .next (s.submit .boilerDrain)

/-- SCALE_GET (R97). -/
def execScaleGet (s : State) : Host.Outcome State Fault Refusal :=
  .next (s.submit .scaleGet)

/-- DESCALE_START (R102). -/
def execDescaleStart (presence minutes : Byte) (s : State) : Host.Outcome State Fault Refusal :=
  .next (s.submit (.descaleStart presence minutes))

/-- DESCALE_CONFIRM (R104). -/
def execDescaleConfirm (s : State) : Host.Outcome State Fault Refusal :=
  .next (s.submit .descaleConfirm)

/-- DESCALE_ABORT (R111). -/
def execDescaleAbort (s : State) : Host.Outcome State Fault Refusal :=
  .next (s.submit .descaleAbort)

/-- DESCALE_GET (R115). -/
def execDescaleGet (s : State) : Host.Outcome State Fault Refusal :=
  .next (s.submit .descaleGet)

/-- HOLD_ENTER (R140). -/
def execHoldEnter (setpoint : Half) (moist : Byte) (s : State) : Host.Outcome State Fault Refusal :=
  .next (s.submit (.holdEnter setpoint moist))

/-- HOLD_EXIT (R141). -/
def execHoldExit (abandon : Byte) (s : State) : Host.Outcome State Fault Refusal :=
  .next (s.submit (.holdExit abandon))

/-- STANDBY_ENTER (R142). -/
def execStandbyEnter (s : State) : Host.Outcome State Fault Refusal :=
  .next (s.submit .standbyEnter)

/-- STOP (R145). -/
def execStop (s : State) : Host.Outcome State Fault Refusal :=
  .next (s.submit .stop)

/-- FAULT_GET (R148). -/
def execFaultGet (s : State) : Host.Outcome State Fault Refusal :=
  .next (s.submit .faultGet)

/-- FAULT_CLEAR (R149). -/
def execFaultClear (kind : Byte) (s : State) : Host.Outcome State Fault Refusal :=
  .next (s.submit (.faultClear kind))

/-- NODE_GET (R57). -/
def execNodeGet (address : Byte) (s : State) : Host.Outcome State Fault Refusal :=
  .next (s.submit (.nodeGet address))

/-- NODE_SET (R58). -/
def execNodeSet (address masked selector watch : Byte) (threshold : Half) (s : State) : Host.Outcome State Fault Refusal :=
  .next (s.submit (.nodeSet address masked selector watch threshold))

/-- COUNTER_GET (R164). -/
def execCounterGet (zero : Byte) (s : State) : Host.Outcome State Fault Refusal :=
  .next (s.submit (.counterGet zero))

/-- NOTICE_GET (R169). -/
def execNoticeGet (clear : Half) (s : State) : Host.Outcome State Fault Refusal :=
  .next (s.submit (.noticeGet clear))

/-- NOTICE_ENABLE (R170). -/
def execNoticeEnable (enable : Half) (s : State) : Host.Outcome State Fault Refusal :=
  .next (s.submit (.noticeEnable enable))

/-- CAPTURE_GET (R173). -/
def execCaptureGet (s : State) : Host.Outcome State Fault Refusal :=
  .next (s.submit .captureGet)

/-- CAPTURE_ARM (R171). -/
def execCaptureArm (trigger : Half) (style : Byte) (s : State) : Host.Outcome State Fault Refusal :=
  .next (s.submit (.captureArm trigger style))

/-- CAPTURE_RELEASE (R173). -/
def execCaptureRelease (disarm : Byte) (s : State) : Host.Outcome State Fault Refusal :=
  .next (s.submit (.captureRelease disarm))

end Sys2Proof.Machine
end

