-- ==== Sys2Proof/Machine/LinkEvents.lean ====
section
/-! DEFINITION. The meanings of the reset, link and notice events of the opcode table. -/

namespace Sys2Proof.Machine

/-- R165, R181: power-on or nRESET. -/
def execPowerOnReset (s : State) : Host.Outcome State Fault Refusal := .next s.powerOn

/-- R165: the reset wait ends once the write queue is empty (log entry 12). -/
def execResetWaitEnd (s : State) : Host.Outcome State Fault Refusal := .next s.resetWaitEnd

/-- R153: a byte arrives on RXD. -/
def execRxByte (byte : Byte) (stopGood : Bool) (s : State) : Host.Outcome State Fault Refusal :=
  .next (s.receive byte stopGood)

/-- R153: a gap of more than 10 ms. -/
def execRxGapTimeout (s : State) : Host.Outcome State Fault Refusal := .next s.receiveGap

/-- R156: the head of the receive queue is taken and settled. -/
def execRequestTake (s : State) : Host.Outcome State Fault Refusal := .next s.take

/-- R159: the last byte of a frame has left TXD. -/
def execTransmitEnd (s : State) : Host.Outcome State Fault Refusal := .next s.transmitEnd

/-- R160: the report timer expires. -/
def execReportTimerExpiry (s : State) : Host.Outcome State Fault Refusal := .next s.reportExpiry

/-- R169: the 1 ms release of ATTN ends. -/
def execAttnReassertEnd (s : State) : Host.Outcome State Fault Refusal := .next { s with part.notice.pulse := false }

end Sys2Proof.Machine
end

