-- ==== Sys2Proof/Machine/PinEvents.lean ====
section
/-! DEFINITION. The meanings of the events on the pins ZC, FLOW, TACH and on the sensor ring. -/

namespace Sys2Proof.Machine

/-- R23 to R26: a zero-crossing, with the time since the crossing before it, in microseconds (log entries 9 and 10). -/
def execZeroCrossing (gap : Nat) (s : State) : Host.Outcome State Fault Refusal :=
  .next (s.onBlocks (fun p => p.zeroCrossing gap))

/-- R23: the zero-crossing that closes a window; where it would close none it changes nothing (log entry 9). -/
def execWindowBoundary (gap : Nat) (s : State) : Host.Outcome State Fault Refusal :=
  .next (if s.part.power.closesWindow gap then s.onBlocks (fun p => p.zeroCrossing gap) else s)

/-- R24: the zero-crossing that ends the start-up measurement; where it would end none it changes nothing (log
entry 9). -/
def execFrequencyMeasured (gap : Nat) (s : State) : Host.Outcome State Fault Refusal :=
  .next (if s.part.power.endsMeasurement gap then s.onBlocks (fun p => p.zeroCrossing gap) else s)

/-- R24: 25 ms without a crossing in the start-up measurement. -/
def execFreqMeasureTimeout (s : State) : Host.Outcome State Fault Refusal := .next (s.onBlocks Part.measureTimeout)

/-- R25: 25 ms without a crossing. -/
def execMainsLossOnset (s : State) : Host.Outcome State Fault Refusal := .next (s.onBlocks Part.crossingsStop)

/-- R26: the zero-crossing that ends the return run; where it would end none it changes nothing (log entry 9). -/
def execMainsReturn (gap : Nat) (s : State) : Host.Outcome State Fault Refusal :=
  .next (if s.part.mode.mainsLoss && s.part.power.completesReturn gap then s.onBlocks (fun p => p.zeroCrossing gap)
    else s)

/-- R66: a pulse on FLOW. -/
def execFlowPulse (s : State) : Host.Outcome State Fault Refusal := .next { s with part := s.part.flowPulse }

/-- R18: a pulse on TACH. -/
def execTachPulse (s : State) : Host.Outcome State Fault Refusal := .next { s with part := s.part.tachPulse }

/-- R43: the scan timer expires. -/
def execScanTimerExpiry (s : State) : Host.Outcome State Fault Refusal := .next (s.onBlocks Part.scanTimer)

/-- R45: a reply arrives whole within its window. -/
def execNodeReply (frame : RingReply) (s : State) : Host.Outcome State Fault Refusal :=
  .next (s.onBlocks (fun p => p.nodeReply frame))

/-- R45: the reply window closes without a complete reply. -/
def execReplyWindowExpiry (s : State) : Host.Outcome State Fault Refusal := .next (s.onBlocks Part.replyMissing)

end Sys2Proof.Machine
end

