-- ==== Sys2Proof/Machine/TimerEvents.lean ====
section
/-! DEFINITION. The meanings of the expiries and ticks of the part's timers and of the store's write completion. An expiry
of a timer that does not run changes nothing (log entry 4). -/

namespace Sys2Proof.Machine

/-- R11: the climate period timer expires. -/
def execClimatePeriodExpiry (s : State) : Host.Outcome State Fault Refusal := .next (s.onBlocks Part.climateExpiry)

/-- R15: a second counted by the pulse timer. -/
def execPulseTimerTick (s : State) : Host.Outcome State Fault Refusal := .next (s.onBlocks Part.pulseTick)

/-- R16: a vent drive has run for 8 s. -/
def execVentDriveTimeout (s : State) : Host.Outcome State Fault Refusal := .next { s with part := s.part.ventTimeout }

/-- R67: the fill timer expires. -/
def execFillTimeout (s : State) : Host.Outcome State Fault Refusal := .next (s.onBlocks Part.fillTimeout)

/-- R74: the drain timer expires. -/
def execDrainTimerExpiry (s : State) : Host.Outcome State Fault Refusal := .next (s.onBlocks Part.drainTimeout)

/-- R74: the run-on timer expires. -/
def execRunOnExpiry (s : State) : Host.Outcome State Fault Refusal := .next (s.onBlocks Part.runOnDone)

/-- R73: the cool-wait timer expires. -/
def execCoolWaitExpiry (s : State) : Host.Outcome State Fault Refusal := .next (s.onBlocks Part.coolWaitDone)

/-- R75: the idle-drain timer expires. -/
def execIdleDrainExpiry (s : State) : Host.Outcome State Fault Refusal := .next (s.onBlocks Part.idleDrain)

/-- R71: the level delay timer expires. -/
def execLevelDelayExpiry (s : State) : Host.Outcome State Fault Refusal := .next (s.onBlocks Part.levelDelayDone)

/-- R92: the lull timer expires. -/
def execLullTimerExpiry (s : State) : Host.Outcome State Fault Refusal := .next (s.onBlocks Part.lullReached)

/-- R107: the soak timer expires. -/
def execSoakTimerExpiry (s : State) : Host.Outcome State Fault Refusal := .next (s.onBlocks Part.soakDone)

/-- R125: a second counted by the stage timer. -/
def execStageTimerTick (s : State) : Host.Outcome State Fault Refusal := .next (s.onBlocks Part.stageSecond)

/-- R141: the hold timer expires. -/
def execHoldTimerExpiry (s : State) : Host.Outcome State Fault Refusal := .next (s.onBlocks Part.holdExpiry)

/-- R178: the write of the head entry completes. -/
def execStoreWriteComplete (s : State) : Host.Outcome State Fault Refusal := .next s.writeComplete

end Sys2Proof.Machine
end

