-- ==== Sys2Proof/Machine/Dispatch.lean ====
section
/-! DEFINITION. The meaning of every command, one arm each, in the order of spec/opcode_table.json. -/

namespace Sys2Proof.Machine

/-- What a command does to everything but the queue of waiting commands. -/
def exec (i : Instr) (s : State) : Host.Outcome State Fault Refusal :=
  match i with
  | .powerOnReset => Sys2Proof.Machine.execPowerOnReset s
  | .resetWaitEnd => Sys2Proof.Machine.execResetWaitEnd s
  | .rxByte byte stopGood => Sys2Proof.Machine.execRxByte byte stopGood s
  | .rxGapTimeout => Sys2Proof.Machine.execRxGapTimeout s
  | .requestTake => Sys2Proof.Machine.execRequestTake s
  | .transmitEnd => Sys2Proof.Machine.execTransmitEnd s
  | .reportTimerExpiry => Sys2Proof.Machine.execReportTimerExpiry s
  | .attnReassertEnd => Sys2Proof.Machine.execAttnReassertEnd s
  | .ping => Sys2Proof.Machine.execPing s
  | .reset => Sys2Proof.Machine.execReset s
  | .statusGet => Sys2Proof.Machine.execStatusGet s
  | .linkStats => Sys2Proof.Machine.execLinkStats s
  | .settingGet item => Sys2Proof.Machine.execSettingGet item s
  | .settingPut item value => Sys2Proof.Machine.execSettingPut item value s
  | .storeDefaults => Sys2Proof.Machine.execStoreDefaults s
  | .climateSet block => Sys2Proof.Machine.execClimateSet block s
  | .climateOff => Sys2Proof.Machine.execClimateOff s
  | .programClear endAction holdSetpoint moist => Sys2Proof.Machine.execProgramClear endAction holdSetpoint moist s
  | .stageAppend stage => Sys2Proof.Machine.execStageAppend stage s
  | .stageGet index => Sys2Proof.Machine.execStageGet index s
  | .programStart presence index => Sys2Proof.Machine.execProgramStart presence index s
  | .programPause => Sys2Proof.Machine.execProgramPause s
  | .programResume => Sys2Proof.Machine.execProgramResume s
  | .programAbort => Sys2Proof.Machine.execProgramAbort s
  | .stageConfirm => Sys2Proof.Machine.execStageConfirm s
  | .stageSkip => Sys2Proof.Machine.execStageSkip s
  | .boilerDrain => Sys2Proof.Machine.execBoilerDrain s
  | .scaleGet => Sys2Proof.Machine.execScaleGet s
  | .descaleStart presence minutes => Sys2Proof.Machine.execDescaleStart presence minutes s
  | .descaleConfirm => Sys2Proof.Machine.execDescaleConfirm s
  | .descaleAbort => Sys2Proof.Machine.execDescaleAbort s
  | .descaleGet => Sys2Proof.Machine.execDescaleGet s
  | .holdEnter setpoint moist => Sys2Proof.Machine.execHoldEnter setpoint moist s
  | .holdExit abort => Sys2Proof.Machine.execHoldExit abort s
  | .standbyEnter => Sys2Proof.Machine.execStandbyEnter s
  | .stop => Sys2Proof.Machine.execStop s
  | .faultGet => Sys2Proof.Machine.execFaultGet s
  | .faultClear kind => Sys2Proof.Machine.execFaultClear kind s
  | .nodeGet address => Sys2Proof.Machine.execNodeGet address s
  | .nodeSet address masked selector watch threshold => Sys2Proof.Machine.execNodeSet address masked selector watch threshold s
  | .counterGet zero => Sys2Proof.Machine.execCounterGet zero s
  | .noticeGet clear => Sys2Proof.Machine.execNoticeGet clear s
  | .noticeEnable enable => Sys2Proof.Machine.execNoticeEnable enable s
  | .captureGet => Sys2Proof.Machine.execCaptureGet s
  | .captureArm trigger style => Sys2Proof.Machine.execCaptureArm trigger style s
  | .captureRelease disarm => Sys2Proof.Machine.execCaptureRelease disarm s
  | .zeroCrossing gap => Sys2Proof.Machine.execZeroCrossing gap s
  | .windowBoundary gap => Sys2Proof.Machine.execWindowBoundary gap s
  | .frequencyMeasured gap => Sys2Proof.Machine.execFrequencyMeasured gap s
  | .freqMeasureTimeout => Sys2Proof.Machine.execFreqMeasureTimeout s
  | .mainsLossOnset => Sys2Proof.Machine.execMainsLossOnset s
  | .mainsReturn gap => Sys2Proof.Machine.execMainsReturn gap s
  | .flowPulse => Sys2Proof.Machine.execFlowPulse s
  | .tachPulse => Sys2Proof.Machine.execTachPulse s
  | .climatePeriodExpiry => Sys2Proof.Machine.execClimatePeriodExpiry s
  | .pulseTimerTick => Sys2Proof.Machine.execPulseTimerTick s
  | .ventDriveTimeout => Sys2Proof.Machine.execVentDriveTimeout s
  | .scanTimerExpiry => Sys2Proof.Machine.execScanTimerExpiry s
  | .nodeReply frame => Sys2Proof.Machine.execNodeReply frame s
  | .replyWindowExpiry => Sys2Proof.Machine.execReplyWindowExpiry s
  | .fillTimeout => Sys2Proof.Machine.execFillTimeout s
  | .drainTimerExpiry => Sys2Proof.Machine.execDrainTimerExpiry s
  | .runOnExpiry => Sys2Proof.Machine.execRunOnExpiry s
  | .coolWaitExpiry => Sys2Proof.Machine.execCoolWaitExpiry s
  | .idleDrainExpiry => Sys2Proof.Machine.execIdleDrainExpiry s
  | .levelDelayExpiry => Sys2Proof.Machine.execLevelDelayExpiry s
  | .lullTimerExpiry => Sys2Proof.Machine.execLullTimerExpiry s
  | .soakTimerExpiry => Sys2Proof.Machine.execSoakTimerExpiry s
  | .stageTimerTick => Sys2Proof.Machine.execStageTimerTick s
  | .holdTimerExpiry => Sys2Proof.Machine.execHoldTimerExpiry s
  | .storeWriteComplete => Sys2Proof.Machine.execStoreWriteComplete s

end Sys2Proof.Machine
end

