-- ==== Sys2Proof/WellFormed.lean ====
section
/-! DEFINITION. Which commands the part's surroundings can send. Request fields are raw bytes, which the owners judge,
so every request is well formed. `exec` has a meaning for ill-formed commands too; well-formedness is a premise that a
claim about the surroundings may use. -/

namespace Sys2Proof

/-- R40: the variant is SINGLE or MULTI for a core probe and STANDARD for every other kind. -/
def Variant.fits (v : Variant) (k : NodeKind) : Bool :=
  match k with
  | .coreProbe => v != .standard
  | _ => v == .standard

/-- R40, R44: what a node can send. A node's kind is one of the seven, its variant fits it, and its address is 1 to 12. -/
def RingReply.wellFormed (r : RingReply) : Bool :=
  decide (1 ≤ r.address) && decide (r.address ≤ 12) && r.kind != .none && r.variant.fits r.kind

/-- Two crossings never come at the same time, so the gap named by a crossing is above 0 (R23). -/
def Instr.wellFormed : Instr → Bool
  | .zeroCrossing gap => decide (0 < gap)
  | .windowBoundary gap => decide (0 < gap)
  | .frequencyMeasured gap => decide (0 < gap)
  | .mainsReturn gap => decide (0 < gap)
  | .nodeReply r => r.wellFormed
  | _ => true

end Sys2Proof
end

