-- ==== Sys2Proof/Safety.lean ====
section
/-! DEFINITION. What claims are stated in: invariants of the link, the store and the node table, what the blocks leave
alone, and short names for the situations that claims are about. -/

namespace Sys2Proof

/-- The direct command of a request. -/
def Request.command : Request → Instr
  | .ping => .ping
  | .reset => .reset
  | .statusGet => .statusGet
  | .linkStats => .linkStats
  | .settingGet item => .settingGet item
  | .settingPut item value => .settingPut item value
  | .storeDefaults => .storeDefaults
  | .climateSet block => .climateSet block
  | .climateOff => .climateOff
  | .programClear endAction setpoint moist => .programClear endAction setpoint moist
  | .stageAppend stage => .stageAppend stage
  | .stageGet index => .stageGet index
  | .programStart presence index => .programStart presence index
  | .programPause => .programPause
  | .programResume => .programResume
  | .programAbort => .programAbort
  | .stageConfirm => .stageConfirm
  | .stageSkip => .stageSkip
  | .boilerDrain => .boilerDrain
  | .scaleGet => .scaleGet
  | .descaleStart presence minutes => .descaleStart presence minutes
  | .descaleConfirm => .descaleConfirm
  | .descaleAbort => .descaleAbort
  | .descaleGet => .descaleGet
  | .holdEnter setpoint moist => .holdEnter setpoint moist
  | .holdExit abandon => .holdExit abandon
  | .standbyEnter => .standbyEnter
  | .stop => .stop
  | .faultGet => .faultGet
  | .faultClear kind => .faultClear kind
  | .nodeGet address => .nodeGet address
  | .nodeSet address masked selector watch threshold => .nodeSet address masked selector watch threshold
  | .counterGet zero => .counterGet zero
  | .noticeGet clear => .noticeGet clear
  | .noticeEnable enable => .noticeEnable enable
  | .captureGet => .captureGet
  | .captureArm trigger style => .captureArm trigger style
  | .captureRelease disarm => .captureRelease disarm

end Sys2Proof

namespace Sys2Proof.Machine

/-! ### Situations -/

/-- The link is at rest and the part is awake: a request given now is taken and answered at once (R156, R159). -/
def State.listening (s : State) : Prop :=
  s.link.inHand = none ∧ s.link.reply = none ∧ s.link.queue = [] ∧ s.link.sending = .idle ∧ s.link.resetWait = false
    ∧ s.part.mode.mode ≠ .standby

/-- The mode admits a request's kind (R138, R139). -/
def State.admits (s : State) (q : Request) : Prop := admission s.part.mode (requestKind q) = none

/-- The request is in hand and its reply has begun (R156, R157, R159). -/
def State.replied (s : State) (q : Request) (r : Reply) : State :=
  { s with
    link.inHand := some (encodeRequest q)
    link.sending := .reply (replyFrame (requestKind q).code r) }

/-- As `State.replied`, and the blocks hold `p` with the reactions that follow it and the scans due at once. -/
def State.carried (s : State) (q : Request) (r : Reply) (p : Part) : State :=
  { s.replied q r with part := Part.advance 3 p.settle }

/-- An event has made `p` of the blocks; the reactions that follow it and the scans due at once come after it, and nothing
else changes. -/
def State.settled (s : State) (p : Part) : State := s.onBlocks (fun _ => p)

/-- No scan is due at once, so that a command's reactions are followed by none. -/
def State.noScanDue (s : State) : Prop := s.part.ring.phase = .idle → s.part.ring.startAtOnce = false

/-- Bytes arrive on RXD one after another, each with a good stop bit. -/
def State.feed : State → List Byte → Host.Outcome State Fault Refusal
  | s, [] => .next s
  | s, b :: rest =>
    match exec (.rxByte b true) s with
    | .next t => t.feed rest
    | .fault f => .fault f
    | .refused r => .refused r

/-! ### Invariants -/

/-- R155, R156, R159, R162, R165: the receive queue holds at most four frames, the error counters end at 255, a reply
belongs to a request in hand, and in the reset wait nothing is queued, in hand or being received. -/
structure Link.Inv (l : Link) : Prop where
  queue : l.queue.length ≤ 4
  crcErrors : l.crcErrors ≤ 255
  framingErrors : l.framingErrors ≤ 255
  overruns : l.overruns ≤ 255
  waiting : l.reply.isSome → l.inHand.isSome
  sending : ∀ f, l.sending = .reply f → l.inHand.isSome ∧ l.reply = none
  answered : l.resetAnswered = true → l.inHand.isSome
  quiet : l.resetWait = true → l.queue = [] ∧ l.inHand = none ∧ l.sending = .idle ∧ l.receiver = .hunt

/-- R165: in the reset wait no report is pending and the report timer has stopped, so that none begins. -/
def State.reportsQuiet (s : State) : Prop :=
  s.link.resetWait = true → s.part.report.timer = .stopped ∧ s.part.report.pending = false

/-- R178: the items that only their owners write. -/
def internalItem (item : Nat) : Prop := item = 14 ∨ item = 15 ∨ item = 16

/-- R178: the write queue holds no two entries for one item and at most 5 entries of other than internal items, so at
most 8 entries; while it holds an entry, the head's write is in progress. R179: an item of a defaults run has no
entry. -/
structure Store.Ok (t : Store) : Prop where
  distinct : (t.queue.map QueueEntry.item).Nodup
  hosts : (t.queue.filter (fun e => e.item ≠ 14 ∧ e.item ≠ 15 ∧ e.item ≠ 16)).length ≤ 5
  writes : t.queue ≠ [] ↔ t.writing.isSome
  runApart : ∀ i ∈ t.run, t.entry i = none
  runItems : ∀ i ∈ t.run, i ∈ Sys2Proof.Machine.runItems
  runDistinct : t.run.Nodup
  full : t.run ≠ [] → 5 ≤ t.queue.length

/-- R119: at most 16 stages, and while the program runs the stage index is below the stage count. R88: owed stays within 0
to 5 and the credit within 0 to 2, and they are never both nonzero. -/
structure Part.Bounded (p : Part) : Prop where
  stages : p.program.stages.length ≤ 16
  index : p.program.state.runs = true → p.program.index < p.program.stages.length
  owed : p.scale.owed ≤ 5
  credit : p.scale.credit ≤ 2
  apart : p.scale.owed = 0 ∨ p.scale.credit = 0

/-! ### What the blocks leave alone -/

/-- What no reaction and no block operation apart from the ring's, the mains', a fault's and a request's own changes. -/
structure Fixed where
  ring : Ring
  capture : Capture
  enable : Half
  inHand : Bool
  pulse : Bool
  number : Nat
  base : List ItemValue
  defaulted : List Bool
  run : List Nat
  faults : Half
  first : Option FaultKind
  mainsLoss : Bool
  startup : StartupStep
  wakeWindow : Bool
  freq : FreqClass
  counting : Bool
  crossing : Nat
  measure : Measurement
  returnRun : Nat
  returnTime : Nat
  overtemp : Bool
  tachCount : Nat
  tachLatch : Nat
  stallCount : Nat
  windowFan : Bool
  overheat : Bool
  header : ProgramHeader
  stages : List Stage
deriving DecidableEq, Repr

/-- The fixed values of a part. -/
def Part.fixed (p : Part) : Fixed where
  ring := p.ring
  capture := p.capture
  enable := p.notice.enable
  inHand := p.notice.inHand
  pulse := p.notice.pulse
  number := p.report.number
  base := p.store.base
  defaulted := p.store.defaulted
  run := p.store.run
  faults := p.mode.faults
  first := p.mode.first
  mainsLoss := p.mode.mainsLoss
  startup := p.mode.startup
  wakeWindow := p.mode.wakeWindow
  freq := p.power.freq
  counting := p.power.counting
  crossing := p.power.crossing
  measure := p.power.measure
  returnRun := p.power.returnRun
  returnTime := p.power.returnTime
  overtemp := p.climate.overtemp
  tachCount := p.climate.tachCount
  tachLatch := p.climate.tachLatch
  stallCount := p.climate.stallCount
  windowFan := p.climate.windowFan
  overheat := p.boiler.overheat
  header := p.program.header
  stages := p.program.stages

/-- R167, R178: notices are only raised, and items are only queued by their owners. -/
structure Part.OnlyAdds (p q : Part) : Prop where
  pending : ∀ i, p.notice.pending.getLsbD i = true → q.notice.pending.getLsbD i = true
  served : ∀ i, ¬internalItem i → q.store.served i = p.store.served i
  storeOk : p.store.Ok → q.store.Ok

/-- What the reactions and the operations of the blocks leave alone. -/
structure Part.Keeps (p q : Part) : Prop where
  fixed : q.fixed = p.fixed
  adds : p.OnlyAdds q

/-- What every event in the blocks leaves alone, a write's completion and the load step apart: what only the host's
requests change. -/
structure HostOwned where
  enable : Half
  inHand : Bool
  pulse : Bool
  number : Nat
  trigger : Half
  style : CaptureStyle
  base : List ItemValue
  defaulted : List Bool
  run : List Nat
  header : ProgramHeader
  stages : List Stage
deriving DecidableEq, Repr

/-- The host-owned values of a part. -/
def Part.hostOwned (p : Part) : HostOwned where
  enable := p.notice.enable
  inHand := p.notice.inHand
  pulse := p.notice.pulse
  number := p.report.number
  trigger := p.capture.trigger
  style := p.capture.style
  base := p.store.base
  defaulted := p.store.defaulted
  run := p.store.run
  header := p.program.header
  stages := p.program.stages

/-- What every event in the blocks leaves alone. -/
structure Part.Persists (p q : Part) : Prop where
  owned : q.hostOwned = p.hostOwned
  adds : p.OnlyAdds q
  nodes : p.ring.nodes.length = 12 → q.ring.nodes.length = 12

end Sys2Proof.Machine
end

