-- ==== Sys2Proof/Certificates/Slice0/Obligations.lean ====
section
/-! DEFINITION. The statements for the provers: what the rules of spec/ say that the commands and the blocks do. A request
given directly acts as its frame (log entry 7); where a statement ends in `State.carried` or `State.settled`, the reactions
of the other blocks come in the model's order (log entry 13). -/

section
open Sys2Proof Sys2Proof.Machine

/-! ### The queue of commands and reset -/

/-- A step carries out the command at the front of the queue with the queue's rest. -/
def Obligations.StepRunsFrontCommand : Prop :=
  ∀ (c : Instr) (rest : List Instr) (s : State),
    step { s with pending := c :: rest } = exec c { s with pending := rest }

/-- The model's choice (log entries 6 and 31): every command answers a next state and none touches the waiting commands;
with no command waiting the part idles. -/
def Obligations.EveryCommandAnswersNext : Prop :=
  (∀ (c : Instr) (s : State), ∃ t, exec c s = .next t ∧ t.pending = s.pending)
  ∧ ∀ s : State, s.pending = [] → step s = .next s

/-- R166: POWER_ON_RESET leaves the link controller with the values of the table, and the report timer, started by the
load step of the same command (R160), runs where item 19 as loaded is not 0. -/
def Obligations.PowerOnResetsLink : Prop :=
  ∀ s : State, ∃ t, exec .powerOnReset s = .next t
    ∧ t.link.receiver = .hunt ∧ t.link.queue = [] ∧ t.link.inHand = none ∧ t.link.reply = none
    ∧ t.link.sending = .idle ∧ t.link.crcErrors = 0 ∧ t.link.framingErrors = 0 ∧ t.link.overruns = 0
    ∧ t.link.resetWait = false ∧ t.part.report.pending = false ∧ t.part.report.number = 0
    ∧ t.part.report.timer = (if t.part.store.num 19 = 0 then .stopped else .running (t.part.store.num 19))

/-- R22, R24, R39, R61, R83, R116, R136, R151, R174, R181: what POWER_ON_RESET leaves in the blocks, the fault set and the
pending notices apart, which the load step may add to. The climate's and the boiler's values after reset include the model's
own: the vent drive that is due (log entry 20), the timeout class and the heating target (log entry 34), and what a parameter
write reads (log entry 48). -/
def Obligations.PowerOnResetsBlocks : Prop :=
  ∀ s : State, ∃ t, exec .powerOnReset s = .next t
    ∧ t.part.climate = Climate.reset ∧ t.part.climate.state = .off ∧ t.part.climate.params = none
    ∧ t.part.climate.integral = 0 ∧ t.part.climate.ventTarget = .opened ∧ t.part.climate.ventDrive = none
    ∧ t.part.power.freq = .unknown ∧ t.part.power.counting = false ∧ t.part.power.grants = GrantSet.zero
    ∧ t.part.power.relay = false ∧ t.part.power.onDwell = 0 ∧ t.part.power.offDwell = 3 ∧ t.part.power.deferral = 0
    ∧ t.part.power.measure = .waiting
    ∧ t.part.ring.scan = 0 ∧ t.part.ring.timer = .stopped ∧ t.part.ring.imageValid = false
    ∧ t.part.ring.image.doorClosed = false ∧ t.part.ring.image.tc = none ∧ t.part.ring.image.tankLow = true
    ∧ t.part.boiler = Boiler.reset ∧ t.part.boiler.state = .empty ∧ t.part.boiler.owner = .none
    ∧ t.part.descale.phase = .idle ∧ t.part.descale.prompt = none ∧ t.part.descale.soakMinutes = 30
    ∧ t.part.descale.outcome = .none
    ∧ t.part.program.state = .empty ∧ t.part.program.stages = [] ∧ t.part.program.header = ⟨.stop, 700, false⟩
    ∧ t.part.mode.mode = .starting ∧ t.part.mode.mainsLoss = false ∧ t.part.mode.holdTimer = .stopped
    ∧ t.part.notice.enable = 0xB7FF ∧ t.part.notice.owed = false
    ∧ t.part.capture.armed = false ∧ t.part.capture.style = .oneShot ∧ t.part.capture.trigger = 0x0FFF
    ∧ t.part.capture.snapshot = none ∧ t.part.capture.missed = 0

/-- R86, R87, R89, R98, R114, R178, R180: with no write in progress, a power-on keeps every stored form, and the load step
serves each item that is not internal and has no damage at its stored value and every damaged one at its default. The scale
tracker takes its records as loaded: a damaged scale record gives the due threshold as load, a damaged blowdown record its
default, and a progress at or above the interval is judged by the loop of R89 with V = 0; the last queued load, the due flag
or DESCALE_DUE, and the steam lock follow from them. The descale record is the stored one, or its default where it is damaged.
A damaged record is queued for writing, and the blowdown record where the loop has changed owed or credit; STORE_DEFAULTED is
raised as a notice and latched as a fault exactly where an item is damaged. -/
def Obligations.PowerOnLoadsItems : Prop :=
  (∀ (s : State) (i : Nat) (f : StoredForm), s.part.store.writing = none → s.flash[i]? = some f →
    i ≠ 14 → i ≠ 15 → i ≠ 16 → ∃ t, exec .powerOnReset s = .next t ∧ t.flash = s.flash
      ∧ t.part.store.served i = (loadForm i f).getD (defaultValue i)
      ∧ getAt false t.part.store.defaulted i = (loadForm i f).isNone)
  ∧ ∀ s : State, s.part.store.writing = none → s.flash.length = 34 → ∃ t, exec .powerOnReset s = .next t
    ∧ (let loaded (i : Nat) : Option ItemValue := s.flash[i]?.bind (loadForm i)
      let store := t.part.store
      let u := t.part.scale
      let record := t.part.descale.record
      let due := store.num 13
      let interval := store.num 17
      let queued (i : Nat) : Prop := ∃ e ∈ store.queue, e.item = i
      let judged (progress owed credit : Nat) : Prop :=
        let turns := progress / interval
        let room := credit + (5 - owed)
        (turns ≤ room → u.progress = progress % interval ∧ u.credit = credit - turns
          ∧ u.owed = owed + (turns - credit))
        ∧ (room < turns → u.progress = interval - 1 ∧ u.credit = 0 ∧ u.owed = 5)
      (∀ i, i = 14 ∨ i = 15 ∨ i = 16 → getAt false store.defaulted i = (loaded i).isNone)
      ∧ (∀ load remainder, loaded 14 = some (.scale load remainder) →
        u.load = load ∧ u.remainder = remainder ∧ store.served 14 = .scale load remainder)
      ∧ (loaded 14 = none → u.load = due ∧ u.remainder = 0 ∧ store.served 14 = .scale due 0)
      ∧ (queued 14 ↔ loaded 14 = none)
      ∧ (∀ progress owed credit flush, loaded 15 = some (.blowdown progress owed credit flush) →
        judged progress owed credit ∧ u.flush = flush
        ∧ (queued 15 ↔ u.owed ≠ owed ∨ u.credit ≠ credit))
      ∧ (loaded 15 = none → u.progress = 0 ∧ u.owed = 0 ∧ u.credit = 0 ∧ u.flush = false ∧ queued 15)
      ∧ (queued 15 → store.served 15 = .blowdown u.progress u.owed u.credit u.flush)
      ∧ (∀ r, loaded 16 = some (.descale r) → record = r)
      ∧ (loaded 16 = none → record = ⟨.idle, 0, false⟩)
      ∧ (queued 16 ↔ loaded 16 = none) ∧ store.served 16 = .descale record
      ∧ (∀ e ∈ store.queue, e.item = 14 ∨ e.item = 15 ∨ e.item = 16)
      ∧ u.lastQueued = u.load ∧ (u.dueArmed = true ↔ u.load < due)
      ∧ (due ≤ u.load → t.part.notice.pending.getLsbD (noticePosition .descaleDue) = true)
      ∧ (u.lock = true ↔ min 65535 (due * 5 / 4) ≤ u.load ∨ record.rinseOwed = true)
      ∧ (hasFault t.part.mode.faults .storeDefaulted = true ↔ ∃ i, i < 34 ∧ loaded i = none)
      ∧ (t.part.notice.pending.getLsbD (noticePosition .storeDefaulted) = true ↔ ∃ i, i < 34 ∧ loaded i = none))

/-! ### The receiver and the receive queue -/

/-- R153, R165: what a byte, a bad stop bit and a gap do outside the end of a frame. That a gap in HUNT changes
nothing is the model's choice (log entry 4). -/
def Obligations.ReceiverActsOnBytes : Prop :=
  ∀ (s : State) (b : Byte), s.link.resetWait = false →
    (s.link.receiver = .hunt →
      exec (.rxByte b true) s = .next (if b = 0xA5 then { s with link.receiver := .assemble [] } else s)
      ∧ exec (.rxByte b false) s = .next s ∧ exec .rxGapTimeout s = .next s)
    ∧ (∀ got, s.link.receiver = .assemble got →
      exec (.rxByte b false) s
        = .next { s with link.receiver := .hunt, link.framingErrors := min 255 (s.link.framingErrors + 1) }
      ∧ exec .rxGapTimeout s
        = .next { s with link.receiver := .hunt, link.framingErrors := min 255 (s.link.framingErrors + 1) })
    ∧ (s.link.receiver = .assemble [] →
      exec (.rxByte b true) s
        = .next (if 120 < b.toNat then
            { s with link.receiver := .hunt, link.framingErrors := min 255 (s.link.framingErrors + 1) }
          else { s with link.receiver := .assemble [b] }))
    ∧ (∀ len got, s.link.receiver = .assemble (len :: got) → got.length + 1 < len.toNat + 3 →
      exec (.rxByte b true) s = .next { s with link.receiver := .assemble (len :: got ++ [b]) })

/-- R152 to R155, R159: the bytes of a frame with a right check, one after another into a receiver in HUNT, offer that frame
to the receive queue; with a wrong check they raise the CRC error count and do nothing else. Outside STANDBY an offered frame
joins the tail of a queue with a free place, and is dropped and counted at a full one. The bytes that leave TXD for a frame
are those that a receiver takes for it: start byte, length, kind, payload and check. -/
def Obligations.FrameIsReceivedWhole : Prop :=
  (∀ (s : State) (kind : Byte) (payload : List Byte) (check : Half),
    s.link.resetWait = false → s.link.receiver = .hunt → payload.length ≤ 120 →
    s.feed (frameBytes kind payload check) = .next
      (if check = crc16 (byteOf payload.length :: kind :: payload) then s.offer ⟨kind, payload⟩
        else { s with link.crcErrors := min 255 (s.link.crcErrors + 1) }))
  ∧ (∀ (s : State) (f : Frame), s.part.mode.mode ≠ .standby →
    (s.link.queue.length < 4 → s.offer f = { s with link.queue := s.link.queue ++ [f] })
    ∧ (4 ≤ s.link.queue.length → s.offer f = { s with link.overruns := min 255 (s.link.overruns + 1) }))
  ∧ (∀ (l : Link) (f : Frame), l.sending = .reply f ∨ l.sending = .report f →
    l.txd = 0xA5 :: byteOf f.payload.length :: f.kind
      :: (f.payload ++ halfBytes (crc16 (byteOf f.payload.length :: f.kind :: f.payload))))
  ∧ ∀ (s : State) (l : Link) (f : Frame), s.link.resetWait = false → s.link.receiver = .hunt → f.payload.length ≤ 120 →
    l.sending = .reply f ∨ l.sending = .report f → s.feed l.txd = .next (s.offer f)

/-- R22, R60, R139, R142, R143, R155, R160, R174: entry to STANDBY from a pending standby whose three conditions hold, the
standby drain of a READY boiler, what a wake from STANDBY does and that it does nothing in another mode, and what wakes the
part: an intact frame that finds a place in the receive queue, a frame taken from the queue, and a door-open change at a scan
completion. That a frame taken in STANDBY wakes the part before it is judged is log entry 46; that STANDBY is entered during mains loss too, where R142 says that the
pending standby waits, is log entry 54. -/
def Obligations.WakeFromStandby : Prop :=
  (∀ p : Part,
    (p.mode.mode ≠ .standby → p.wake = p)
    ∧ (p.mode.mode = .standby → p.wake.mode.mode = .active ∧ p.wake.mode.wakeWindow = true
      ∧ p.wake.ring.imageValid = false ∧ p.wake.ring.startAtOnce = true ∧ p.wake.ring.image = p.ring.image
      ∧ p.wake.ring.nodes = p.ring.nodes
      ∧ p.wake.report.timer = (if p.store.num 19 = 0 then .stopped else .running (p.store.num 19))
      ∧ p.wake.mode.faults = p.mode.faults ∧ p.wake.notice = p.notice ∧ p.wake.capture = p.capture
      ∧ p.wake.climate.state = .off ∧ p.wake.climate.stallCount = p.climate.stallCount
      ∧ p.wake.climate.tachLatch = p.climate.tachLatch ∧ p.wake.climate.overtemp = p.climate.overtemp
      ∧ p.wake.climate.tachCount = p.climate.tachCount ∧ p.wake.climate.windowFan = p.climate.windowFan
      ∧ p.wake.store = p.store ∧ p.wake.program = p.program ∧ p.wake.boiler = p.boiler)
    ∧ (p.mode.mode = .standby → ∀ d, p.scanMode d = if d = .opened then p.wake else p)
    ∧ (p.mode.mode = .standbyPending →
      let q := p.followStandby
      let hold := p.climate.state = .off ∧ p.boiler.state = .empty ∧ p.store.queue = []
      (hold → q.mode.mode = .standby ∧ q.power.withdrawn = true ∧ q.power.grants.watts = .all 0 ∧ q.power.relay = false
        ∧ (p.power.relay = true → q.power.grants.boiler = 0 ∧ q.power.onDwell = 0 ∧ q.power.offDwell = 0)
        ∧ q.climate.ventDrive = none ∧ q.climate.state = .off ∧ q.report.timer = .stopped ∧ q.report.pending = false
        ∧ q.mode.faults = p.mode.faults ∧ q.ring = p.ring ∧ q.boiler = p.boiler ∧ q.program = p.program
        ∧ q.notice = p.notice)
      ∧ (p.boiler.state = .ready → p.boiler.owner = .none → q = p.startDrain .normal .none)
      ∧ (¬hold → ¬(p.boiler.state = .ready ∧ p.boiler.owner = .none) → q = p)))
  ∧ ∀ s : State,
    let p := s.part
    (s.listening → s.noScanDue → p.mode.mode = .active → p.climate.state = .off → p.boiler.state = .empty →
      p.boiler.owner = .none → p.descale.phase = .idle → p.program.state ∉ [.running, .waiting, .paused, .boundaryWait] →
      p.store.queue = [] → p.store.served 16 = .descale p.descale.record →
      ∃ t, exec .standbyEnter s = .next t ∧ t.part.mode.mode = .standby ∧ t.part.report.timer = .stopped
        ∧ t.link = (s.replied .standbyEnter ⟨.ok, []⟩).link)
    ∧ (p.mode.mode = .standby →
      (s.link.queue.length < 4 → ∀ f, s.offer f = State.onBlocks { s with link.queue := s.link.queue ++ [f] } Part.wake)
      ∧ (4 ≤ s.link.queue.length → ∀ f, s.offer f = { s with link.overruns := min 255 (s.link.overruns + 1) })
      ∧ (s.link.resetWait = false → s.link.receiver = .hunt → s.link.queue.length < 4 →
        ∀ f : Frame, f.payload.length ≤ 120 →
          s.feed f.bytes = .next (State.onBlocks { s with link.queue := s.link.queue ++ [f] } Part.wake))
      ∧ (∀ f rest, s.link.queue = f :: rest → s.link.inHand = none → s.link.reply = none → s.link.resetWait = false →
        let awake := State.onBlocks { s with link.inHand := some f, link.queue := rest } Part.wake
        let r := awake.answer f
        exec .requestTake s = .next { r.1 with link := r.1.link.sendReply (replyFrame f.kind r.2) }))

/-- R155, R156, R159, R160, R162, R165: every step keeps the invariant of the link controller together with the rule that in
the reset wait the report timer is stopped and no report is pending. -/
def Obligations.EveryStepKeepsLinkInvariant : Prop :=
  ∀ s t : State, s.link.Inv → s.reportsQuiet → step s = .next t → t.link.Inv ∧ t.reportsQuiet

/-! ### Requests and replies -/

/-- R158, R182, R183: a request's frame has the payload length of its kind and spells that request; a frame that spells a
request is the frame of that request, and a frame spells one exactly when its kind is a request kind and its length that
kind's. -/
def Obligations.RequestRoundTrip : Prop :=
  (∀ q : Request, (requestPayload q).length = (requestKind q).length ∧ decodeRequest (encodeRequest q) = some q)
  ∧ (∀ f q, decodeRequest f = some q → encodeRequest q = f)
  ∧ ∀ f, (decodeRequest f).isSome ↔ ∃ k, ReqKind.ofCode f.kind = some k ∧ f.payload.length = k.length

/-- R138, R139, R156, R157, R158: REQUEST_TAKE with no request in hand and no reply waiting takes the head of the queue, in
STANDBY after a wake. An unknown kind, a wrong length and a kind that the mode does not admit are answered with their code and
change nothing; an admitted request goes to its owner. The reply is of the kind plus 0x80, with the result code first and the
reply fields only where the request was carried out; it begins at once where the transmitter is idle and waits otherwise. A
request taken from the queue does what its direct command does with nothing before it (log entry 7). That the command changes
nothing where none may be taken is the model's choice (log entry 8). -/
def Obligations.RequestTakeAnswersHead : Prop :=
  ∀ s : State,
    (∀ f rest, s.link.queue = f :: rest → s.link.inHand = none → s.link.reply = none → s.link.resetWait = false →
      let taken : State := { s with link.inHand := some f, link.queue := rest }
      let awake : State := if s.part.mode.mode = .standby then taken.onBlocks Part.wake else taken
      let r := awake.answer f
      let carriedOut := r.2.code = .ok ∨ r.2.code = .clamped
      let reply : Frame := ⟨f.kind + 0x80, resultByte r.2.code :: (if carriedOut then r.2.fields else [])⟩
      exec .requestTake s = .next (match s.link.sending with
        | .idle => { r.1 with link.sending := .reply reply }
        | _ => { r.1 with link.reply := some reply })
      ∧ r.1.link.inHand = some f ∧ r.1.link.queue = rest ∧ r.1.link.sending = s.link.sending
      ∧ (ReqKind.ofCode f.kind = none → r = (awake, ⟨.unknownKind, []⟩))
      ∧ ∀ k, ReqKind.ofCode f.kind = some k →
        (f.payload.length ≠ k.length → r = (awake, ⟨.badLength, []⟩))
        ∧ (f.payload.length = k.length →
          (∀ c, admission awake.part.mode k = some c → r = (awake, ⟨c, []⟩))
          ∧ (∀ q, decodeRequest f = some q → admission awake.part.mode k = none → r = awake.serve q)))
    ∧ (∀ (q : Request) (rest : List Frame), s.link.inHand = none → s.link.reply = none → s.link.resetWait = false →
      ∃ t, exec q.command { s with link.queue := [] } = .next t
        ∧ exec .requestTake { s with link.queue := encodeRequest q :: rest } = .next { t with link.queue := rest })
    ∧ ((s.link.queue = [] ∨ s.link.inHand ≠ none ∨ s.link.reply ≠ none ∨ s.link.resetWait = true) →
      exec .requestTake s = .next s)

/-- R158: the general checks come before admission and owner: an unknown kind is answered UNKNOWN_KIND and a wrong length
BAD_LENGTH, each with the result code alone, and nothing else changes. -/
def Obligations.GeneralChecksComeFirst : Prop :=
  ∀ (s : State) (f : Frame) (rest : List Frame), s.link.queue = f :: rest → s.link.inHand = none →
    s.link.reply = none → s.link.resetWait = false → s.link.sending = .idle → s.part.mode.mode ≠ .standby →
    (ReqKind.ofCode f.kind = none →
      exec .requestTake s = .next { s with
        link.queue := rest, link.inHand := some f, link.sending := .reply ⟨f.kind + 0x80, [0x10]⟩ })
    ∧ (∀ k, ReqKind.ofCode f.kind = some k → f.payload.length ≠ k.length →
      exec .requestTake s = .next { s with
        link.queue := rest, link.inHand := some f, link.sending := .reply ⟨f.kind + 0x80, [0x11]⟩ })

/-- R138, R139: the admission table: a request that the mode does not admit is answered with the mode's code alone, and
nothing changes but the link's own request and reply. -/
def Obligations.AdmissionTable : Prop :=
  ∀ (s : State) (q : Request), s.listening →
    let k := requestKind q
    let answered (c : ResultCode) : Prop := exec q.command s = .next (s.replied q ⟨c, []⟩)
    let always : List ReqKind := [.ping, .statusGet, .linkStats]
    let reads : List ReqKind := [.settingGet, .nodeGet, .counterGet, .faultGet, .captureGet]
    let cookingReads : List ReqKind := [.stageGet, .scaleGet, .descaleGet]
    let notices : List ReqKind := [.noticeGet, .noticeEnable]
    (s.part.mode.mode = .starting → k ∉ always → answered .notReady)
    ∧ (s.part.mode.mode = .active → s.part.mode.wakeWindow = true →
      k ∈ [.climateSet, .programStart, .holdEnter, .descaleStart] → answered .notReady)
    ∧ (s.part.mode.mode = .hold →
      k ∉ always ++ reads ++ notices ++ [.captureRelease, .stop, .reset, .holdExit] → answered .refusedMode)
    ∧ (s.part.mode.mode = .standbyPending → k = .standbyEnter → answered .ok)
    ∧ (s.part.mode.mode = .standbyPending →
      k ∉ always ++ reads ++ notices ++ [.captureRelease, .stop, .reset, .standbyEnter] → answered .refusedMode)
    ∧ (s.part.mode.mode = .safeStop →
      k ∉ always ++ reads ++ cookingReads ++ notices ++ [.stop, .reset, .faultClear, .settingPut] →
        answered .faultActive)

/-- R138, R139: the kinds that each mode admits. No request is judged in STANDBY, since its frame has woken the part; that
the arm for STANDBY answers as for ACTIVE is the model's choice (log entry 46). -/
def Obligations.AdmittedKinds : Prop :=
  ∀ (m : ModeControl) (k : ReqKind),
    (admission m k = none ↔ match m.mode with
      | .starting => k ∈ [.ping, .statusGet, .linkStats]
      | .hold => k ∈ [.ping, .statusGet, .linkStats, .settingGet, .nodeGet, .counterGet, .faultGet, .captureGet,
          .noticeGet, .noticeEnable, .captureRelease, .stop, .reset, .holdExit]
      | .standbyPending => k ∈ [.ping, .statusGet, .linkStats, .settingGet, .nodeGet, .counterGet, .faultGet,
          .captureGet, .noticeGet, .noticeEnable, .captureRelease, .stop, .reset]
      | .safeStop => k ∈ [.ping, .statusGet, .linkStats, .settingGet, .nodeGet, .counterGet, .faultGet, .captureGet,
          .stageGet, .scaleGet, .descaleGet, .noticeGet, .noticeEnable, .stop, .reset, .faultClear, .settingPut]
      | .active => m.wakeWindow = true → k ∉ [.climateSet, .programStart, .holdEnter, .descaleStart]
      | .standby => m.wakeWindow = true → k ∉ [.climateSet, .programStart, .holdEnter, .descaleStart])

/-- R157: a request whose reply is neither OK nor CLAMPED changes nothing in any block. -/
def Obligations.RefusedRequestChangesNothing : Prop :=
  ∀ (s t : State) (q : Request) (k code : Byte), s.listening → exec q.command s = .next t →
    t.link.sending = .reply ⟨k, [code]⟩ → code ≠ 0x00 → code ≠ 0x01 →
    t = { s with link.inHand := some (encodeRequest q), link.sending := .reply ⟨k, [code]⟩ }

/-- R183: the reply of every request has its fixed length: that of its kind where it is carried out, else 1. -/
def Obligations.ReplyLengths : Prop :=
  ∀ (s t : State) (q : Request) (f : Frame), s.listening → s.part.ring.nodes.length = 12 →
    (∀ x, s.part.capture.snapshot = some x → x.entries.length = 12) →
    exec q.command s = .next t → t.link.sending = .reply f →
    f.kind = (requestKind q).code + 0x80
    ∧ f.payload.length =
      if f.payload.head? = some 0x00 ∨ f.payload.head? = some 0x01 then
        (match requestKind q with
          | .ping => 9 | .statusGet => 68 | .linkStats => 4 | .settingGet => 9 | .stageGet => 27 | .scaleGet => 16
          | .descaleGet => 12 | .faultGet => 8 | .nodeGet => 34 | .counterGet => 57 | .noticeGet => 5
          | .noticeEnable => 5 | .captureGet => 58 | _ => 1)
      else 1

/-! ### Requests that read -/

/-- R57, R97, R120, R148, R161, R173, R176, R182, R184, section 12.4 and section 12.6: an admitted request that reads answers
OK with its record, byte by byte as the layouts give it, or BAD_VALUE where its field names nothing, and changes nothing but
the link's own request and reply. The bytes of STATUS_GET are those of StatusReportLayout; a cause is present as
FaultsLatchAndClear says. That a damaged item outside the queue and the run shows the source STORED is log entry 56. -/
def Obligations.ReadingRequestsAnswer : Prop :=
  ∀ s : State, s.listening →
    let p := s.part
    let answered (q : Request) (r : Reply) : Prop := exec q.command s = .next (s.replied q r)
    let reading (m : Option Reading) : List Byte := match m with
      | some m => intBytes m.value ++ [m.status]
      | none => [0, 0, 0]
    answered .statusGet ⟨.ok, p.statusBytes p.report.number⟩
    ∧ (s.admits .scaleGet →
      let u := p.scale
      let due := p.store.num 13
      let threshold := min 65535 (due * 5 / 4)
      answered .scaleGet ⟨.ok, natBytes u.load ++ [byteOf u.remainder] ++ natBytes due ++ natBytes threshold
        ++ natBytes u.progress ++ natBytes (p.store.num 17)
        ++ [byteOf u.owed, byteOf u.credit,
          byteOf (u.dueArmed.toNat + 2 * (decide (due ≤ u.load)).toNat + 4 * (u.lock && decide (threshold ≤ u.load)).toNat
            + 8 * (u.lock && p.descale.record.rinseOwed).toNat + 16 * u.flush.toNat
            + 32 * (decide (u.lull = .reached)).toNat + 64 * u.suspended.toNat),
          byteOf (u.inHand.toNat + 2 * p.boiler.inFlight.toNat)]⟩)
    ∧ (s.admits .faultGet → ∃ causes : Half,
      (∀ n, causes.getLsbD n = true
        ↔ ∃ k, faultCode k = n ∧ hasFault p.mode.faults k = true ∧ p.causePresent k = true)
      ∧ answered .faultGet ⟨.ok, halfBytes p.mode.faults ++ halfBytes causes
        ++ [match p.mode.first with
            | some k => byteOf (faultCode k)
            | none => 0xFF,
          byteOf (p.mode.mainsLoss.toNat + 2 * p.safetyOut.toNat), byteOf (opModeCode p.mode.mode)]⟩)
    ∧ (s.admits .captureGet →
      let c := p.capture
      answered .captureGet ⟨.ok, [byteOf (c.armed.toNat + 2 * c.snapshot.isSome.toNat),
          if c.style = .oneShot then 0 else 1] ++ halfBytes c.trigger ++ [byteOf c.missed]
        ++ (match c.snapshot with
          | some x => natBytes x.scan ++ halfBytes x.changedSet ++ x.entries.flatMap (fun e =>
              byteOf (linkStateCode e.link + 4 * e.main.isSome.toNat + 8 * (e.main.any Reading.valid).toNat)
                :: reading e.main)
          | none => List.replicate 52 0)⟩)
    ∧ (∀ i, s.admits (.settingGet i) →
      let n := i.toNat
      let source : Byte := if ∃ e ∈ p.store.queue, e.item = n then 1 else if n ∈ p.store.run then 2 else 0
      answered (.settingGet i)
        (if 34 ≤ n then ⟨.badValue, []⟩ else ⟨.ok, [i, source, byteOf (getAt false p.store.defaulted n).toNat]
          ++ (match p.store.served n with
            | .number v => natBytes v ++ [0, 0, 0]
            | .scale load remainder => natBytes load ++ [byteOf remainder, 0, 0]
            | .blowdown progress owed credit flush =>
              natBytes progress ++ [byteOf owed, byteOf credit, byteOf flush.toNat]
            | .descale r => [byteOf (descalePhaseCode r.phase), byteOf r.rinses, byteOf r.rinseOwed.toNat, 0, 0]
            | .kind k => [byteOf (nodeKindCode k), 0, 0, 0, 0])⟩))
    ∧ (∀ a, s.admits (.nodeGet a) →
      let n := p.ring.entry a.toNat
      answered (.nodeGet a) (if 1 ≤ a.toNat ∧ a.toNat ≤ 12 then ⟨.ok,
        [a, byteOf (nodeKindCode n.kind),
          byteOf (n.masked.toNat + 2 * n.changed.toNat + 4 * n.requestSeen.toNat + 8 * n.mismatch.toNat
            + 16 * n.main.isSome.toNat + 32 * (n.main.any Reading.valid).toNat + 64 * n.alt.isSome.toNat
            + 128 * n.reference.isSome.toNat),
          byteOf (n.identity.isSome.toNat + 2 * n.identScan.isSome.toNat),
          byteOf (selectorCode n.selector), byteOf (linkStateCode n.link), byteOf n.misses]
        ++ natBytes n.totalMisses ++ natBytes n.crcErrors ++ reading n.main
        ++ (match n.alt with
          | some m => intBytes m.value ++ [m.status, byteOf (selectorCode m.fetch)]
          | none => [0, 0, 0, 0])
        ++ (match n.reference with
          | some v => intBytes v
          | none => [0, 0])
        ++ [n.watch] ++ natBytes n.threshold
        ++ (match n.identity with
          | some x => [byteOf (nodeKindCode x.kind), byteOf (variantCode x.variant)] ++ quadBytes x.serial
          | none => [0, 0, 0, 0, 0, 0])
        ++ (match n.identScan with
          | some v => natBytes v
          | none => [0, 0])
        ++ natBytes p.ring.image.scan⟩ else ⟨.badValue, []⟩))
    ∧ (∀ i, s.admits (.stageGet i) → answered (.stageGet i)
        (match p.program.stages[i.toNat]? with
          | some st => ⟨.ok, [i, byteOf p.program.stages.length]
            ++ [byteOf (heatModeCode st.params.mode)] ++ intBytes st.params.setpoint ++ [byteOf st.params.fan]
            ++ (match st.params.humidity with
              | some h => [1, BitVec.ofInt 8 h]
              | none => [0, 0])
            ++ (match st.params.pulse with
              | some u => [1] ++ natBytes u.period ++ natBytes u.onTime
              | none => [0, 0, 0, 0, 0])
            ++ (match st.params.delta with
              | some d => [1] ++ intBytes d
              | none => [0, 0, 0])
            ++ [byteOf (endConditionCode st.endCondition)] ++ quadBytes (BitVec.ofNat 32 st.duration)
            ++ intBytes st.coreTarget
            ++ [byteOf (promptPointCode st.promptPoint), st.promptCode,
              byteOf (st.preheat.toNat + 2 * st.noInterrupt.toNat + 4 * st.steamPriority.toNat
                + 8 * st.doorContinue.toNat)]⟩
          | none => ⟨.badValue, []⟩))
    ∧ (∀ i, s.admits (.stageGet i) → p.program.stages = [] → answered (.stageGet i) ⟨.badValue, []⟩)

/-- R162, R163: PING answers the part code, the revision, and the serial of the identity record of the node at the lowest
address that the map gives CAVITY_TEMP, with its flag, which is clear where the map names no such node and where that node has
no identity record; it changes nothing. That PING takes the lowest address, which R41 gives for the sensor image, is log
entry 63. LINK_STATS copies the three counters into the reply and sets them to 0. -/
def Obligations.PingAndLinkStats : Prop :=
  ∀ s : State, s.listening →
    let cavity := s.part.ring.nodes.find? (fun e => e.kind = .cavityTemp)
    (∀ n i, cavity = some n → n.identity = some i →
      exec .ping s = .next (s.replied .ping ⟨.ok, [0x04, 0x20, 0x03, 0x01] ++ quadBytes i.serial⟩))
    ∧ (cavity = none ∨ (∃ n, cavity = some n ∧ n.identity = none) →
      exec .ping s = .next (s.replied .ping ⟨.ok, [0x04, 0x20, 0x03, 0, 0, 0, 0, 0]⟩))
    ∧ exec .linkStats s = .next { s.replied .linkStats
          ⟨.ok, [byteOf s.link.crcErrors, byteOf s.link.framingErrors, byteOf s.link.overruns]⟩ with
        link := { (s.replied .linkStats
            ⟨.ok, [byteOf s.link.crcErrors, byteOf s.link.framingErrors, byteOf s.link.overruns]⟩).link with
          crcErrors := 0, framingErrors := 0, overruns := 0 } }

/-- R62, R161, R182, section 12.5: where the whole content of a status report stands in its 67 bytes. A reading or a setpoint
that has no value is −32768, a state or a fault kind that is absent 0xFF. Steam is delivered in STEAMING with a boiler grant,
which is 0 or the whole rating in force. -/
def Obligations.StatusReportLayout : Prop :=
  ∀ (p : Part) (n : Nat),
    let b := p.statusBytes n
    let word (offset : Nat) : List Byte := (b.drop offset).take 2
    let i := p.ring.image
    let g := p.program
    b.length = 67
    ∧ b[0]? = some (byteOf n) ∧ b[1]? = some (byteOf (opModeCode p.mode.mode))
    ∧ b[2]? = some (match p.mode.first with
      | some k => byteOf (faultCode k)
      | none => 0xFF)
    ∧ b[3]? = some (byteOf (p.mode.mainsLoss.toNat + 2 * p.safetyOut.toNat))
    ∧ b[4]? = some (byteOf (climateStateCode p.climate.state))
    ∧ b[5]? = some (match p.climate.returnTo with
      | some st => byteOf (climateStateCode st)
      | none => 0xFF)
    ∧ word 6 = intBytes (p.climate.ts.getD (-32768)) ∧ word 8 = intBytes p.climate.demand
    ∧ b[10]? = some (if p.climate.ventTarget = .closed then 1 else 0)
    ∧ b[11]? = some (byteOf (freqClassCode p.power.freq))
    ∧ word 12 = natBytes p.power.budget ∧ word 14 = natBytes p.power.aux ∧ word 16 = natBytes p.power.available
    ∧ word 18 = natBytes p.power.grants.watts.top ∧ word 20 = natBytes p.power.grants.watts.bottom
    ∧ word 22 = natBytes p.power.grants.watts.ring ∧ word 24 = natBytes p.power.grants.watts.grill
    ∧ word 26 = natBytes p.power.grants.boiler
    ∧ b[28]? = some (byteOf (p.power.grants.curtailed.top.toNat + 2 * p.power.grants.curtailed.bottom.toNat
        + 4 * p.power.grants.curtailed.ring.toNat + 8 * p.power.grants.curtailed.grill.toNat
        + 16 * p.power.relay.toNat))
    ∧ b[29]? = some (byteOf p.power.grants.onCycles.top) ∧ b[30]? = some (byteOf p.power.grants.onCycles.bottom)
    ∧ b[31]? = some (byteOf p.power.grants.onCycles.ring) ∧ b[32]? = some (byteOf p.power.grants.onCycles.grill)
    ∧ b[33]? = some (byteOf p.power.deferral)
    ∧ word 34 = intBytes (i.tc.getD (-32768)) ∧ word 36 = intBytes (i.tcore.getD (-32768))
    ∧ word 38 = intBytes (i.humidity.getD (-32768)) ∧ word 40 = intBytes (i.boilerTemp.getD (-32768))
    ∧ b[42]? = some (byteOf (i.tc.isSome.toNat + 2 * i.tcore.isSome.toNat + 4 * i.humidity.isSome.toNat
        + 8 * i.boilerTemp.isSome.toNat + 16 * p.ring.found.toNat + 32 * p.ring.imageValid.toNat))
    ∧ b[43]? = some (byteOf (i.lowWet.toNat + 2 * i.highWet.toNat + 4 * i.tankPresent.toNat + 8 * i.tankLow.toNat
        + 16 * i.doorClosed.toNat + 32 * i.doorLocked.toNat + 64 * i.ventOpenEnd.toNat + 128 * i.ventClosedEnd.toNat))
    ∧ word 44 = natBytes i.scan
    ∧ b[46]? = some (byteOf (boilerStateCode p.boiler.state)) ∧ b[47]? = some (byteOf (purposeCode p.boiler.purpose))
    ∧ b[48]? = some (byteOf (ownerCode p.boiler.owner))
    ∧ b[49]? = some (byteOf (pauseReasonCode p.boiler.pauseReason)) ∧ word 50 = natBytes p.boiler.lastFill
    ∧ b[52]? = some (byteOf (p.boiler.inFlight.toNat + 2 * (decide (p.boiler.state = .steaming) && decide (0 < p.power.grants.boiler)).toNat
        + 4 * (p.scale.lock && p.lockByLoad).toNat + 8 * (p.scale.lock && p.descale.record.rinseOwed).toNat
        + 16 * p.scale.suspended.toNat))
    ∧ b[53]? = some (byteOf p.scale.owed) ∧ b[54]? = some (byteOf (descalePhaseCode p.descale.phase))
    ∧ b[55]? = some (byteOf (promptReasonCode p.descale.prompt)) ∧ b[56]? = some (byteOf p.descale.record.rinses)
    ∧ b[57]? = some (byteOf (heldCode p.descale.held))
    ∧ b[58]? = some (byteOf (programStateCode g.state)) ∧ b[59]? = some (byteOf (waitReasonCode g.reason))
    ∧ b[60]? = some (byteOf g.index) ∧ b[61]? = some (byteOf (stageStepCode g.step))
    ∧ (b.drop 62).take 4 = quadBytes (BitVec.ofNat 32 g.elapsed)
    ∧ (g.reason ≠ some .prompt → b[66]? = some 0)
    ∧ (g.state = .waiting → g.reason = some .prompt → ∀ st, g.stages[g.index]? = some st → b[66]? = some st.promptCode)

/-- R59, R164: COUNTER_GET answers one copy of the counts; the zeroing option then zeroes the ring counters and nothing
else, and a value that is neither set nor clear is refused. -/
def Obligations.CounterGetCopiesThenZeroes : Prop :=
  ∀ (s : State) (zero : Byte), s.listening → s.admits (.counterGet zero) →
    let t := s.replied (.counterGet zero) ⟨.ok, natBytes s.part.boiler.flow ++ natBytes s.part.climate.tachLatch
      ++ (s.part.ring.nodes.flatMap (fun n => natBytes n.totalMisses ++ natBytes n.crcErrors))
      ++ natBytes s.part.ring.overruns ++ natBytes s.part.ring.image.scan⟩
    (zero = 0 → exec (.counterGet zero) s = .next t)
    ∧ (zero = 1 → exec (.counterGet zero) s = .next { t with
        part.ring.overruns := 0
        part.ring.nodes := s.part.ring.nodes.map (fun n => { n with totalMisses := 0, crcErrors := 0 }) })
    ∧ (zero ≠ 0 → zero ≠ 1 →
      exec (.counterGet zero) s = .next (s.replied (.counterGet zero) ⟨.badValue, []⟩))

/-- R115: DESCALE_GET answers the procedure's values. The soak time remaining is 0 outside SOAK; in SOAK it is the soak
time less a part already soaked, which is a free value (log entry 5): some number of seconds, not above the whole. -/
def Obligations.DescaleGetAnswers : Prop :=
  ∀ s : State, s.listening → s.admits .descaleGet →
    let d := s.part.descale
    ∃ remaining, remaining ≤ d.soakMinutes * 60 ∧ (d.phase ≠ .soak → remaining = 0)
      ∧ exec .descaleGet s = .next { s.replied .descaleGet ⟨.ok,
          [byteOf (descalePhaseCode d.phase), byteOf (descalePhaseCode d.record.phase),
            byteOf (promptReasonCode d.prompt), byteOf d.record.rinses, byteOf (rinseStepCode d.rinseStep),
            byteOf (d.record.rinseOwed.toNat + 2 * d.recovered.toNat), byteOf d.soakMinutes]
          ++ natBytes remaining ++ [byteOf (heldCode d.held), byteOf (outcomeCode d.outcome)]⟩ with
        free := if d.phase = .soak then s.free + 1 else s.free }

/-- R118 to R120: a stage record that STAGE_APPEND has accepted is returned by STAGE_GET as a record that passes the same
checks with nothing to clamp, and reads as the same stage. -/
def Obligations.HeldStageReadsBack : Prop :=
  ∀ (b : StageBlock) (st : Stage) (clamped : Bool), checkStage b = some (st, clamped) →
    checkStage st.block = some (st, false) ∧ stageBlockOf (stageBytes st.block) = some st.block
      ∧ (stageBytes st.block).length = 24

/-! ### The transmitter, reports and the reset wait -/

/-- R156, R159, R160: TRANSMIT_END: a waiting reply goes before a pending report; at the end of a reply the request in
hand is finished and a pending report begins at once, with the next number; with nothing waiting the transmitter is
idle. The end of a NOTICE_GET's reply, which does the same and more, stands in AttnAndReassertion, that of RESET's in
ResetWait. That an idle transmitter's end changes nothing is the model's choice (log entry 4). -/
def Obligations.TransmitterOrder : Prop :=
  ∀ s : State,
    let n := (s.part.report.number + 1) % 256
    (s.link.sending = .idle → exec .transmitEnd s = .next s)
    ∧ (∀ f g, s.link.sending = .report f → s.link.reply = some g →
      exec .transmitEnd s = .next { s with link.reply := none, link.sending := .reply g })
    ∧ (∀ f, s.link.sending = .report f → s.link.reply = none →
      exec .transmitEnd s = .next (if s.part.report.pending then
          { s with
            part.report.pending := false, part.report.number := n
            link.sending := .report ⟨0x60, s.part.statusBytes n⟩ }
        else { s with link.sending := .idle }))
    ∧ (∀ f, s.link.sending = .reply f → s.part.notice.inHand = false → s.link.resetAnswered = false →
      exec .transmitEnd s = .next (if s.part.report.pending then
          { s with
            link.inHand := none, part.report.pending := false, part.report.number := n
            link.sending := .report ⟨0x60, s.part.statusBytes n⟩ }
        else { s with link.inHand := none, link.sending := .idle }))

/-- R160, R161: REPORT_TIMER_EXPIRY while reports are allowed and the interval is not 0: the report is pending, and the
timer restarts; with the transmitter idle the report begins at once. Otherwise nothing changes. -/
def Obligations.ReportTimerExpires : Prop :=
  ∀ (s : State) (n : Nat), s.part.report.timer = .running n →
    let interval := s.part.store.num 19
    let number := (s.part.report.number + 1) % 256
    let allowed := s.part.mode.mode ∈ [.starting, .active, .standbyPending, .safeStop]
    (allowed → interval ≠ 0 → s.link.sending = .idle →
      exec .reportTimerExpiry s = .next { s with
        part.report := ⟨.running interval, false, number⟩
        link.sending := .report ⟨0x60, s.part.statusBytes number⟩ })
    ∧ (allowed → interval ≠ 0 → s.link.sending ≠ .idle →
      exec .reportTimerExpiry s = .next { s with
        part.report := ⟨.running interval, true, s.part.report.number⟩ })
    ∧ (¬allowed ∨ interval = 0 → exec .reportTimerExpiry s = .next s)

/-- R165: RESET is answered OK; at the end of its reply the reset wait begins; in it requests, bytes and REQUEST_TAKE do
nothing; RESET_WAIT_END waits for an empty write queue, and then every block has its values after reset, the load step
made (log entry 1), and every stored item is kept. The wait's own command is the model's choice (log entry 12). -/
def Obligations.ResetWait : Prop :=
  ∀ s : State,
    (s.listening → s.admits .reset →
      exec .reset s = .next (let t := s.replied .reset ⟨.ok, []⟩; { t with link.resetAnswered := true }))
    ∧ (∀ f, s.link.sending = .reply f → s.link.resetAnswered = true → s.part.notice.inHand = false →
      exec .transmitEnd s = .next { s with
        link.inHand := none, link.queue := [], link.receiver := .hunt, link.sending := .idle
        link.resetAnswered := false, link.resetWait := true
        part.report := ⟨.stopped, false, s.part.report.number⟩ })
    ∧ (s.link.resetWait = true →
      (∀ q : Request, exec q.command s = .next s) ∧ (∀ b stop, exec (.rxByte b stop) s = .next s)
      ∧ exec .requestTake s = .next s ∧ (s.part.store.queue ≠ [] → exec .resetWaitEnd s = .next s)
      ∧ (s.part.store.queue = [] → exec .resetWaitEnd s = .next { s with
          link := .reset, part := Part.reset.loadStep s.flash }))

/-! ### Notices and change capture -/

/-- R169, R170: NOTICE_GET answers both sets as they stand and clears the kinds it names and no other; a re-assertion is
owed where a kind is still both pending and enabled. NOTICE_ENABLE replaces the enable set whole and changes no pending
flag. -/
def Obligations.NoticeRequests : Prop :=
  ∀ (s : State) (flags : Half), s.listening →
    let u := s.part.notice
    (s.admits (.noticeGet flags) →
      exec (.noticeGet flags) s = .next { s.replied (.noticeGet flags)
          ⟨.ok, halfBytes u.pending ++ halfBytes u.enable⟩ with
        part.notice := { u with
          pending := u.pending &&& ~~~flags
          owed := ((u.pending &&& ~~~flags) &&& u.enable) != 0
          inHand := true } })
    ∧ (s.admits (.noticeEnable flags) →
      exec (.noticeEnable flags) s = .next { s.replied (.noticeEnable flags)
          ⟨.ok, halfBytes flags ++ halfBytes u.pending⟩ with
        part.notice := { u with enable := flags } })

/-- R156, R160, R167 to R169: a raise sets the kind's flag alone, and makes a re-assertion owed where it sets an enabled flag while a
NOTICE_GET is in hand; ATTN is active exactly while a kind is both pending and enabled, the release pulse apart; the pulse
begins at the end of the reply where a re-assertion is owed, a status report that is pending then begins, and
ATTN_REASSERT_END ends the pulse. That a re-assertion owed while a pulse runs makes one pulse with it is log entry 55. -/
def Obligations.AttnAndReassertion : Prop :=
  (∀ (u : NoticeUnit) (n : Notice),
    (u.pending.getLsbD (noticePosition n) = true → u.raise n = u)
    ∧ (u.pending.getLsbD (noticePosition n) = false →
      (u.raise n).pending.getLsbD (noticePosition n) = true
      ∧ (∀ i, i ≠ noticePosition n → (u.raise n).pending.getLsbD i = u.pending.getLsbD i)
      ∧ (u.raise n).enable = u.enable ∧ (u.raise n).inHand = u.inHand ∧ (u.raise n).pulse = u.pulse
      ∧ (u.raise n).owed = (u.owed || (u.inHand && u.enable.getLsbD (noticePosition n)))))
  ∧ (∀ u : NoticeUnit, u.attn = true ↔ u.pulse = false
      ∧ ∃ n : Notice, u.pending.getLsbD (noticePosition n) = true ∧ u.enable.getLsbD (noticePosition n) = true)
  ∧ (∀ (s : State) (f : Frame), s.link.sending = .reply f → s.part.notice.inHand = true →
      s.link.resetAnswered = false →
      let told : NoticeUnit := { s.part.notice with
        inHand := false, owed := false, pulse := s.part.notice.pulse || s.part.notice.owed }
      let n := (s.part.report.number + 1) % 256
      exec .transmitEnd s = .next (if s.part.report.pending then
          { s with
            link.inHand := none, link.sending := .report ⟨0x60, s.part.statusBytes n⟩
            part.notice := told, part.report.pending := false, part.report.number := n }
        else { s with link.inHand := none, link.sending := .idle, part.notice := told }))
  ∧ ∀ s : State, exec .attnReassertEnd s = .next { s with part.notice.pulse := false }

/-- R167 to R170: a pending flag is cleared only by a NOTICE_GET that names its kind, and the enable set is changed only
by NOTICE_ENABLE, each given directly or taken from the receive queue; the two resets apart, no other command does
either. -/
def Obligations.OnlyNoticeRequestsChangeTheSets : Prop :=
  ∀ (c : Instr) (s t : State), exec c s = .next t →
    let given (q : Request) : Prop :=
      c = q.command ∨ (c = .requestTake ∧ ∃ rest, s.link.queue = encodeRequest q :: rest)
    (∀ i, s.part.notice.pending.getLsbD i = true → t.part.notice.pending.getLsbD i = false →
      c = .powerOnReset ∨ c = .resetWaitEnd ∨ ∃ clear, given (.noticeGet clear) ∧ clear.getLsbD i = true)
    ∧ (t.part.notice.enable ≠ s.part.notice.enable →
      c = .powerOnReset ∨ c = .resetWaitEnd ∨ given (.noticeEnable t.part.notice.enable))

/-- R52, R171, R172, R173: CAPTURE_ARM and CAPTURE_RELEASE write what they name; an offered scan whose changed nodes meet the
trigger set is kept by an armed capture that holds none, with CAPTURE_TAKEN raised and a one-shot capture disarmed, and
counted against a snapshot held; every other scan changes nothing. The last step of every scan completion offers the scan, and
the capture is then as the offer of that scan has left it. -/
def Obligations.CaptureKeepsFirstTrigger : Prop :=
  (∀ (s : State) (trigger : Half) (style : Byte), s.listening → s.admits (.captureArm trigger style) →
    exec (.captureArm trigger style) s = .next
      (if style.toNat ≤ 1 ∧ trigger ≠ 0 ∧ trigger &&& 0xF000 = 0 then
        { s.replied (.captureArm trigger style) ⟨.ok, []⟩ with
          part.capture := { s.part.capture with
            trigger := trigger, armed := true
            style := if style = 0 then .oneShot else .continuous } }
      else s.replied (.captureArm trigger style) ⟨.badValue, []⟩))
  ∧ (∀ (s : State) (disarm : Byte), s.listening → s.admits (.captureRelease disarm) →
    exec (.captureRelease disarm) s = .next
      (if disarm = 0 ∨ disarm = 1 then
        { s.replied (.captureRelease disarm) ⟨.ok, []⟩ with
          part.capture := { s.part.capture with
            snapshot := none, missed := 0
            armed := if disarm = 1 then false else s.part.capture.armed } }
      else s.replied (.captureRelease disarm) ⟨.badValue, []⟩))
  ∧ (∀ p : Part,
    let hit := p.ring.changedSet &&& p.capture.trigger ≠ 0
    (¬hit → p.offerCapture = p)
    ∧ (hit → p.capture.snapshot.isSome →
      p.offerCapture = { p with capture.missed := min 255 (p.capture.missed + 1) })
    ∧ (hit → p.capture.snapshot = none → p.capture.armed = false → p.offerCapture = p)
    ∧ (hit → p.capture.snapshot = none → p.capture.armed = true →
      p.offerCapture = Part.raiseNotice { p with capture := { p.capture with
        snapshot := some ⟨p.ring.scan, p.ring.changedSet, p.ring.nodes.map (fun n => ⟨n.link, n.main⟩)⟩
        missed := 0, armed := decide (p.capture.style = .continuous) } } .captureTaken)
    ∧ p.completeScan.capture
      = (Part.offerCapture { p with ring := { p.ring with changedSet := p.ring.changedNodes } }).capture)
  ∧ ∀ (s : State) (poll : Poll), s.part.ring.phase = .scanning → s.part.ring.poll = some poll → poll.discard = true →
    s.part.ring.nextAddress 12 (poll.address + 1) = none → s.part.ring.startAtOnce = false →
    s.part.mode.mode ≠ .standby →
    ∀ c, c = .replyWindowExpiry ∨ (∃ r, c = .nodeReply r) → ∃ t, exec c s = .next t
      ∧ t.part.capture = (Part.offerCapture { s.part with ring := { s.part.ring with
          changedSet := s.part.ring.changedNodes } }).capture

/-! ### The sensor ring -/

/-- R44, R45, R46: in a scan, at a poll that is not its last, REPLY_WINDOW_EXPIRY and a NODE_REPLY that is broken or answers
another poll are misses of the polled entry: consecutive and total misses rise, a bad check is counted as well, a LINKED entry
at its third miss becomes LOST with NODE_CHANGE raised, and the next address is polled; nothing else in the entry changes. A
reply to a poll whose entry has been masked meanwhile counts nothing. -/
def Obligations.MissIsJudged : Prop :=
  ∀ (s : State) (poll : Poll) (next : Nat), s.part.ring.phase = .scanning → s.part.ring.poll = some poll →
    s.part.ring.nodes.length = 12 → 1 ≤ poll.address → poll.address ≤ 12 →
    s.part.ring.nextAddress 12 (poll.address + 1) = some next →
    let n := s.part.ring.entry poll.address
    let lost := n.link = .linked ∧ 2 ≤ n.misses
    let judged (c : Instr) (badCheck : Nat) : Prop := ∃ t, exec c s = .next t
      ∧ t.part.ring.entry poll.address = { n with
          misses := min 3 (n.misses + 1), totalMisses := min 65535 (n.totalMisses + 1)
          crcErrors := if badCheck = 0 then n.crcErrors else min 65535 (n.crcErrors + badCheck)
          link := if lost then .lost else n.link }
      ∧ (lost → t.part.notice.pending.getLsbD (noticePosition .nodeChange) = true)
      ∧ t.part.ring.poll.map Poll.address = some next ∧ t.part.ring.phase = .scanning
    (poll.discard = false → judged .replyWindowExpiry 0
      ∧ (∀ r, crc8 r.body ≠ r.crc → judged (.nodeReply r) 1)
      ∧ (∀ r, crc8 r.body = r.crc → (r.address ≠ poll.address ∨ r.fetch ≠ poll.fetch) → judged (.nodeReply r) 0))
    ∧ (poll.discard = true → ∀ c, c = .replyWindowExpiry ∨ (∃ r, c = .nodeReply r) →
      ∃ t, exec c s = .next t ∧ t.part.ring.entry poll.address = n
        ∧ t.part.ring.poll.map Poll.address = some next)

/-- R45, R46, R49, R50, R51: a good reply in a scan makes the entry LINKED with no consecutive misses and stores what its
fetch brings; a MAIN reply is compared with the reading it replaces, and a change moves the reference. That a SERVICE flag in
an IDENT reply sets the request-seen flag after the reply has cleared it is log entry 24. -/
def Obligations.GoodReplyIsStored : Prop :=
  ∀ (s : State) (poll : Poll) (next : Nat) (r : RingReply), s.part.ring.phase = .scanning →
    s.part.ring.poll = some poll → poll.discard = false → s.part.ring.nodes.length = 12 →
    1 ≤ poll.address → poll.address ≤ 12 → s.part.ring.nextAddress 12 (poll.address + 1) = some next →
    crc8 r.body = r.crc → r.address = poll.address → r.fetch = poll.fetch →
    let n := s.part.ring.entry poll.address
    let service := r.status.getLsbD 7
    ∃ t, exec (.nodeReply r) s = .next t ∧ t.part.ring.poll.map Poll.address = some next
      ∧ (let m := t.part.ring.entry poll.address
        m.link = .linked ∧ m.misses = 0 ∧ m.totalMisses = n.totalMisses ∧ m.crcErrors = n.crcErrors
        ∧ m.kind = n.kind ∧ m.masked = n.masked ∧ m.selector = n.selector ∧ m.watch = n.watch
        ∧ m.threshold = n.threshold ∧ m.identScan = n.identScan
        ∧ (n.link ≠ .linked → t.part.notice.pending.getLsbD (noticePosition .nodeChange) = true)
        ∧ (r.fetch = .main → m.main = some ⟨r.value.toInt, r.status, valueInRange n.kind r.value.toInt⟩
          ∧ m.alt = n.alt ∧ m.identity = n.identity ∧ m.mismatch = n.mismatch
          ∧ m.requestSeen = (n.requestSeen || service)
          ∧ (n.main = none ∨ n.freshReference = true → m.reference = some r.value.toInt ∧ m.changed = n.changed)
          ∧ (∀ old v, n.main = some old → n.freshReference = false → n.reference = some v →
            (m.changed = true ↔ (old.status ^^^ r.status) &&& n.watch ≠ 0
              ∨ (valueUsed n.kind = true ∧ 0 < n.threshold ∧ n.threshold ≤ (r.value.toInt - v).natAbs))
            ∧ m.reference = some (if m.changed then r.value.toInt else v)))
        ∧ (r.fetch = .alt → m.alt = some ⟨r.value.toInt, r.status, .alt⟩ ∧ m.main = n.main
          ∧ m.reference = n.reference ∧ m.identity = n.identity ∧ m.requestSeen = (n.requestSeen || service))
        ∧ (r.fetch = .stats → m.alt = some ⟨r.value.toInt, r.status, .stats⟩ ∧ m.main = n.main
          ∧ m.reference = n.reference ∧ m.identity = n.identity ∧ m.requestSeen = (n.requestSeen || service))
        ∧ (r.fetch = .ident → m.identity = some ⟨r.kind, r.variant, r.serial⟩ ∧ m.main = n.main ∧ m.alt = n.alt
          ∧ m.requestSeen = service ∧ (m.mismatch = true ↔ n.kind ≠ .none ∧ r.kind ≠ n.kind)
          ∧ t.part.notice.pending.getLsbD (noticePosition .nodeChange) = true
          ∧ (m.mismatch = true → hasFault t.part.mode.faults .nodeMap = true)))

/-- R43, R44, R56, R60: SCAN_TIMER_EXPIRY with no scan in progress starts one: the next number modulo 65536, the timer
afresh with the interval of the mode, the lowest polled address first. In a scan it counts an overrun, and the next scan
starts at the completion. In the discovery scan a miss is counted and the address tried again, three times at most, a good
IDENT reply is stored (log entry 24 for the request-seen flag, log entry 52 for a miss), and the next address follows; after
the twelfth the scan ends, NODE_MAP is raised where the map does not fit, and scan 1 is due at once. That a timer that does
not run expires without effect is log entry 4. -/
def Obligations.ScanTimerExpires : Prop :=
  (∀ (s : State) (n a : Nat), s.part.ring.timer = .running n →
    (s.part.ring.phase = .idle → s.part.ring.nextAddress 12 1 = some a →
      ∃ t, exec .scanTimerExpiry s = .next t
        ∧ t.part.ring.phase = .scanning ∧ t.part.ring.scan = (s.part.ring.scan + 1) % 65536
        ∧ t.part.ring.timer = .running (if t.part.mode.mode = .standby then 2000 else s.part.store.num 20)
        ∧ t.part.ring.poll.map Poll.address = some a ∧ t.part.ring.eligible = true
        ∧ t.part.ring.overruns = s.part.ring.overruns ∧ t.part.ring.image = s.part.ring.image)
    ∧ (s.part.ring.phase = .scanning →
      ∃ t, exec .scanTimerExpiry s = .next t ∧ t.part.ring = { s.part.ring with
        startAtOnce := true, timer := .stopped, overruns := min 65535 (s.part.ring.overruns + 1) }))
  ∧ (∀ s : State, (∀ n, s.part.ring.timer ≠ .running n) → exec .scanTimerExpiry s = .next (s.settled s.part))
  ∧ (∀ (s : State) (poll : Poll), s.part.ring.phase = .discovery → s.part.ring.poll = some poll →
    let p := s.part
    let a := poll.address
    let n := p.ring.entry a
    let answered (c : Instr) (m : NodeEntry) (retry : Bool) : Prop :=
      let r := p.ring.putEntry a m
      (retry = true → exec c s
        = .next (s.settled { p with ring := { r with poll := some ⟨a, .ident, poll.attempt + 1, false⟩ } }))
      ∧ (retry = false → a < 12 → exec c s
        = .next (s.settled { p with ring := { r with poll := some ⟨a + 1, .ident, 1, false⟩ } }))
      ∧ (retry = false → 12 ≤ a → exec c s = .next (s.settled (Part.endDiscovery { p with ring := r })))
    let missed (badCheck : Bool) : NodeEntry := { n with
      misses := min 3 (n.misses + 1), totalMisses := min 65535 (n.totalMisses + 1)
      crcErrors := if badCheck then min 65535 (n.crcErrors + 1) else n.crcErrors }
    answered .replyWindowExpiry (missed false) (decide (poll.attempt < 3))
    ∧ (∀ r, crc8 r.body ≠ r.crc → answered (.nodeReply r) (missed true) (decide (poll.attempt < 3)))
    ∧ (∀ r, crc8 r.body = r.crc → (r.address ≠ a ∨ r.fetch ≠ poll.fetch) →
      answered (.nodeReply r) (missed false) (decide (poll.attempt < 3)))
    ∧ (poll.fetch = .ident → ∀ r, crc8 r.body = r.crc → r.address = a → r.fetch = .ident →
      answered (.nodeReply r) { n with
        misses := 0, link := .linked, identity := some ⟨r.kind, r.variant, r.serial⟩, identScan := some 0
        requestSeen := r.status.getLsbD 7, mismatch := decide (n.kind ≠ .none ∧ r.kind ≠ n.kind) } false))
  ∧ ∀ p : Part,
    let q : Part := { p with
      ring := { p.ring with phase := .idle, poll := none, startAtOnce := true }, mode.startup := .water }
    let required : List NodeKind := [.cavityTemp, .boiler, .waterTank, .door]
    let misfit := (∃ k ∈ required, (p.ring.nodes.filter (fun n => n.kind = k)).length ≠ 1)
      ∨ (∃ n ∈ p.ring.nodes, n.kind ∈ required ∧ n.link = .absent) ∨ ∃ n ∈ p.ring.nodes, n.mismatch = true
    (misfit → p.endDiscovery = q.raiseFault .nodeMap) ∧ (¬misfit → p.endDiscovery = q)

/-- R36, R37, R44, R45, R46, R52, R54, R55: the last poll of a scan ends, and the scan completes. Its reply or miss is judged
first, unless the entry has been masked meanwhile. The image is derived and stamped with the scan's number, the validity
flag, the changed-node set and the found flag follow, and SCAN_DONE is raised, with WATCH_CHANGE where the found flag is set
and DOOR_CHANGE where the door differs from the image before. Every block then acts on the image, in the order of log entry
14: the power allocator withdraws the cavity grants at a door-open change and the boiler grant where the image is unsafe. A
scan that an overrun has made due starts at once. That the withdrawal keeps the on-cycle counts, which the status report
carries, is log entry 45; that the validity flag asks the lowest address of CAVITY_TEMP is log entry 62. -/
def Obligations.LastPollCompletesScan : Prop :=
  (∀ (s : State) (poll : Poll), s.part.ring.phase = .scanning → s.part.ring.poll = some poll →
    s.part.ring.nextAddress 12 (poll.address + 1) = none →
    s.part.ring.startAtOnce = false → s.part.mode.mode ≠ .standby →
    let n := s.part.ring.entry poll.address
    let missed : NodeEntry := { n with
      misses := min 3 (n.misses + 1), totalMisses := min 65535 (n.totalMisses + 1)
      link := if n.link = .linked ∧ 2 ≤ n.misses then .lost else n.link }
    let r := if poll.discard then s.part.ring else s.part.ring.putEntry poll.address missed
    let image := r.deriveImage
    ∃ t, exec .replyWindowExpiry s = .next t
      ∧ t.part.ring = { r with
          image := image
          imageValid := r.imageValid || (r.eligible && r.linked .cavityTemp)
          derived := true, changedSet := r.changedNodes, found := decide (r.changedNodes ≠ 0)
          phase := .idle, poll := none }
      ∧ image.scan = r.scan
      ∧ t.part.notice.pending.getLsbD (noticePosition .scanDone) = true
      ∧ (r.changedNodes ≠ 0 → t.part.notice.pending.getLsbD (noticePosition .watchChange) = true)
      ∧ (r.derived = true → r.image.doorClosed ≠ image.doorClosed →
        t.part.notice.pending.getLsbD (noticePosition .doorChange) = true))
  ∧ (∀ (s : State) (poll : Poll), s.part.ring.phase = .scanning → s.part.ring.poll = some poll →
    s.part.ring.nextAddress 12 (poll.address + 1) = none →
    let p := s.part
    let completed (c : Instr) (q : Part) : Prop :=
      exec c s = .next (s.settled (Part.completeScan { q with ring := { q.ring with poll := none } }))
    (poll.discard = true → completed .replyWindowExpiry p ∧ ∀ r, completed (.nodeReply r) p)
    ∧ (poll.discard = false → completed .replyWindowExpiry (p.judgeMiss poll.address false)
      ∧ (∀ r, crc8 r.body ≠ r.crc → completed (.nodeReply r) (p.judgeMiss poll.address true))
      ∧ (∀ r, crc8 r.body = r.crc → r.address ≠ poll.address ∨ r.fetch ≠ poll.fetch →
        completed (.nodeReply r) (p.judgeMiss poll.address false))
      ∧ (∀ r, crc8 r.body = r.crc → r.address = poll.address → r.fetch = poll.fetch →
        completed (.nodeReply r) (p.judgeGood poll.address r)))
    ∧ (p.ring.startAtOnce = true → ∀ a, p.ring.nextAddress 12 1 = some a → poll.discard = true →
      ∃ t, exec .replyWindowExpiry s = .next t ∧ t.part.ring.phase = .scanning
        ∧ t.part.ring.scan = (p.ring.scan + 1) % 65536 ∧ t.part.ring.poll.map Poll.address = some a
        ∧ t.part.ring.startAtOnce = false ∧ t.part.ring.image = p.ring.deriveImage))
  ∧ ∀ p : Part,
    let door : DoorChange := if p.ring.derived = false ∨ p.ring.image.doorClosed = p.ring.deriveImage.doorClosed then .none
      else if p.ring.deriveImage.doorClosed then .closed else .opened
    let q := p.scanEvent door
    p.completeScan = Part.settle (Part.waterStep (Part.scanMode (Part.descaleRewarm (Part.scanProgram (Part.scanBoiler
      ((q.scanClimate door).scanPower door)))) door))
    ∧ q.ring = p.ring.complete ∧ p.completeScan.ring.image = p.ring.deriveImage
    ∧ (∀ d,
      (d = .opened → p.ring.image.boilerUnsafe = false → p.scanPower d = p.withdrawCavity)
      ∧ (d ≠ .opened → p.ring.image.boilerUnsafe = false → p.scanPower d = p)
      ∧ (d ≠ .opened → p.ring.image.boilerUnsafe = true → p.scanPower d = p.withdrawBoiler)
      ∧ (d = .opened → p.ring.image.boilerUnsafe = true → p.scanPower d = p.withdrawCavity.withdrawBoiler))
    ∧ (p.ring.image.boilerUnsafe = true ↔ p.ring.image.lowWet = false ∨ p.ring.image.boilerTemp = none
      ∨ ∃ t, p.ring.image.boilerTemp = some t ∧ 1400 ≤ t)
    ∧ p.withdrawCavity = { p with power := { p.power with
        withdrawn := true, grants := { p.power.grants with watts := .all 0 } } }
    ∧ (p.power.relay = false → p.withdrawBoiler = p)
    ∧ (p.power.relay = true → p.withdrawBoiler = { p with power := { p.power with
        relay := false, onDwell := 0, offDwell := 0, grants := { p.power.grants with boiler := 0 } } })

/-- R53: at every scan completion each reading of the image comes from the lowest in-use address of its kind, and it is
valid only while that entry is LINKED, has a main reading and no identity mismatch; a value must also be within its kind's
range, and the core reading needs PLUGGED. A reading that is not valid, or whose kind the map names nowhere, takes its
not-valid state: the value invalid, the electrodes dry, the tank absent and low, the door open and unlocked, neither end
reached. The image marks which readings are valid, and the status report carries the values with their validity and the
level, tank, door and vent flags. -/
def Obligations.ImageTakesLowestUsableNode : Prop :=
  (∀ (r : Ring) (k : NodeKind),
    let i := r.deriveImage
    let invalid :=
      (k = .cavityTemp → i.tc = none) ∧ (k = .coreProbe → i.tcore = none) ∧ (k = .humidity → i.humidity = none)
      ∧ (k = .boiler → i.boilerTemp = none ∧ i.lowWet = false ∧ i.highWet = false ∧ i.levelValid = false)
      ∧ (k = .waterTank → i.tankPresent = false ∧ i.tankLow = true ∧ i.tankValid = false)
      ∧ (k = .door → i.doorClosed = false ∧ i.doorLocked = false ∧ i.doorValid = false)
      ∧ (k = .vent → i.ventOpenEnd = false ∧ i.ventClosedEnd = false ∧ i.ventValid = false)
    (r.nodes.find? (fun e => e.kind = k) = none → invalid)
    ∧ ∀ n, r.nodes.find? (fun e => e.kind = k) = some n →
      let usable := n.link = .linked ∧ n.mismatch = false
      (∀ m, usable → n.main = some m →
        (k = .cavityTemp → i.tc = if m.valid then some m.value else none)
        ∧ (k = .coreProbe → i.tcore = if m.valid ∧ m.status.getLsbD 0 then some m.value else none)
        ∧ (k = .humidity → i.humidity = if m.valid then some m.value else none)
        ∧ (k = .boiler → i.boilerTemp = (if m.valid then some m.value else none)
          ∧ i.lowWet = m.status.getLsbD 0 ∧ i.highWet = m.status.getLsbD 1 ∧ i.levelValid = true)
        ∧ (k = .waterTank → i.tankPresent = m.status.getLsbD 0 ∧ i.tankLow = m.status.getLsbD 1 ∧ i.tankValid = true)
        ∧ (k = .door → i.doorClosed = m.status.getLsbD 0 ∧ i.doorLocked = m.status.getLsbD 1 ∧ i.doorValid = true)
        ∧ (k = .vent → i.ventOpenEnd = m.status.getLsbD 0 ∧ i.ventClosedEnd = m.status.getLsbD 1 ∧ i.ventValid = true))
      ∧ (¬usable ∨ n.main = none → invalid))
  ∧ (∀ (n : NodeEntry) (r : RingReply) (m : Reading), r.fetch = .main → (n.good r).main = some m →
    m = ⟨r.value.toInt, r.status, valueInRange n.kind r.value.toInt⟩)
  ∧ (∀ p : Part, p.completeScan.ring.image = p.ring.deriveImage)
  ∧ ∀ (p : Part) (number : Nat),
    let i := p.ring.image
    let b := p.statusBytes number
    (b.drop 34).take 8 = intBytes (i.tc.getD (-32768)) ++ intBytes (i.tcore.getD (-32768))
      ++ intBytes (i.humidity.getD (-32768)) ++ intBytes (i.boilerTemp.getD (-32768))
    ∧ (∃ v, b[42]? = some v ∧ v.getLsbD 0 = i.tc.isSome ∧ v.getLsbD 1 = i.tcore.isSome
      ∧ v.getLsbD 2 = i.humidity.isSome ∧ v.getLsbD 3 = i.boilerTemp.isSome)
    ∧ ∃ v, b[43]? = some v ∧ v.getLsbD 0 = i.lowWet ∧ v.getLsbD 1 = i.highWet ∧ v.getLsbD 2 = i.tankPresent
      ∧ v.getLsbD 3 = i.tankLow ∧ v.getLsbD 4 = i.doorClosed ∧ v.getLsbD 5 = i.doorLocked
      ∧ v.getLsbD 6 = i.ventOpenEnd ∧ v.getLsbD 7 = i.ventClosedEnd

/-- R58: NODE_SET: a bad address, mask or selector is refused first, then an address mapped NONE and a mask on a required
kind; an accepted one writes the four fields, the threshold clamped to 1000. Masking an unmasked entry takes its link
state, its consecutive misses, its changed flag and its request-seen flag; every other entry is unchanged. -/
def Obligations.NodeSetWritesEntry : Prop :=
  ∀ (s : State) (address masked selector watch : Byte) (threshold : Half),
    let q : Request := .nodeSet address masked selector watch threshold
    let n := s.part.ring.entry address.toNat
    let formed := 1 ≤ address.toNat ∧ address.toNat ≤ 12 ∧ masked.toNat ≤ 1 ∧ selector.toNat ≤ 2
    let required := n.kind ∈ [.cavityTemp, .boiler, .waterTank, .door]
    s.listening → s.admits q →
    (¬formed → exec q.command s = .next (s.replied q ⟨.badValue, []⟩))
    ∧ (formed → n.kind = .none ∨ (masked = 1 ∧ required) →
      exec q.command s = .next (s.replied q ⟨.refusedState, []⟩))
    ∧ (formed → n.kind ≠ .none → (masked = 0 ∨ ¬required) → s.noScanDue →
      ∃ t m, exec q.command s = .next t
        ∧ t.link = (s.replied q ⟨if 1000 < threshold.toNat then .clamped else .ok, []⟩).link
        ∧ t.part.ring.nodes = setAt s.part.ring.nodes (address.toNat - 1) m
        ∧ m.masked = decide (masked = 1) ∧ m.watch = watch ∧ m.threshold = min 1000 threshold.toNat
        ∧ m.selector = (if selector = 0 then .main else if selector = 1 then .alt else .stats)
        ∧ m.kind = n.kind ∧ m.main = n.main ∧ m.alt = n.alt ∧ m.reference = n.reference ∧ m.identity = n.identity
        ∧ m.totalMisses = n.totalMisses ∧ m.crcErrors = n.crcErrors ∧ m.mismatch = n.mismatch
        ∧ m.identScan = n.identScan
        ∧ (if masked = 1 ∧ n.masked = false then
            m.link = .absent ∧ m.misses = 0 ∧ m.changed = false ∧ m.requestSeen = false
          else m.link = n.link ∧ m.misses = n.misses ∧ m.changed = n.changed ∧ m.requestSeen = n.requestSeen))

/-! ### Stored settings -/

/-- R177: the checks of SETTING_PUT in their order, and what acceptance leaves: the value, clamped where that is called
for, is the served value from then on, and every other item that its owner does not write itself is served as before. -/
def Obligations.SettingPutChecksAndAccepts : Prop :=
  ∀ (s : State) (item : Byte) (v : ValueField),
    let q : Request := .settingPut item v
    let i := item.toNat
    let number := (halfOf v.b0 v.b1).toNat
    let answered (c : ResultCode) : Prop := exec q.command s = .next (s.replied q ⟨c, []⟩)
    let full := (∀ e ∈ s.part.store.queue, e.item ≠ i) ∧ 5 ≤ s.part.store.queue.length
    let accepted (c : ResultCode) (w : ItemValue) : Prop := ∃ t, exec q.command s = .next t
      ∧ t.link = (s.replied q ⟨c, []⟩).link ∧ t.flash = s.flash ∧ t.part.store.served i = w
      ∧ ∀ j, j ≠ i → j ∉ [14, 15, 16] → t.part.store.served j = s.part.store.served j
    s.listening → s.admits q →
    (34 ≤ i → answered .badValue)
    ∧ (i ∈ [14, 15, 16] → answered .refusedState)
    ∧ (i < 22 → i ∉ [14, 15, 16] →
      (s.part.mode.mode = .safeStop → answered .faultActive)
      ∧ (s.part.mode.mode ≠ .safeStop → full → answered .busy)
      ∧ (s.part.mode.mode ≠ .safeStop → ¬full → clampItem i number = number → accepted .ok (.number number))
      ∧ (s.part.mode.mode ≠ .safeStop → ¬full → clampItem i number ≠ number →
        accepted .clamped (.number (clampItem i number))))
    ∧ (22 ≤ i → i < 34 →
      (7 < v.b0.toNat → answered .badValue)
      ∧ (v.b0.toNat ≤ 7 → full → answered .busy)
      ∧ (∀ k, nodeKindOf v.b0.toNat = some k → ¬full → accepted .ok (.kind k)))

/-- R175, R177: a value accepted for a numeric item lies in the item's range, on its steps, and no lower legal value is
nearer; a legal value is kept. -/
def Obligations.ItemsAreClampedToTheirSteps : Prop :=
  ∀ item n : Nat, item < 22 → item ∉ [14, 15, 16] →
    let c := clampItem item n
    let low := (itemRange item).1
    let high := (itemRange item).2
    low ≤ c ∧ c ≤ high ∧ (item = 0 → c % 10 = 0) ∧ (item = 19 → c = 0 ∨ (200 ≤ c ∧ c % 100 = 0))
    ∧ clampItem item c = c
    ∧ (n < low → c = low) ∧ (high ≤ n → c = high)
    ∧ (low ≤ n → n ≤ high → item ≠ 0 → item ≠ 19 → c = n)
    ∧ (item = 0 → low ≤ n → n ≤ high → c ≤ n ∧ n < c + 10)
    ∧ (item = 19 → n = 0 → c = 0) ∧ (item = 19 → 1 ≤ n → n ≤ 199 → c = 200)
    ∧ (item = 19 → 200 ≤ n → n ≤ high → c ≤ n ∧ n < c + 100)

/-- R179: STORE_DEFAULTS is answered BUSY while a defaults run is held; else from its acceptance on items 0 to 13 and 17 to
21 are served at their defaults and items 22 to 33 as before. -/
def Obligations.StoreDefaultsServesDefaults : Prop :=
  ∀ s : State, s.listening → s.admits .storeDefaults →
    (s.part.store.run ≠ [] → exec .storeDefaults s = .next (s.replied .storeDefaults ⟨.busy, []⟩))
    ∧ (s.part.store.run = [] → ∃ t, exec .storeDefaults s = .next t
      ∧ t.link = (s.replied .storeDefaults ⟨.ok, []⟩).link ∧ t.flash = s.flash
      ∧ (∀ i, i ≤ 13 ∨ (17 ≤ i ∧ i ≤ 21) → t.part.store.served i = defaultValue i)
      ∧ ∀ i, 22 ≤ i → i ≤ 33 → t.part.store.served i = s.part.store.served i)

/-- R178: STORE_WRITE_COMPLETE: the item whose write was in progress has the value that was being written as its stored
form with its check byte, its defaulted flag is clear, every other stored form is unchanged, and every item that its owner
does not write itself is served as before. That the command changes nothing with no write in progress is the model's choice
(log entry 4). -/
def Obligations.WriteCompletes : Prop :=
  ∀ s : State,
    (s.part.store.writing = none ∨ s.part.store.queue = [] → exec .storeWriteComplete s = .next s)
    ∧ ∀ v e rest, s.part.store.writing = some v → s.part.store.queue = e :: rest →
      ∃ t, exec .storeWriteComplete s = .next t
        ∧ t.flash = setAt s.flash e.item ⟨v.bytes, crc8 (byteOf e.item :: v.bytes)⟩
        ∧ t.part.store.base = setAt s.part.store.base e.item v
        ∧ t.part.store.defaulted = setAt s.part.store.defaulted e.item false
        ∧ (s.part.store.Ok → e.item < s.part.store.base.length →
          (s.part.store.replaced = false → e.value = v) →
          ∀ i, i ∉ [14, 15, 16] → t.part.store.served i = s.part.store.served i)

/-- R178, R181: the stored forms change only when a write completes, in the item written, and at a power-on that cuts a
write off, in the item whose write was in progress (log entry 3); their number never changes. -/
def Obligations.FlashChangesOnlyByWrites : Prop :=
  ∀ (c : Instr) (s t : State), exec c s = .next t → t.flash.length = s.flash.length
    ∧ (t.flash = s.flash ∨ ∃ v e rest, s.part.store.writing = some v ∧ s.part.store.queue = e :: rest
      ∧ ((c = .storeWriteComplete ∧ t.flash = setAt s.flash e.item (storedForm e.item v))
        ∨ (c = .powerOnReset ∧ ∃ f, t.flash = setAt s.flash e.item f ∧ loadForm e.item f = none)))

/-- R98, R114, R175, R178, R180, R184: a legal value is read back from its stored form as it was, a stored form that is
read as a value is that value's form, and one whose check byte differs is damaged. -/
def Obligations.StoredFormsRoundTrip : Prop :=
  (∀ item n, item < 22 → item ∉ [14, 15, 16] → clampItem item n = n →
    loadForm item (storedForm item (.number n)) = some (.number n))
  ∧ (∀ load rest, load ≤ 65535 → rest ≤ 99 → loadForm 14 (storedForm 14 (.scale load rest)) = some (.scale load rest))
  ∧ (∀ progress owed credit flush, progress ≤ 65535 → owed ≤ 5 → credit ≤ 2 → owed = 0 ∨ credit = 0 →
    loadForm 15 (storedForm 15 (.blowdown progress owed credit flush)) = some (.blowdown progress owed credit flush))
  ∧ (∀ r : DescaleRecord, r.rinses ≤ 3 → loadForm 16 (storedForm 16 (.descale r)) = some (.descale r))
  ∧ (∀ item k, 22 ≤ item → item < 34 → loadForm item (storedForm item (.kind k)) = some (.kind k))
  ∧ (∀ item f v, item < 34 → loadForm item f = some v → storedForm item v = f ∧ legalValue item v = true)
  ∧ ∀ item v check, check ≠ (storedForm item v).check → loadForm item ⟨v.bytes, check⟩ = none

/-- R178, R179: every step keeps the write queue's invariant, and with it the queue holds at most 8 entries and never two
for the same item. -/
def Obligations.EveryStepKeepsWriteQueue : Prop :=
  (∀ s t : State, s.part.store.Ok → step s = .next t → t.part.store.Ok)
  ∧ ∀ u : Store, u.Ok → u.queue.length ≤ 8 ∧ (u.queue.map QueueEntry.item).Nodup

/-! ### Climate -/

/-- R2: a climate record is refused with BAD_VALUE, and then changes nothing, where its mode is none of the eight, a presence
byte is neither 0 nor 1, or its optional fields are not those that its mode calls for. Every other record is written with each
field at the nearest value of its range, the setpoints and the delta read as signed (R182), the pulse period first and the
on-time against the clamped period, and the writer receives CLAMPED where a field was clamped and OK where none was. -/
def Obligations.ClimateRecordsAreChecked : Prop :=
  (∀ (b : ClimateBlock) (c : ClimateParams) (clamped : Bool), checkClimate b = some (c, clamped) →
    b.mode = byteOf (heatModeCode c.mode)
    ∧ (modeSetpoint c.mode).1 ≤ c.setpoint ∧ c.setpoint ≤ (modeSetpoint c.mode).2
    ∧ (modeFan c.mode).1 ≤ c.fan ∧ c.fan ≤ (modeFan c.mode).2
    ∧ (c.mode = .combi → (c.humidity.isSome ↔ c.pulse = none))
    ∧ (c.mode ≠ .combi → c.humidity = none ∧ c.pulse = none)
    ∧ (∀ h, c.humidity = some h → 0 ≤ h ∧ h ≤ 100)
    ∧ (∀ u, c.pulse = some u → 30 ≤ u.period ∧ u.period ≤ 600 ∧ 5 ≤ u.onTime ∧ u.onTime + 5 ≤ u.period)
    ∧ (∀ d, c.delta = some d → 10 ≤ d ∧ d ≤ 1500)
    ∧ (clamped = false → c.setpoint = b.setpoint.toInt ∧ c.fan = b.fan.toNat
      ∧ (∀ h, c.humidity = some h → h = b.humidity.toInt)
      ∧ (∀ u, c.pulse = some u → u = ⟨b.pulsePeriod.toNat, b.pulseOnTime.toNat⟩)
      ∧ (∀ d, c.delta = some d → d = b.delta.toInt)))
  ∧ (∀ b : ClimateBlock,
    let formed := b.humidityPresence.toNat ≤ 1 ∧ b.pulsePresence.toNat ≤ 1 ∧ b.deltaPresence.toNat ≤ 1
    let allowed (m : HeatMode) : Prop :=
      if m = .combi then (b.humidityPresence = 1 ↔ b.pulsePresence = 0)
      else b.humidityPresence = 0 ∧ b.pulsePresence = 0
    (checkClimate b = none ↔ ¬(formed ∧ ∃ m, heatModeOf b.mode.toNat = some m ∧ allowed m))
    ∧ ∀ m, heatModeOf b.mode.toNat = some m → formed → allowed m →
      let period := max 30 (min 600 b.pulsePeriod.toNat)
      let sent : ClimateParams := ⟨m, b.setpoint.toInt, b.fan.toNat,
        if b.humidityPresence = 1 then some b.humidity.toInt else none,
        if b.pulsePresence = 1 then some ⟨b.pulsePeriod.toNat, b.pulseOnTime.toNat⟩ else none,
        if b.deltaPresence = 1 then some b.delta.toInt else none⟩
      let written : ClimateParams := ⟨m, max (modeSetpoint m).1 (min (modeSetpoint m).2 b.setpoint.toInt),
        max (modeFan m).1 (min (modeFan m).2 b.fan.toNat),
        if b.humidityPresence = 1 then some (max 0 (min 100 b.humidity.toInt)) else none,
        if b.pulsePresence = 1 then some ⟨period, max 5 (min (period - 5) b.pulseOnTime.toNat)⟩ else none,
        if b.deltaPresence = 1 then some (max 10 (min 1500 b.delta.toInt)) else none⟩
      checkClimate b = some (written, decide (written ≠ sent)))
  ∧ ∀ (p : Part) (b : ClimateBlock),
    (checkClimate b = none → p.climateSet b = (p, ⟨.badValue, []⟩))
    ∧ ∀ c clamped, checkClimate b = some (c, clamped) → p.climateRefusal c = none →
      p.climateSet b = (p.writeClimate c, ⟨if clamped then .clamped else .ok, []⟩)

/-- R3, R5: the checks of CLIMATE_SET in their order and its acceptance; CLIMATE_OFF is refused while the program runs and
else ends cooking. -/
def Obligations.ClimateSetAndOff : Prop :=
  ∀ s : State, s.listening →
    let p := s.part
    let runs := p.program.state ∈ [.running, .waiting, .paused, .boundaryWait]
    let span := p.descale.phase ≠ .idle ∧ ¬(p.descale.phase = .awaitSolution ∧ p.descale.prompt = some .start)
    (∀ b, s.admits (.climateSet b) →
      let answered (c : ResultCode) : Prop := exec (.climateSet b) s = .next (s.replied (.climateSet b) ⟨c, []⟩)
      (checkClimate b = none → answered .badValue)
      ∧ ∀ c clamped, checkClimate b = some (c, clamped) →
        let noHeat := c.mode ≠ .steam ∧ p.store.groupMax c.mode = 0
        let noProbe := c.delta.isSome ∧ p.ring.image.tcore = none
        (runs ∨ span ∨ noHeat ∨ noProbe → answered .refusedState)
        ∧ (¬(runs ∨ span ∨ noHeat ∨ noProbe) → c.mode = .steam → p.scale.lock = true → answered .locked)
        ∧ (¬(runs ∨ span ∨ noHeat ∨ noProbe) → (c.mode ≠ .steam ∨ p.scale.lock = false) →
          exec (.climateSet b) s = .next (s.carried (.climateSet b)
            ⟨if clamped then .clamped else .ok, []⟩ (p.writeClimate c))))
    ∧ (s.admits .climateOff →
      (runs → exec .climateOff s = .next (s.replied .climateOff ⟨.refusedState, []⟩))
      ∧ (¬runs → exec .climateOff s = .next (s.carried .climateOff ⟨.ok, []⟩
          (if p.climate.state ∈ [.preheat, .regulate, .doorPause] then p.endCooking else p))))

/-- R1, R4, R7, R8, R9, R10, R13, R20, R27: a parameter write in OFF or COOL_RUN starts cooking with the setpoint in force,
the cooking state, the integral and the demands of the table, and a write in a cooking state keeps or leaves its state by the
raise test and writes the four demands again under the ratings then served. The end of cooking leaves COOL_RUN or OFF with
no element demand, and D as the last period has computed it (log entry 19). A door-open change enters DOOR_PAUSE and a
door-close change leaves it; a scan completion watches the cavity temperature and ends COOL_RUN. A delta written without a
core reading gives 30.0 °C at every write (log entry 36); the demands after a raise that changes the mode are log entry 48. -/
def Obligations.CookingStartsAndEnds : Prop :=
  ∀ p : Part,
    let tsOf (c : ClimateParams) : Int := match c.delta, p.ring.image.tcore with
      | none, _ => c.setpoint
      | some d, some core => max 300 (min c.setpoint (core + d))
      | some _, none => 300
    let split (c : ClimateParams) (d : Int) (demands : PerElement Nat) : Prop :=
      ∀ e, demands.get e = min (p.store.rating e) (d.toNat * modeShare c.mode e / 100)
    (∀ c : ClimateParams, p.climate.state = .off ∨ p.climate.state = .coolRun → p.mode.mainsLoss = false →
      hasFault p.mode.faults .fanStall = false →
      let ts := tsOf c
      let g : Int := p.store.groupMax c.mode
      let tooCold : Bool := match p.ring.image.tc with
        | some t => decide (t < ts - 50)
        | none => true
      let chosen : ClimateState := if tooCold then .preheat else .regulate
      let i : Int := if tooCold then 0 else max 0 (min g (g * ts / 5000))
      let q := p.writeClimate c
      q.climate.params = some c ∧ q.climate.ts = some ts ∧ q.climate.integral = i
      ∧ q.climate.periodTimer = .running 1000
      ∧ (p.ring.image.doorClosed = true → q.climate.state = chosen
        ∧ split c (if tooCold then g else i) q.power.demands
        ∧ (∀ u, c.pulse = some u → q.climate.pulseTimer = .running u.period ∧ q.climate.pulseCount = 0)
        ∧ (tooCold = false → q.notice.pending.getLsbD (noticePosition .preheatReached) = true))
      ∧ (p.ring.image.doorClosed = false → q.climate.state = .doorPause ∧ q.climate.returnTo = some chosen
        ∧ q.power.demands = .all 0))
    ∧ (∀ c : ClimateParams, p.climate.state ∈ [.preheat, .regulate, .doorPause] → p.mode.mainsLoss = false →
      hasFault p.mode.faults .fanStall = false →
      let ts := tsOf c
      let g : Int := p.store.groupMax c.mode
      let rise := ∃ b, p.climate.ts = some b ∧ b + 200 < ts
      let sameMode := ∃ old, p.climate.params = some old ∧ old.mode = c.mode
      let kept : Int := max 0 (min g p.climate.given)
      let q := p.writeClimate c
      q.climate.params = some c ∧ q.climate.ts = some ts ∧ q.climate.ratings = p.store.ratings
      ∧ q.climate.periodTimer = p.climate.periodTimer
      ∧ (p.climate.state = .preheat → q.climate.state = .preheat ∧ split c g q.power.demands)
      ∧ (p.climate.state = .regulate → rise → q.climate.state = .preheat ∧ q.climate.integral = 0
        ∧ (sameMode → split c kept q.power.demands) ∧ (¬sameMode → split c g q.power.demands))
      ∧ (p.climate.state = .regulate → ¬rise → q.climate.state = .regulate ∧ split c kept q.power.demands
        ∧ (sameMode → q.climate.integral = p.climate.integral)
        ∧ (¬sameMode → q.climate.integral = max 0 (min g p.climate.integral)))
      ∧ (p.climate.state = .doorPause → q.climate.state = .doorPause ∧ q.power.demands = .all 0
        ∧ (p.climate.returnTo = some .regulate → rise →
          q.climate.returnTo = some .preheat ∧ q.climate.integral = 0)
        ∧ (p.climate.returnTo ≠ some .regulate ∨ ¬rise → q.climate.returnTo = p.climate.returnTo)))
    ∧ (p.climate.state ∈ [.preheat, .regulate, .doorPause] →
      let q := p.endCooking
      q.climate.state = (match p.ring.image.tc with
        | some t => if (p.store.num 21 : Int) < t then .coolRun else .off
        | none => .off)
      ∧ q.climate.params = none ∧ q.climate.integral = 0 ∧ q.climate.given = 0 ∧ q.power.demands = .all 0
      ∧ q.climate.demand = p.climate.demand
      ∧ q.climate.steamWanted = false ∧ q.climate.periodTimer = .stopped ∧ q.climate.pulseTimer = .stopped
      ∧ q.climate.ventTarget = .opened ∧ q.boiler = p.boiler ∧ q.program = p.program ∧ q.store = p.store
      ∧ q.notice = p.notice ∧ q.power.boilerRequest = p.power.boilerRequest ∧ q.power.grants = p.power.grants)
    ∧ (p.climate.state = .preheat ∨ p.climate.state = .regulate →
      p.climateDoorOpen = { p with
        climate := { p.climate with
          state := .doorPause, returnTo := some p.climate.state, reachedOwed := false, steamWanted := false
          pulseTimer := p.climate.pulseTimer.pause, given := 0 }
        power.demands := .all 0 })
    ∧ (p.climate.state ∉ [.preheat, .regulate] → p.climateDoorOpen = p)
    ∧ (∀ c back, p.climate.state = .doorPause → p.climate.returnTo = some back → p.climate.params = some c →
      p.mode.mainsLoss = false → hasFault p.mode.faults .fanStall = false →
      let g : Int := groupMaxOf p.climate.ratings c.mode
      let q := p.climateDoorClose
      let given (d : Int) : Prop := q.power.demands
        = .of (fun e => min (p.climate.ratings.get e) (d.toNat * modeShare c.mode e / 100))
      q.climate.state = back ∧ q.climate.returnTo = none ∧ q.climate.integral = p.climate.integral
      ∧ q.climate.pulseTimer = p.climate.pulseTimer.resume
      ∧ (back = .preheat → given g) ∧ (back = .regulate → given (max 0 (min g p.climate.integral)))
      ∧ (p.climate.reachedOwed = true → q.notice.pending.getLsbD (noticePosition .preheatReached) = true)
      ∧ (p.climate.reachedOwed = false → q.notice = p.notice ∧ q.program = p.program))
    ∧ (∀ t, p.ring.image.tc = some t →
      (3000 ≤ t → p.climate.overtemp = false →
        p.overtempWatch = Part.raiseFault { p with climate.overtemp := true } .cavityOvertemp)
      ∧ (3000 ≤ t → p.climate.overtemp = true → p.overtempWatch = p)
      ∧ (t < 2500 → p.overtempWatch = { p with climate.overtemp := false })
      ∧ (2500 ≤ t → t < 3000 → p.overtempWatch = p)
      ∧ (p.climate.state = .coolRun → t ≤ p.store.num 21 → p.coolRunEnd = { p with climate.state := .off })
      ∧ (p.climate.state ≠ .coolRun ∨ (p.store.num 21 : Int) < t → p.coolRunEnd = p))
    ∧ (p.ring.image.tc = none → p.overtempWatch = p ∧ p.coolRunEnd = p)
    ∧ ∀ d : DoorChange,
      let watched := p.overtempWatch
      let door : Part := match d with
        | .opened => watched.climateDoorOpen
        | .closed => watched.climateDoorClose
        | .none => watched
      p.scanClimate d = (((door.coolRunEnd).steamTest).ventTest).ventEndSwitch

/-- R8, R11, R12, R13, R21: CLIMATE_PERIOD_EXPIRY: the setpoint in force, in delta mode from the core reading; the raise test
against the expiry before; the PI demand and its split in REGULATE, with the frozen integral; the group maximum in PREHEAT
below the exit; the exit from PREHEAT with its handover value and its indication; no demand with an invalid reading, in
DOOR_PAUSE, and for a fan mode while FAN_STALL is latched; and the integral at 0 and no demand during mains loss. The raise
test comes before the exit (log entries 15 to 17), and an expiry in DOOR_PAUSE leaves the integral (log entry 64). -/
def Obligations.ClimatePeriodRegulates : Prop :=
  ∀ (s : State) (n : Nat) (c : ClimateParams), s.part.climate.periodTimer = .running n →
    s.part.climate.params = some c →
    let p := s.part
    let ts : Int := match c.delta, p.ring.image.tcore with
      | none, _ => c.setpoint
      | some d, some core => max 300 (min c.setpoint (core + d))
      | some _, none => p.climate.ts.getD 300
    let g : Int := p.store.groupMax c.mode
    let rise := ∃ b, p.climate.tsExpiry = some b ∧ b + 200 < ts
    let stalled := hasFault p.mode.faults .fanStall ∧ c.mode ∈ [.hotAir, .hotAirBottom, .grillFan, .steam, .combi]
    let split (d : Int) : PerElement Nat :=
      .of (fun e => min (p.store.rating e) (d.toNat * modeShare c.mode e / 100))
    let expired (st : ClimateState) (i d : Int) : Part := { p with
      climate := { p.climate with
        ts := some ts, tsExpiry := some ts, ratings := p.store.ratings, state := st, integral := i, given := d, demand := d }
      power.demands := split d }
    let curtailed := p.climate.grantFresh = true
      ∧ ∃ x ∈ modeGroup c.mode, p.power.grants.curtailed.get x.1 = true
    let regulated (tc i kept d : Int) : Prop :=
      let e := max (-1000) (min 1000 (ts - tc))
      let prop := ((p.store.num 10 : Int) * e).tdiv 10
      let frozen := stalled ∨ curtailed ∨ (0 < e ∧ g ≤ prop + i) ∨ (e < 0 ∧ prop + i ≤ 0)
      (frozen → kept = max 0 (min g i))
      ∧ (¬frozen → kept = max 0 (min g (i + ((p.store.num 11 : Int) * e).tdiv 160)))
      ∧ (stalled → d = 0) ∧ (¬stalled → d = max 0 (min g (prop + kept)))
    (p.mode.mainsLoss = false → p.climate.state = .regulate → ¬rise →
      (∀ tc kept d, p.ring.image.tc = some tc → regulated tc p.climate.integral kept d →
        exec .climatePeriodExpiry s = .next (s.settled (expired .regulate kept d)))
      ∧ (p.ring.image.tc = none → exec .climatePeriodExpiry s
        = .next (s.settled (expired .regulate (max 0 (min g p.climate.integral)) 0))))
    ∧ (p.mode.mainsLoss = false → p.climate.state = .preheat ∨ (p.climate.state = .regulate ∧ rise) →
      let i := if p.climate.state = .preheat then p.climate.integral else 0
      (∀ tc, p.ring.image.tc = some tc → tc < ts - 50 →
        (stalled → exec .climatePeriodExpiry s = .next (s.settled (expired .preheat i 0)))
        ∧ (¬stalled → exec .climatePeriodExpiry s = .next (s.settled (expired .preheat i g))))
      ∧ (∀ tc kept d, p.ring.image.tc = some tc → ts - 50 ≤ tc → regulated tc (max 0 (min g (g * ts / 5000))) kept d →
        exec .climatePeriodExpiry s = .next (s.settled (expired .regulate kept d).cavityReached))
      ∧ (p.ring.image.tc = none → exec .climatePeriodExpiry s = .next (s.settled (expired .preheat i 0))))
    ∧ (p.mode.mainsLoss = false → p.climate.state = .doorPause →
      let back := p.climate.returnTo = some .regulate ∧ rise
      let r := expired .doorPause p.climate.integral 0
      (¬back → exec .climatePeriodExpiry s = .next (s.settled r))
      ∧ (back → exec .climatePeriodExpiry s = .next (s.settled { r with climate := { r.climate with
          returnTo := some .preheat, integral := 0, reachedOwed := false } })))
    ∧ (p.mode.mainsLoss = true →
      exec .climatePeriodExpiry s = .next (s.settled { p with
        climate := { p.climate with ts := some ts, ratings := p.store.ratings, integral := 0, given := 0, demand := 0 }
        power.demands := .all 0 }))
    ∧ (∀ q : Part, q.cavityReached.notice.pending.getLsbD (noticePosition .preheatReached) = true)

/-- R14, R15, R16, R18, R66, R92: a tick of the pulse timer counts modulo the period and tests the steam-wanted flag, which
in a pulsed COMBI is set below the on-time; a vent drive ends at its limit; FLOW pulses count while the fill pump runs,
TACH pulses while windows are counted (log entry 22), each saturating (log entry 47); the lull timer's expiry reaches the
lull. -/
def Obligations.TicksAndPulses : Prop :=
  ∀ s : State,
    (∀ period, s.part.climate.pulseTimer = .running period →
      exec .pulseTimerTick s = .next (s.settled (Part.steamTest { s.part with
        climate.pulseCount :=
          if s.part.climate.pulseCount + 1 < period then s.part.climate.pulseCount + 1 else 0 })))
    ∧ (∀ (p : Part) (c : ClimateParams) (u : SteamPulse), p.climate.params = some c → c.mode = .combi →
      c.humidity = none → c.pulse = some u → p.scale.lock = false → p.mode.mainsLoss = false →
      p.program.state ≠ .boundaryWait → p.climate.state = .preheat ∨ p.climate.state = .regulate →
      p.steamTest = { p with climate.steamWanted := decide (p.climate.pulseCount < u.onTime) })
    ∧ exec .ventDriveTimeout s = .next { s with part.climate.ventDrive := none }
    ∧ exec .flowPulse s = .next
      (if s.part.boiler.state ∈ [.filling, .topping] ∧ s.part.mode.mainsLoss = false ∧ s.part.mode.mode ≠ .standby then
        { s with part.boiler.flow := min 65535 (s.part.boiler.flow + 1) }
      else s)
    ∧ exec .tachPulse s = .next
      (if s.part.power.counting then { s with part.climate.tachCount := min 65535 (s.part.climate.tachCount + 1) }
      else s)
    ∧ (s.part.scale.lull = .running →
      exec .lullTimerExpiry s = .next (s.settled { s.part with scale.lull := .reached }))

/-! ### Power and mains -/

/-- R28 to R33, R35: the grants of a window boundary. The claimants are the elements of the mode's group in its order, and none
under the cavity inhibition (R30). In that order each takes the lower of its capped demand and what remains, and is curtailed
exactly where it takes less; every other element takes nothing, and the granted power and the auxiliary load (R29) do not
exceed the budget where that load alone does not. The boiler goes before the group where dwell, aging or priority hold (R31), else after it; it is granted
its rating or nothing, with the relay, where it is requested, meets no interlock, and the power that remains and the off-dwell
allow it, and the dwell and deferral counts follow (R28, R32). An on-cycle count gives that many on cycles of 50, evenly
spaced, within the grant, and a gate is fired through both half-cycles of an on cycle. The cavity inhibition asks the lowest
address of CAVITY_TEMP (log entry 62). -/
def Obligations.GrantsStayWithinBudget : Prop :=
  (∀ p : Part,
    let q := p.grantWindow
    let w := q.power.grants.watts
    let granted := w.top + w.bottom + w.ring + w.grill + q.power.grants.boiler
    let inhibited := p.ring.image.doorClosed = false ∨ p.ring.linked .cavityTemp = false ∨ p.critical = true
      ∨ p.mode.mode = .standby
    q.power.budget = p.store.num 0 ∧ q.power.aux = p.auxLoad ∧ q.power.available = p.store.num 0 - p.auxLoad
    ∧ p.auxLoad = (if 1 ≤ p.fanLevel then p.store.num 6 else 0) + (if p.lamp then p.store.num 7 else 0)
      + (if p.fillPump then p.store.num 8 else 0) + (if p.drainPump then p.store.num 8 else 0)
      + (if p.coolingFan then p.store.num 9 else 0)
    ∧ granted ≤ q.power.available ∧ (p.auxLoad ≤ p.store.num 0 → granted + p.auxLoad ≤ p.store.num 0)
    ∧ q.power.grants.boiler = (if q.power.relay then p.store.num 1 else 0)
    ∧ (q.power.relay = true → p.power.boilerRequest = true ∧ p.ring.image.lowWet = true
      ∧ (∃ t, p.ring.image.boilerTemp = some t ∧ t < 1400) ∧ p.steamFault = false ∧ p.critical = false
      ∧ p.mode.mode ≠ .standby ∧ (p.power.relay = true ∨ 3 ≤ p.power.offDwell))
    ∧ ∀ e,
      w.get e ≤ min (p.store.rating e) (p.power.demands.get e)
      ∧ (inhibited → w.get e = 0 ∧ q.power.grants.curtailed.get e = false)
      ∧ ((∀ c, p.climate.params = some c → ∀ x ∈ modeGroup c.mode, x.1 ≠ e) → w.get e = 0)
      ∧ (¬inhibited → (∃ c, p.climate.params = some c ∧ ∃ x ∈ modeGroup c.mode, x.1 = e) →
        (q.power.grants.curtailed.get e = true ↔ w.get e < min (p.store.rating e) (p.power.demands.get e)))
      ∧ q.power.grants.onCycles.get e = w.get e * 50 / p.store.rating e ∧ q.power.grants.onCycles.get e ≤ 50
      ∧ q.power.grants.onCycles.get e * p.store.rating e / 50 ≤ w.get e)
  ∧ (∀ p : Part,
    let q := p.grantWindow
    let w := q.power.grants.watts
    let rating := p.store.num 1
    let inhibited := p.ring.image.doorClosed = false ∨ p.ring.linked .cavityTemp = false ∨ p.critical = true
      ∨ p.mode.mode = .standby
    let order : List Element := if inhibited then [] else match p.climate.params with
      | some c => (modeGroup c.mode).map Prod.fst
      | none => []
    let allowed := p.ring.image.lowWet = true ∧ (∃ t, p.ring.image.boilerTemp = some t ∧ t < 1400)
      ∧ p.steamFault = false ∧ p.critical = false ∧ p.mode.mode ≠ .standby
    let requested := p.power.boilerRequest = true ∧ allowed
    let priority := (∃ st, p.program.state ∈ [.running, .waiting, .paused, .boundaryWait]
        ∧ p.program.stages[p.program.index]? = some st ∧ st.steamPriority = true)
      ∨ (p.mode.mode = .hold ∧ p.mode.holdMoist = true) ∨ p.boiler.owner = .descale
    let first := (p.power.relay = true ∧ p.power.onDwell < 5) ∨ 10 ≤ p.power.deferral ∨ priority
    let fits (remains : Nat) : Prop := rating ≤ remains ∧ (p.power.relay = true ∨ 3 ≤ p.power.offDwell)
    let available := p.store.num 0 - p.auxLoad
    let taken (es : List Element) : Nat := (es.map w.get).sum
    (∀ k e group, order[k]? = some e →
      (requested ∧ first ∧ fits available → group = available - rating) →
      (¬(requested ∧ first ∧ fits available) → group = available) →
      w.get e = min (min (p.store.rating e) (p.power.demands.get e)) (group - taken (order.take k))
      ∧ (q.power.grants.curtailed.get e = true ↔ w.get e < min (p.store.rating e) (p.power.demands.get e)))
    ∧ (∀ e, e ∉ order → w.get e = 0 ∧ q.power.grants.curtailed.get e = false)
    ∧ (q.power.relay = true
      ↔ requested ∧ ((first ∧ fits available) ∨ (¬first ∧ fits (available - taken order))))
    ∧ (q.power.relay = true → p.power.relay = false →
      q.power.onDwell = 0 ∧ q.power.offDwell = p.power.offDwell)
    ∧ (q.power.relay = false → p.power.relay = true → q.power.onDwell = 0 ∧ q.power.offDwell = 0)
    ∧ (q.power.relay = p.power.relay →
      q.power.onDwell = p.power.onDwell ∧ q.power.offDwell = p.power.offDwell)
    ∧ q.power.deferral = (if q.power.relay = true ∨ p.power.boilerRequest = false then 0
        else if p.power.boilerRequest = true ∧ p.boilerAllowed = true then min 255 (p.power.deferral + 1)
        else p.power.deferral)
    ∧ (p.boilerAllowed = true ↔ allowed)
    ∧ q.power.withdrawn = false ∧ q.power.crossing = 0)
  ∧ (∀ n, n ≤ 50 → ((List.range 50).filter (fun k => onCycle n (k + 1))).length = n)
  ∧ (∀ n k, onCycle n k = true ↔ (k - 1) * n / 50 < k * n / 50) ∧ (∀ n, 0 < n → onCycle n 50 = true)
  ∧ ((List.range 51).filter (fun k => k ≠ 0 && onCycle 2 k) = [25, 50]
    ∧ (List.range 51).filter (fun k => k ≠ 0 && onCycle 22 k)
      = [3, 5, 7, 10, 12, 14, 16, 19, 21, 23, 25, 28, 30, 32, 35, 37, 39, 41, 44, 46, 48, 50]
    ∧ ∀ k, 1 ≤ k → k ≤ 50 → onCycle 50 k = true)
  ∧ ∀ (u : Power) (e : Element), u.counting = true → u.withdrawn = false →
    (u.gates.get e = true ↔ onCycle (u.grants.onCycles.get e) (u.crossing / 2 + 1) = true)

/-- R18, R23, R28: a crossing within a window is counted; the crossing that closes a window, given as ZERO_CROSSING or as
WINDOW_BOUNDARY, latches the TACH count and updates the stall count, which raises FAN_STALL when it reaches 3, updates the
dwell counts, and then makes the grants of the window that it opens at crossing 0. That WINDOW_BOUNDARY elsewhere changes
nothing is the model's choice (log entry 9). -/
def Obligations.CrossingsCountWindows : Prop :=
  ∀ (s : State) (gap : Nat), gap ≤ 25000 → s.noScanDue → s.part.power.measure = .none →
    s.part.mode.mainsLoss = false → s.part.power.freq ≠ .unknown → s.part.power.counting = true →
    let p := s.part
    let rpm := p.climate.tachCount * (if p.power.freq = .hz60 then 36 else 30)
    let stalled := p.climate.windowFan = true ∧ 1 ≤ p.fanLevel ∧ rpm < 300
    let count := if stalled then min 3 (p.climate.stallCount + 1) else 0
    let counted : Part := { p with
      climate := { p.climate with
        tachLatch := p.climate.tachCount, tachCount := 0, stallCount := count, windowFan := decide (1 ≤ p.fanLevel) }
      power := { p.power with
        onDwell := if p.power.relay then min 255 (p.power.onDwell + 1) else p.power.onDwell
        offDwell := if p.power.relay then p.power.offDwell else min 255 (p.power.offDwell + 1) } }
    let judged := if count = 3 ∧ p.climate.stallCount ≠ 3 then counted.raiseFault .fanStall else counted
    (p.power.crossing ≠ 99 →
      exec (.zeroCrossing gap) s = .next (s.settled { p with power.crossing := p.power.crossing + 1 })
      ∧ exec (.windowBoundary gap) s = .next s)
    ∧ (p.power.crossing = 99 → ∀ c, c = .zeroCrossing gap ∨ c = .windowBoundary gap →
      exec c s = .next (s.settled { judged.grantWindow with climate.grantFresh := true })
      ∧ ∃ t, exec c s = .next t ∧ t.part.power.crossing = 0 ∧ t.part.power.counting = true
        ∧ t.part.climate.tachLatch = p.climate.tachCount ∧ t.part.climate.tachCount = 0
        ∧ t.part.climate.stallCount = count
        ∧ (count = 3 → p.climate.stallCount ≠ 3 → hasFault t.part.mode.faults .fanStall = true)
        ∧ t.part.power.freq = p.power.freq ∧ t.part.mode.mainsLoss = false)

/-- R24, R25, R26, R150, R181: the start-up measurement from its first crossing to its end in a class or without one; the
onset of mains loss with the zero grant set and the open relay; the crossings of the return run, the class check at the end of
its first 10 half-cycles, and the end of mains loss at its 50th crossing. The crossings that end a measurement or a return
run may be given under either of their names (log entry 9), and gaps are in microseconds (log entry 10). -/
def Obligations.MainsFrequencyAndLoss : Prop :=
  ∀ (s : State) (gap : Nat), s.noScanDue →
    let p := s.part
    let hz50 (time : Nat) : Prop := 94300 ≤ time ∧ time ≤ 106400
    let hz60 (time : Nat) : Prop := 79400 ≤ time ∧ time ≤ 87700
    (p.power.measure = .waiting →
      exec (.zeroCrossing gap) s = .next (s.settled { p with power.measure := .timing 0 0 }))
    ∧ (∀ n time, p.power.measure = .timing n time → n < 9 → gap ≤ 25000 →
      exec (.zeroCrossing gap) s = .next (s.settled { p with power.measure := .timing (n + 1) (time + gap) }))
    ∧ (∀ time, p.power.measure = .timing 9 time → gap ≤ 25000 →
      ∀ c, c = .zeroCrossing gap ∨ c = .frequencyMeasured gap →
      ∃ t, exec c s = .next t ∧ t.part.power.measure = .none ∧ t.part.mode.startup = .discovery
        ∧ t.part.ring.phase = .discovery ∧ t.part.ring.poll = some ⟨1, .ident, 1, false⟩
        ∧ (hz50 (time + gap) ∨ hz60 (time + gap) →
          (hz50 (time + gap) → t.part.power.freq = .hz50) ∧ (hz60 (time + gap) → t.part.power.freq = .hz60)
          ∧ t.part.power.counting = true
          ∧ t.part.power.crossing = 0 ∧ t.part.mode.mainsLoss = p.mode.mainsLoss)
        ∧ (¬(hz50 (time + gap) ∨ hz60 (time + gap)) → t.part.power.freq = p.power.freq ∧ t.part.power.counting = false
          ∧ t.part.mode.mainsLoss = true))
    ∧ (p.power.measure ≠ .none →
      ∃ t, exec .freqMeasureTimeout s = .next t ∧ t.part.power.measure = .none ∧ t.part.power.counting = false
        ∧ t.part.power.freq = p.power.freq ∧ t.part.mode.mainsLoss = true ∧ t.part.mode.startup = .discovery
        ∧ t.part.ring.phase = .discovery ∧ t.part.notice.pending.getLsbD (noticePosition .fault) = true)
    ∧ (p.power.measure = .none → p.power.freq ≠ .unknown → p.mode.mainsLoss = false →
      ∃ t, exec .mainsLossOnset s = .next t ∧ t.part.mode.mainsLoss = true ∧ t.part.power.counting = false
        ∧ t.part.power.returnRun = 0 ∧ t.part.power.freq = p.power.freq ∧ t.part.mode.faults = p.mode.faults
        ∧ t.part.ring = p.ring ∧ t.part.notice.pending.getLsbD (noticePosition .fault) = true
        ∧ t = s.settled p.mainsOnset)
    ∧ (let q := p.mainsOnset
      q.power.grants = GrantSet.zero ∧ q.power.relay = false ∧ q.power.counting = false
      ∧ q.power.deferral = p.power.deferral ∧ q.power.freq = p.power.freq ∧ q.mode.mainsLoss = true
      ∧ (p.power.relay = true → q.power.onDwell = 0 ∧ q.power.offDwell = 0)
      ∧ (p.power.relay = false → q.power.onDwell = p.power.onDwell ∧ q.power.offDwell = p.power.offDwell)
      ∧ q.mode.mode = p.mode.mode ∧ q.safetyOut = p.safetyOut)
    ∧ (p.power.measure = .none → p.mode.mainsLoss = true → p.power.returnRun = 49 → gap ≤ 25000 →
      ∀ c, c = .zeroCrossing gap ∨ c = .mainsReturn gap →
      ∃ t, exec c s = .next t ∧ t.part.mode.mainsLoss = false ∧ t.part.power.counting = true
        ∧ t.part.power.crossing = 0 ∧ t.part.power.freq = p.power.freq ∧ t.part.mode.faults = p.mode.faults
        ∧ t.part.ring = p.ring ∧ t = s.settled p.mainsEnd
        ∧ p.mainsEnd.power.grants = p.power.grants ∧ p.mainsEnd.power.relay = p.power.relay
        ∧ p.mainsEnd.power.onDwell = p.power.onDwell ∧ p.mainsEnd.power.offDwell = p.power.offDwell)
    ∧ (p.power.measure = .none → p.mode.mainsLoss = true → p.power.returnRun < 10 →
      exec (.zeroCrossing gap) s = .next (s.settled { p with power := { p.power with
        returnRun := if p.power.returnRun = 0 ∨ 25000 < gap then 1 else p.power.returnRun + 1
        returnTime := if p.power.returnRun = 0 ∨ 25000 < gap then 0 else p.power.returnTime + gap } }))
    ∧ (p.power.measure = .none → p.mode.mainsLoss = true → p.power.returnRun = 10 → gap ≤ 25000 →
      let time := p.power.returnTime + gap
      let goesOn (f : FreqClass) : Prop := exec (.zeroCrossing gap) s = .next (s.settled { p with
        power := { p.power with freq := f, returnRun := 11, returnTime := time } })
      let starts := exec (.zeroCrossing gap) s = .next (s.settled { p with
        power := { p.power with returnRun := 0, returnTime := 0 } })
      (hz50 time → p.power.freq ≠ .hz60 → goesOn .hz50) ∧ (hz60 time → p.power.freq ≠ .hz50 → goesOn .hz60)
      ∧ (hz50 time → p.power.freq = .hz60 → starts) ∧ (hz60 time → p.power.freq = .hz50 → starts)
      ∧ (¬hz50 time → ¬hz60 time → starts))
    ∧ (p.power.measure = .none → p.mode.mainsLoss = true → 11 ≤ p.power.returnRun → p.power.returnRun < 49 →
      gap ≤ 25000 → exec (.zeroCrossing gap) s = .next (s.settled { p with
        power.returnRun := p.power.returnRun + 1 }))
    ∧ (p.power.measure = .none → p.mode.mainsLoss = true → 10 ≤ p.power.returnRun → 25000 < gap →
      exec (.zeroCrossing gap) s = .next (s.settled { p with
        power := { p.power with returnRun := 1, returnTime := 0 } }))

/-! ### Boiler and water -/

/-- R63, R65, R66, R68, R69, R70, R71, R72, R73, R74: how a fill and a drain begin: the purpose and the continuation, the flow
counter at 0, the timeout class, and the state that the image in force gives; what follows a completed fill, by its purpose
and its owner; and what a scan completion does in each state of the boiler, after the overheat watch: a fill completes, pauses
or resumes, heating goes on, ends or refills (log entry 57), the keep-hot band and the level delay timer act in READY and
STEAMING, and a drain leaves COOL_WAIT and takes its run-on. The boiler request is clear at the entry to HEATING (log entry
27), HIGH_WET wet with the tank out completes a fill (log entry 38), and a fill that resumes, a DOSE fill too, keeps the
timeout class of its start (log entry 53). -/
def Obligations.FillsAndDrainsStart : Prop :=
  (∀ (p : Part) (purpose : Purpose) (next : Continuation), p.mode.mainsLoss = false →
    let i := p.ring.image
    (i.highWet = false →
      let q := p.startFill purpose next
      q.boiler.purpose = some purpose ∧ q.boiler.continuation = next ∧ q.boiler.flow = 0
      ∧ q.boiler.fillTimeout = (if i.lowWet then 20 else 60)
      ∧ q.boiler.drainTimer = .stopped ∧ q.boiler.runOnTimer = .stopped ∧ q.boiler.coolWaitTimer = .stopped
      ∧ q.boiler.idleDrainTimer = .stopped ∧ q.boiler.levelTimer = .stopped
      ∧ (i.tankPresent = true → q.boiler.state = (if purpose = .topup then .topping else .filling)
        ∧ q.boiler.fillTimer = .running (if i.lowWet then 20 else 60) ∧ q.notice = p.notice)
      ∧ (i.tankPresent = false → q.boiler.state = .fillPaused ∧ q.boiler.pauseReason = some .tankOut
        ∧ q.boiler.fillTimer = .stopped ∧ q.power.boilerRequest = false
        ∧ q.notice.pending.getLsbD (noticePosition .waterNeeded) = true))
    ∧ (let q := p.startDrain purpose next
      let direct := purpose = .blowdown ∨ purpose = .flush ∨ ∃ t, i.boilerTemp = some t ∧ t ≤ 850
      q.boiler.purpose = some purpose ∧ q.boiler.continuation = next ∧ q.boiler.flow = 0
      ∧ q.power.boilerRequest = false ∧ q.boiler.idleDrainTimer = .stopped ∧ q.boiler.levelTimer = .stopped
      ∧ q.boiler.fillTimer = .stopped ∧ q.notice = p.notice ∧ q.scale = p.scale
      ∧ (¬direct → q.boiler.state = .coolWait ∧ q.boiler.coolWaitTimer = .running 1200)
      ∧ (direct → q.boiler.state = .draining ∧ q.boiler.coolWaitTimer = .stopped
        ∧ (i.lowWet = true → q.boiler.drainTimer = .running 90)
        ∧ (i.lowWet = false → q.boiler.drainTimer = .stopped ∧ q.boiler.runOnTimer = .running 10))))
  ∧ (∀ p : Part,
    (∀ t, p.ring.image.boilerTemp = some t →
      (1500 ≤ t → p.boiler.overheat = false →
        p.overheatWatch = Part.raiseFault { p with boiler.overheat := true } .boilerOverheat)
      ∧ (1500 ≤ t → p.boiler.overheat = true → p.overheatWatch = p)
      ∧ (t < 1400 → p.overheatWatch = { p with boiler.overheat := false })
      ∧ (1400 ≤ t → t < 1500 → p.overheatWatch = p))
    ∧ (p.ring.image.boilerTemp = none → p.overheatWatch = p))
  ∧ (∀ p : Part,
    let volume := p.boiler.flow / 2
    let done : Part := { p with boiler := { p.boiler with lastFill := volume, flow := 0, fillTimer := .stopped } }
    (p.boiler.purpose = some .topup →
      let q := done.accrue volume
      p.fillDone = if q.maySteam then q.boilerRest .steaming else q.boilerReady)
    ∧ (p.boiler.purpose = some .normal → p.boiler.owner = .cooking →
      p.fillDone = done.startHeating 980 (if p.scale.flush then .flushDrain else .none))
    ∧ (p.boiler.purpose = some .normal → p.boiler.owner = .none → p.fillDone = done.boilerReady)
    ∧ (p.boiler.purpose = some .normal → p.boiler.owner = .descale →
      p.fillDone = done.startHeating p.boiler.target .report)
    ∧ (p.boiler.purpose = some .dose ∨ p.boiler.purpose = some .rinse →
      p.fillDone = done.boilerReady.descaleFilled)
    ∧ (∀ target next, (p.startHeating target next).boiler.state = .heating
      ∧ (p.startHeating target next).boiler.target = target
      ∧ (p.startHeating target next).boiler.continuation = next
      ∧ (p.startHeating target next).power.boilerRequest = false)
    ∧ (p.maySteam = true ↔ p.boiler.owner = .cooking ∧ p.climate.steamWanted = true ∧ p.scale.lock = false
      ∧ p.scale.suspended = false ∧ p.ring.image.lowWet = true))
  ∧ ∀ p : Part,
    let b := p.overheatWatch
    let q := p.scanBoiler
    let i := b.ring.image
    let state := b.boiler.state
    let steamable := b.boiler.owner = .cooking ∧ b.scale.lock = false ∧ b.scale.suspended = false
    (state = .empty ∨ state = .fault → q = b)
    ∧ (state = .filling ∨ state = .topping →
      (i.highWet = true → q = b.fillDone)
      ∧ (i.highWet = false → i.tankPresent = true → q = b)
      ∧ (i.highWet = false → i.tankPresent = false → q.boiler = { b.boiler with
          state := .fillPaused, fillTimer := .stopped, pauseReason := some .tankOut, tankSeenOut := true }
        ∧ q.power.boilerRequest = false ∧ q.notice.pending.getLsbD (noticePosition .waterNeeded) = true))
    ∧ (state = .fillPaused →
      (i.tankPresent = false → q = { b with boiler.tankSeenOut := true })
      ∧ (i.tankPresent = true → b.boiler.tankSeenOut = false → q = b)
      ∧ (i.tankPresent = true → b.boiler.tankSeenOut = true → i.highWet = true → q = b.fillDone)
      ∧ (i.tankPresent = true → b.boiler.tankSeenOut = true → i.highWet = false → b.mode.mainsLoss = false →
        q.boiler = { b.boiler with
          state := if b.boiler.purpose = some .topup then .topping else .filling
          fillTimer := .running b.boiler.fillTimeout, pauseReason := none, tankSeenOut := false }))
    ∧ (state = .heating →
      (i.lowWet = false → q = Part.startFill { b with power.boilerRequest := false } .normal .heating)
      ∧ (i.lowWet = true → i.boilerTemp = none → q = { b with power.boilerRequest := false })
      ∧ ∀ t, i.lowWet = true → i.boilerTemp = some t →
        (t < b.boiler.target → q = { b with power.boilerRequest := true })
        ∧ (b.boiler.target ≤ t →
          (b.boiler.owner = .descale → q = b.boilerReady.descaleHeated)
          ∧ (b.boiler.owner ≠ .descale → b.boiler.continuation = .flushDrain → q = b.startDrain .flush .refill)
          ∧ (b.boiler.owner ≠ .descale → b.boiler.continuation ≠ .flushDrain →
            let r : Part := { b with power.boilerRequest := false }
            q = if r.maySteam then r.boilerRest .steaming else r.boilerReady)))
    ∧ (state = .ready ∨ state = .steaming → q.boiler.state = state ∧ q.notice = b.notice
      ∧ (i.highWet = true → q.boiler.levelTimer = .stopped)
      ∧ (i.highWet = false → steamable → b.boiler.levelTimer = .stopped → q.boiler.levelTimer = .running 5)
      ∧ (i.highWet = false → ¬steamable ∨ b.boiler.levelTimer ≠ .stopped →
        q.boiler.levelTimer = b.boiler.levelTimer)
      ∧ (state = .ready → b.boiler.owner = .cooking →
        (i.lowWet = false ∨ i.boilerTemp = none → q.power.boilerRequest = false)
        ∧ ∀ t, i.lowWet = true → i.boilerTemp = some t →
          q.power.boilerRequest = if 980 ≤ t then false else if t < 950 then true else b.power.boilerRequest)
      ∧ (state = .steaming ∨ b.boiler.owner ≠ .cooking → q.power.boilerRequest = b.power.boilerRequest))
    ∧ (state = .coolWait →
      ((∃ t, i.boilerTemp = some t ∧ t ≤ 850) → q = b.enterDraining)
      ∧ (¬(∃ t, i.boilerTemp = some t ∧ t ≤ 850) → q = b))
    ∧ (state = .draining →
      (b.boiler.runOnTimer = .stopped → i.lowWet = false → q = { b with boiler := { b.boiler with
        drainTimer := .stopped, runOnTimer := if b.mode.mainsLoss then .paused 10 else .running 10 } })
      ∧ (b.boiler.runOnTimer ≠ .stopped ∨ i.lowWet = true → q = b))

/-- R67, R71, R73, R74, R75, R77, R95: what the expiry of each boiler timer does while it runs in its state. -/
def Obligations.BoilerTimersExpire : Prop :=
  ∀ (s : State) (n : Nat),
    let p := s.part
    (p.boiler.fillTimer = .running n → p.boiler.state = .filling ∨ p.boiler.state = .topping →
      let dry := p.boiler.flow = 0 ∧ p.ring.image.tankPresent = true ∧ p.ring.image.tankLow = false
      (dry → exec .fillTimeout s = .next (s.settled (p.raiseFault .fillFault)))
      ∧ (¬dry → p.boiler.purpose = some .dose →
        exec .fillTimeout s = .next (s.settled p.boilerEndFill.descaleDoseTimeout))
      ∧ (¬dry → p.boiler.purpose ≠ some .dose →
        exec .fillTimeout s = .next (s.settled (Part.raiseNotice { p with
          boiler := { p.boiler with
            state := .fillPaused, fillTimer := .stopped, pauseReason := some .noWater, tankSeenOut := false }
          power.boilerRequest := false } .waterNeeded))))
    ∧ (p.boiler.drainTimer = .running n → p.boiler.state = .draining →
      exec .drainTimerExpiry s = .next (s.settled (p.raiseFault .drainTimeout)))
    ∧ (p.boiler.runOnTimer = .running n → p.boiler.state = .draining →
      exec .runOnExpiry s = .next (s.settled p.drainDone)
      ∧ (p.boiler.purpose = some .blowdown → p.boiler.continuation = .refill → p.boiler.owner = .cooking →
        p.climate.usesSteam = true → p.program.state ≠ .boundaryWait →
        let q := p.drainDone
        q.boiler.inFlight = false ∧ q.scale.owed = p.scale.owed - 1
        ∧ (p.ring.image.highWet = false → q.boiler.purpose = some .normal ∧ q.boiler.continuation = .reheat
          ∧ (q.boiler.state = .filling ∨ q.boiler.state = .fillPaused)))
      ∧ (p.boiler.purpose = some .normal → p.boiler.owner = .none →
        let q := p.drainDone
        q.boiler.state = .empty ∧ q.boiler.purpose = none ∧ q.boiler.runOnTimer = .stopped
        ∧ q.power.boilerRequest = false ∧ q.scale.load = p.scale.load
        ∧ q.store.served 14 = .scale p.scale.load p.scale.remainder))
    ∧ (p.boiler.coolWaitTimer = .running n → p.boiler.state = .coolWait →
      exec .coolWaitExpiry s = .next (s.settled p.enterDraining) ∧ p.enterDraining.boiler.state = .draining)
    ∧ (p.boiler.idleDrainTimer = .running n → p.boiler.state = .ready →
      exec .idleDrainExpiry s = .next (s.settled (p.startDrain .normal .none)))
    ∧ (p.boiler.levelTimer = .running n → p.boiler.state = .ready ∨ p.boiler.state = .steaming →
      exec .levelDelayExpiry s = .next (s.settled (p.startFill .topup .none)))

/-- R85, R87, R89, R90, R95: one accrual of a top-up volume: the load and the remainder, the evaporation in closed form
with the credit spent before owed rises and the discard at five, and the lock; and the pull-in of a completed NORMAL
drain. -/
def Obligations.ScaleAccrual : Prop :=
  ∀ (p : Part) (volume : Nat), p.scale.owed ≤ 5 → p.scale.credit ≤ 2 → 0 < p.store.num 17 →
    let hardness := p.store.num 12
    let interval := p.store.num 17
    let due := p.store.num 13
    let t := volume * hardness + p.scale.remainder
    let turns := (p.scale.progress + volume) / interval
    let room := p.scale.credit + (5 - p.scale.owed)
    let q := p.accrue volume
    q.scale.load = min 65535 (p.scale.load + t / 100) ∧ q.scale.remainder = t % 100
    ∧ (turns ≤ room → q.scale.progress = (p.scale.progress + volume) % interval
      ∧ q.scale.credit = p.scale.credit - turns ∧ q.scale.owed = p.scale.owed + (turns - p.scale.credit))
    ∧ (room < turns → q.scale.progress = interval - 1 ∧ q.scale.credit = 0 ∧ q.scale.owed = 5)
    ∧ (q.scale.lock = true ↔ min (due * 5 / 4) 65535 ≤ q.scale.load ∨ p.descale.record.rinseOwed = true)
    ∧ q.store.served 15 = .blowdown q.scale.progress q.scale.owed q.scale.credit q.scale.flush
    ∧ (p.scale.lastQueued + 100 ≤ q.scale.load →
      q.store.served 14 = .scale q.scale.load q.scale.remainder ∧ q.scale.lastQueued = q.scale.load)
    ∧ q.scale.flush = p.scale.flush ∧ q.boiler = p.boiler ∧ q.climate = p.climate
    ∧ (let r := p.scaleDrained (some .normal)
      (0 < p.scale.owed → r.scale.owed = p.scale.owed - 1 ∧ r.scale.credit = p.scale.credit
        ∧ r.scale.progress = p.scale.progress)
      ∧ (p.scale.owed = 0 → interval / 2 ≤ p.scale.progress → p.scale.credit < 2 →
        r.scale.owed = 0 ∧ r.scale.credit = p.scale.credit + 1 ∧ r.scale.progress = 0)
      ∧ (p.scale.owed = 0 → p.scale.progress < interval / 2 ∨ p.scale.credit = 2 →
        r.scale.owed = 0 ∧ r.scale.credit = p.scale.credit ∧ r.scale.progress = p.scale.progress)
      ∧ r.scale.load = p.scale.load ∧ r.store.served 14 = .scale p.scale.load p.scale.remainder)

/-! ### Programs -/

/-- R117, R119, R122, R133, R134: PROGRAM_CLEAR, STAGE_APPEND, PROGRAM_START, PROGRAM_PAUSE, PROGRAM_RESUME and
PROGRAM_ABORT: their refusals by the executor's state and what an accepted one leaves. -/
def Obligations.ProgramRequests : Prop :=
  ∀ s : State, s.listening →
    let p := s.part
    let g := p.program
    let runs := g.state ∈ [.running, .waiting, .paused, .boundaryWait]
    let span := p.descale.phase ≠ .idle ∧ ¬(p.descale.phase = .awaitSolution ∧ p.descale.prompt = some .start)
    let refused (q : Request) (c : ResultCode) : Prop := exec q.command s = .next (s.replied q ⟨c, []⟩)
    (∀ action setpoint moist, s.admits (.programClear action setpoint moist) →
      let q : Request := .programClear action setpoint moist
      let hold := max 600 (min 900 setpoint.toInt)
      (1 < action.toNat ∨ 1 < moist.toNat → refused q .badValue)
      ∧ (action.toNat ≤ 1 → moist.toNat ≤ 1 → runs → refused q .refusedState)
      ∧ (action.toNat ≤ 1 → moist.toNat ≤ 1 → ¬runs → exec q.command s = .next
        { s.replied q ⟨if hold = setpoint.toInt then .ok else .clamped, []⟩ with
          part.program := { g with
            header := ⟨if action = 0 then .stop else .hold, hold, decide (moist = 1)⟩
            stages := [], index := 0, elapsed := 0, state := .empty } }))
    ∧ (∀ b, s.admits (.stageAppend b) →
      (checkStage b = none → refused (.stageAppend b) .badValue)
      ∧ ∀ st clamped, checkStage b = some (st, clamped) →
        let noHeat := st.params.mode ≠ .steam ∧ p.store.groupMax st.params.mode = 0
        (16 ≤ g.stages.length ∨ noHeat → refused (.stageAppend b) .refusedState)
        ∧ (g.stages.length < 16 → ¬noHeat → exec (.stageAppend b) s = .next
          { s.replied (.stageAppend b) ⟨if clamped then .clamped else .ok, []⟩ with
            part.program := { g with stages := g.stages ++ [st], state := if runs then g.state else .loaded } }))
    ∧ (∀ presence index, s.admits (.programStart presence index) →
      let q : Request := .programStart presence index
      let i := if presence = 1 then index.toNat else 0
      let steams := ∃ st ∈ g.stages.drop i, st.params.mode = .steam ∨ st.params.mode = .combi
      (1 < presence.toNat → refused q .badValue)
      ∧ (presence.toNat ≤ 1 → g.state = .empty ∨ runs → refused q .refusedState)
      ∧ (presence.toNat ≤ 1 → g.state ≠ .empty → ¬runs →
        (g.stages.length ≤ i → refused q .badValue)
        ∧ (i < g.stages.length → span → refused q .refusedState)
        ∧ (i < g.stages.length → ¬span → p.scale.lock = true → steams → refused q .locked)
        ∧ (i < g.stages.length → ¬span → ¬(p.scale.lock = true ∧ steams) →
          exec q.command s = .next (s.carried q ⟨.ok, []⟩ (p.startProgram i)))))
    ∧ (s.admits .programPause →
      (g.state = .running ∨ g.state = .waiting → exec .programPause s = .next (s.carried .programPause ⟨.ok, []⟩
        { p.forcedOff with program := { g with
            state := .paused, resume := some (g.state, g.reason), reason := some .host } }))
      ∧ (g.state = .paused → exec .programPause s = .next (s.carried .programPause ⟨.ok, []⟩
        { p.forcedOff with program := { g with reason := some .host } }))
      ∧ (g.state ∉ [.running, .waiting, .paused] → refused .programPause .refusedState))
    ∧ (s.admits .programResume →
      let rewritten := match g.written with
        | some c => p.writeClimate c
        | none => p
      (g.state = .paused → g.reason = some .host → exec .programResume s = .next (s.carried .programResume ⟨.ok, []⟩
        (if rewritten.mode.mainsLoss then { rewritten with program.reason := some .mains }
        else rewritten.resumeProgram)))
      ∧ (g.state ≠ .paused ∨ g.reason ≠ some .host → refused .programResume .refusedState))
    ∧ (s.admits .programAbort →
      (runs → exec .programAbort s = .next (s.carried .programAbort ⟨.ok, []⟩
        (Part.raiseNotice { p.endCooking with program := { g with
            state := .aborted, reason := none, resume := none, written := none, settlement := none } } .programEnd)))
      ∧ (¬runs → refused .programAbort .refusedState))

/-- R14, R122 to R132: how a program starts at a stage, when a stage passes its preheat gate at its beginning, a start of
cooking with the door open included (log entry 23), what STAGE_CONFIRM and STAGE_SKIP answer by state, reason
and step, what a boundary does by the owed count, how a settlement makes the executor leave BOUNDARY_WAIT and go on to the
next stage or to the end action, whose moist HOLD is steam-tested by the COMBI rules, what a scan completion does: the degraded
conditions in their order, then the CORE half of the end condition, and what a second of the stage timer does. That the entry
to BOUNDARY_WAIT clears the steam-wanted flag also where the settlement comes at once is log entry 59; that the step becomes
FINISHED at every boundary, a skipped stage's too, is log entry 61. A tick of a stage timer
that the door has stopped changes nothing (log entry 4). -/
def Obligations.StageControl : Prop :=
  (∀ (p : Part) (i : Nat) (st : Stage), p.program.stages[i]? = some st → p.mode.mainsLoss = false →
    let q := p.startProgram i
    q.program.index = i ∧ q.program.elapsed = 0 ∧ q.program.stages = p.program.stages
    ∧ (st.promptPoint = .atStart → q.program.state = .waiting ∧ q.program.reason = some .prompt
      ∧ q.program.step = .notBegun ∧ q.program.written = none
      ∧ q.notice.pending.getLsbD (noticePosition .prompt) = true)
    ∧ (st.promptPoint ≠ .atStart → q.program.written = some st.params
      ∧ q.notice.pending.getLsbD (noticePosition .stageChange) = true))
  ∧ (∀ (p : Part) (st : Stage), p.program.stages[p.program.index]? = some st → st.preheat = true →
    let c := (p.writeClimate st.params).climate
    let q := p.beginStage st
    let hot := c.state = .regulate ∨ (c.state = .doorPause ∧ c.returnTo = some .regulate)
    (hot → q.program.preheatReached = true ∧ q.notice.pending.getLsbD (noticePosition .preheatReached) = true)
    ∧ (st.params.mode ≠ .steam → st.endCondition ≠ .core → st.params.delta = none →
      (hot → st.promptPoint ≠ .afterPreheat → q.program.state = .running ∧ q.program.step = .counting)
      ∧ (hot → st.promptPoint = .afterPreheat → q.program.state = .waiting ∧ q.program.reason = some .prompt
        ∧ q.program.step = .preheating ∧ q.notice.pending.getLsbD (noticePosition .prompt) = true)
      ∧ (¬hot → p.program.preheatReached = false → q.program.state = .running ∧ q.program.step = .preheating
        ∧ q.program.preheatReached = false)))
  ∧ (∀ p : Part,
    let g := p.program
    let q := p.testDegraded false
    let core (st : Stage) (t : Int) : Prop := q.program.state = .running ∧ q.program.step = .counting
      ∧ q.program.stages[q.program.index]? = some st ∧ st.endCondition ∈ [.core, .timeOrCore]
      ∧ q.ring.image.tcore = some t ∧ st.coreTarget ≤ t
    (∀ st t, core st t → p.scanProgram = q.finishStage st)
    ∧ ((∀ st t, ¬core st t) → p.scanProgram = q)
    ∧ (∀ st, (st.promptPoint = .atEnd → p.finishStage st = Part.raiseNotice { p with program := { g with
          step := .finished, state := .waiting, reason := some .prompt } } .prompt)
      ∧ (st.promptPoint ≠ .atEnd → p.finishStage st = p.boundary))
    ∧ (∀ st, g.state = .running → g.step = .preheating ∨ g.step = .counting → g.stages[g.index]? = some st →
      let steamless := st.params.mode = .steam ∧ (p.steamFault = true ∨ p.scale.lock = true)
      let waterless := st.params.mode = .steam ∧ p.boiler.state = .fillPaused
      let probeless := st.endCondition = .core ∧ p.ring.image.tcore = none
      let waits (r : WaitReason) : Prop := q = { p with program := { g with state := .waiting, reason := some r } }
      (steamless → waits .steamFault) ∧ (¬steamless → waterless → waits .water)
      ∧ (¬steamless → ¬waterless → probeless → waits .probeLost)
      ∧ (¬steamless → ¬waterless → ¬probeless →
        (g.step = .counting ∨ g.preheatReached = false → q = p)
        ∧ (g.step = .preheating → g.preheatReached = true → q = p.passGate)))
    ∧ (g.state ≠ .running ∨ (g.step ≠ .preheating ∧ g.step ≠ .counting) → q = p))
  ∧ (∀ (p : Part) (how : Settlement), p.program.state = .boundaryWait →
    let g := p.program
    let q := p.tellExecutor how
    let left : Part := { p with program.state := .running, program.settlement := none }
    let last := g.stages.length ≤ g.index + 1
    let holds := g.header.endAction = .hold ∧ p.store.groupMax .hotAir ≠ 0
    (¬last → q = left.enterStage (g.index + 1))
    ∧ (last → ¬holds → q = left.endCooking.programEnded)
    ∧ (last → holds → q = (left.enterHold g.header.holdSetpoint g.header.moist).programEnded
      ∧ (g.header.moist = true → p.climate.state = .preheat ∨ p.climate.state = .regulate → p.scale.lock = false →
        p.mode.mainsLoss = false → ∀ h, p.ring.image.humidity = some h →
        (h < 114 → q.climate.steamWanted = true) ∧ (120 ≤ h → q.climate.steamWanted = false)
        ∧ (114 ≤ h → h < 120 → q.climate.steamWanted = p.climate.steamWanted))))
  ∧ ∀ s : State,
    let p := s.part
    let g := p.program
    let finished : Part := { p with program.step := .finished, program.reason := none, program.settlement := none }
    (g.stages[g.index]?.isSome →
      (p.scale.owed < 4 → p.boundary = finished.goOn)
      ∧ (4 ≤ p.scale.owed → p.boundary = Part.requestBlowdown { finished with
        program.state := .boundaryWait, climate.steamWanted := false }))
    ∧ (s.listening → s.admits .stageSkip →
      (g.state = .running ∨ g.state = .waiting →
        exec .stageSkip s = .next (s.carried .stageSkip ⟨.ok, []⟩ p.boundary))
      ∧ (g.state ≠ .running → g.state ≠ .waiting →
        exec .stageSkip s = .next (s.replied .stageSkip ⟨.refusedState, []⟩)))
    ∧ (∀ st, g.stages[g.index]? = some st → s.listening → s.admits .stageConfirm →
      let answered (c : ResultCode) : Prop := exec .stageConfirm s = .next (s.replied .stageConfirm ⟨c, []⟩)
      let accepted (q : Part) : Prop := exec .stageConfirm s = .next (s.carried .stageConfirm ⟨.ok, []⟩ q)
      (g.state = .waiting → g.reason = some .prompt →
        (g.step = .notBegun → accepted (p.beginStage st))
        ∧ (g.step = .preheating → accepted (Part.returnRunning { p with program.step := .counting }))
        ∧ (g.step = .finished → accepted p.boundary))
      ∧ (g.state = .waiting → g.reason = some .probeLost →
        (p.ring.image.tcore.isSome → accepted p.returnRunning) ∧ (p.ring.image.tcore = none → answered .refusedState))
      ∧ (g.state = .waiting → g.reason = some .steamFault →
        (p.scale.lock = true → answered .locked)
        ∧ (p.scale.lock = false → p.steamFault = true → answered .refusedState)
        ∧ (p.scale.lock = false → p.steamFault = false → accepted p.returnRunning))
      ∧ (g.state = .waiting → g.reason = some .water → answered .refusedState)
      ∧ (g.state = .running → st.endCondition = .confirm → g.step = .counting → accepted (p.finishStage st))
      ∧ (g.state = .running → st.endCondition ≠ .confirm ∨ g.step ≠ .counting → answered .refusedState)
      ∧ (g.state = .waiting → g.reason = some .prompt → g.step = .counting → answered .refusedState)
      ∧ (g.state ≠ .running → g.state ≠ .waiting → answered .refusedState))
    ∧ (s.listening → s.admits .stageConfirm → g.state ≠ .running → g.state ≠ .waiting →
      exec .stageConfirm s = .next (s.replied .stageConfirm ⟨.refusedState, []⟩))
    ∧ (∀ st, g.state = .running → g.step = .counting → g.stages[g.index]? = some st →
      let second : Part := { p with program.elapsed := min 86400 (g.elapsed + 1) }
      (p.climate.state = .doorPause ∧ st.doorContinue = false → exec .stageTimerTick s = .next (s.settled p))
      ∧ (p.climate.state ≠ .doorPause ∨ st.doorContinue = true →
        (st.endCondition ∉ [.time, .timeOrCore] ∨ second.program.elapsed < st.duration →
          exec .stageTimerTick s = .next (s.settled second))
        ∧ (st.endCondition ∈ [.time, .timeOrCore] → st.duration ≤ second.program.elapsed →
          exec .stageTimerTick s = .next (s.settled (second.finishStage st)))))

/-! ### Drains, descaling, modes and faults -/

/-- R75, R82, R102, R104, R107, R111, R114, R137: BOILER_DRAIN by owner and state; DESCALE_START, DESCALE_CONFIRM and
DESCALE_ABORT by the working phase; the expiry of the soak timer; and the water step of the start-up: the recovery of a
descaling, the drain of a boiler that holds water, and the entry to ACTIVE or SAFE_STOP. That a request finds a boiler busy
that heats or steams without an owner is log entry 26. -/
def Obligations.WaterRequests : Prop :=
  (∀ s : State,
    let p := s.part
    let d := p.descale
    let runs := p.program.state ∈ [.running, .waiting, .paused, .boundaryWait]
    let cooking := p.climate.state ∈ [.preheat, .regulate, .doorPause]
    let moving := p.boiler.state ∈ [.filling, .topping, .coolWait, .draining]
    let resting := p.boiler.state ∈ [.empty, .ready]
    let refused (q : Request) (c : ResultCode) : Prop := exec q.command s = .next (s.replied q ⟨c, []⟩)
    let accepted (q : Request) (c : ResultCode) (r : Part) : Prop :=
      exec q.command s = .next (s.carried q ⟨c, []⟩ r)
    (s.listening → s.admits .boilerDrain →
      (p.boiler.owner ≠ .none ∨ p.boiler.state = .fault → refused .boilerDrain .refusedState)
      ∧ (p.boiler.owner = .none → p.boiler.state = .ready →
        accepted .boilerDrain .ok (p.startDrain .normal .none))
      ∧ (p.boiler.owner = .none → p.boiler.state ∈ [.empty, .coolWait, .draining] → accepted .boilerDrain .ok p)
      ∧ (p.boiler.owner = .none → p.boiler.state ∈ [.filling, .fillPaused, .topping] → refused .boilerDrain .busy))
    ∧ (∀ presence minutes, s.listening → s.admits (.descaleStart presence minutes) →
      let q : Request := .descaleStart presence minutes
      let soak := if presence = 1 then max 10 (min 60 minutes.toNat) else 30
      let code : ResultCode := if presence = 1 ∧ soak ≠ minutes.toNat then .clamped else .ok
      (1 < presence.toNat → refused q .badValue)
      ∧ (presence.toNat ≤ 1 → d.phase ≠ .idle ∨ cooking ∨ runs → refused q .refusedState)
      ∧ (presence.toNat ≤ 1 → d.phase = .idle → ¬cooking → ¬runs →
        (moving → refused q .busy) ∧ (¬moving → ¬resting → refused q .refusedState)
        ∧ (resting → accepted q code (Part.raiseNotice { p with descale := { d with
            soakMinutes := soak, phase := .awaitSolution, prompt := some .start
            record := ⟨.awaitSolution, 0, d.record.rinseOwed⟩ } } .descaleStep))))
    ∧ (s.listening → s.admits .descaleConfirm →
      let started := d.phase = .awaitSolution ∧ d.prompt = some .start
      (started → cooking ∨ runs → refused .descaleConfirm .refusedState)
      ∧ (started → ¬cooking → ¬runs → (moving → refused .descaleConfirm .busy)
        ∧ (¬moving → ¬resting → refused .descaleConfirm .refusedState)
        ∧ (resting → accepted .descaleConfirm .ok (Part.enterDrainFirst { p with boiler.owner := .descale })))
      ∧ (d.phase = .awaitSolution → ¬started → accepted .descaleConfirm .ok p.enterDose)
      ∧ (d.phase = .awaitRinseWater → accepted .descaleConfirm .ok (Part.directFill { p with descale := { d with
          phase := .rinse, prompt := none, rinseStep := some .fill
          record := { d.record with phase := .rinse } } } .rinse))
      ∧ (d.phase ∉ [.awaitSolution, .awaitRinseWater] → refused .descaleConfirm .refusedState))
    ∧ (s.listening → s.admits .descaleAbort →
      (d.phase = .awaitSolution → d.prompt = some .start → accepted .descaleAbort .ok
        (Part.raiseNotice { p with descale := { d with
          phase := .idle, prompt := none, outcome := .aborted, record := { d.record with phase := .idle } } }
          .descaleStep))
      ∧ (d.phase ∈ [.dose, .warm, .soak] ∨ (d.phase = .awaitSolution ∧ d.prompt ≠ some .start) →
        accepted .descaleAbort .ok (p.setRinseOwed true).enterSoakDrain)
      ∧ (d.phase = .drainFirst → accepted .descaleAbort .ok (Part.raiseNotice { p with
          boiler := { p.boiler with owner := .none, continuation := .none }
          descale := { d with
            phase := .idle, prompt := none, held := none, rinseStep := none, soakTimer := .stopped, outcome := .aborted
            record := { d.record with phase := .idle } } } .descaleStep))
      ∧ (d.phase = .soakDrain → d.record.rinseOwed = false → accepted .descaleAbort .ok (p.setRinseOwed true))
      ∧ (d.phase = .idle ∨ d.phase = .awaitRinseWater ∨ d.phase = .rinse
          ∨ (d.phase = .soakDrain ∧ d.record.rinseOwed = true) → refused .descaleAbort .refusedState))
    ∧ (∀ n, d.soakTimer = .running n → d.phase = .soak →
      exec .soakTimerExpiry s = .next (s.settled p.enterSoakDrain)
      ∧ p.enterSoakDrain.descale.phase = .soakDrain ∧ p.enterSoakDrain.descale.soakTimer = .stopped))
  ∧ ∀ p : Part,
    let stored := p.descale.record
    let recovers := stored.phase ∉ [.idle, .awaitSolution, .drainFirst]
    let q := p.waterStep
    (p.mode.startup ≠ .water → q = p)
    ∧ (p.mode.startup = .water → q.mode.mode = (if p.critical then .safeStop else .active) ∧ q.mode.startup = .done
      ∧ q.mode.faults = p.mode.faults
      ∧ (recovers → q.descale.phase = .soakDrain ∧ q.descale.record = ⟨.soakDrain, stored.rinses, true⟩
        ∧ q.descale.recovered = true ∧ q.scale.lock = true ∧ q.boiler.owner = .descale
        ∧ q.store.served 16 = .descale ⟨.soakDrain, stored.rinses, true⟩
        ∧ (p.boiler.state = .fault → q.boiler.state = .fault ∧ q.descale.held = some (.drain .normal))
        ∧ (p.boiler.state = .empty → q.descale.held = none ∧ q.boiler.purpose = some .normal
          ∧ (q.boiler.state = .coolWait ∨ q.boiler.state = .draining)))
      ∧ (¬recovers → q.descale.phase = p.descale.phase ∧ q.boiler.owner = p.boiler.owner
        ∧ q.descale.record = (if stored.phase = .idle then stored else ⟨.idle, 0, false⟩)
        ∧ (p.boiler.state = .fault → q.boiler = p.boiler)
        ∧ (p.boiler.state ≠ .fault → p.ring.image.lowWet = false → p.ring.image.highWet = false → q.boiler = p.boiler)
        ∧ (p.boiler.state ≠ .fault → p.ring.image.lowWet = true ∨ p.ring.image.highWet = true →
          q.boiler.purpose = some .normal ∧ q.boiler.continuation = .none
          ∧ (q.boiler.state = .coolWait ∨ q.boiler.state = .draining))))

/-- R77, R95, R137, R140, R141, R142, R145: HOLD_ENTER with its HOLD climate, HOLD_EXIT, which may abandon a blowdown in flight
and then ends its refill (log entry 42), and lets the refill of a blowdown whose drain has completed run on with owner NONE
(log entry 49), the hold timer's expiry, STANDBY_ENTER and STOP. -/
def Obligations.ModeRequests : Prop :=
  ∀ s : State,
    let p := s.part
    let runs := p.program.state ∈ [.running, .waiting, .paused, .boundaryWait]
    let cooking := p.climate.state ∈ [.preheat, .regulate, .doorPause]
    let refused (q : Request) (c : ResultCode) : Prop := exec q.command s = .next (s.replied q ⟨c, []⟩)
    let accepted (q : Request) (c : ResultCode) (r : Part) : Prop :=
      exec q.command s = .next (s.carried q ⟨c, []⟩ r)
    (∀ setpoint moist, s.listening → s.admits (.holdEnter setpoint moist) →
      let q : Request := .holdEnter setpoint moist
      let hold := max 600 (min 900 setpoint.toInt)
      let barred := runs ∨ p.descale.phase ≠ .idle ∨ p.store.num 4 = 0
      (1 < moist.toNat → refused q .badValue)
      ∧ (moist.toNat ≤ 1 → barred → refused q .refusedState)
      ∧ (moist.toNat ≤ 1 → ¬barred → ∃ r, accepted q (if hold = setpoint.toInt then .ok else .clamped) r
        ∧ r.mode.mode = .hold ∧ r.mode.holdSetpoint = some hold ∧ r.mode.holdMoist = decide (moist = 1)
        ∧ r.mode.holdTimer = .running (p.store.num 18 * 60) ∧ r.report.timer = .stopped ∧ r.report.pending = false
        ∧ r.climate.params = some ⟨if moist = 1 then .combi else .hotAir, hold, 1,
            if moist = 1 then some 60 else none, none, none⟩))
    ∧ (∀ flag, s.listening → s.admits (.holdExit flag) →
      let refilling := p.boiler.state ∈ [.filling, .fillPaused] ∧ p.boiler.owner = .cooking
        ∧ p.boiler.continuation = .reheat
      (1 < flag.toNat → refused (.holdExit flag) .badValue)
      ∧ (flag.toNat ≤ 1 → p.mode.mode ≠ .hold → refused (.holdExit flag) .refusedState)
      ∧ (flag.toNat ≤ 1 → p.mode.mode = .hold →
        accepted (.holdExit flag) .ok
          (if flag = 1 ∧ p.boiler.inFlight = true then p.abandonBlowdown.endHold.endRefill
            else if refilling then Part.refuseWaiting { p.endHold with boiler.owner := .none, boiler.continuation := .none }
            else p.endHold)
        ∧ (refilling → p.boiler.waiting = false →
          Part.refuseWaiting { p.endHold with boiler.owner := .none, boiler.continuation := .none }
            = { p.endHold with boiler := { p.boiler with owner := .none, continuation := .none } })
        ∧ p.abandonBlowdown.endHold.endRefill.boiler.state = (if p.ring.image.lowWet then .ready else .empty)
        ∧ p.endHold.mode.mode = .active ∧ p.endHold.mode.holdTimer = .stopped ∧ p.endHold.mode.holdSetpoint = none))
    ∧ (∀ n, p.mode.holdTimer = .running n → p.mode.mode = .hold →
      exec .holdTimerExpiry s = .next (s.settled (p.endHold.raiseNotice .holdEnd)))
    ∧ (s.listening → s.admits .standbyEnter →
      (p.descale.phase ≠ .idle ∨ cooking ∨ runs → refused .standbyEnter .refusedState)
      ∧ (p.descale.phase = .idle → ¬cooking → ¬runs →
        (p.boiler.state ∈ [.filling, .topping] → refused .standbyEnter .busy)
        ∧ (p.boiler.state ∈ [.fillPaused, .heating, .steaming, .fault] → refused .standbyEnter .refusedState)
        ∧ (p.boiler.state ∈ [.empty, .ready, .coolWait, .draining] → p.mode.mode = .active →
          accepted .standbyEnter .ok { p with mode.mode := .standbyPending })))
    ∧ (s.listening → s.admits .stop →
      let ending := if runs then p.abortProgram else p.endCooking
      (p.mode.mode = .active → accepted .stop .ok (ending.descaleAbort.1).stopBoiler)
      ∧ (p.mode.mode = .hold → accepted .stop .ok p.endHold.stopBoiler)
      ∧ (p.mode.mode = .standbyPending → accepted .stop .ok (Part.stopBoiler { p with mode.mode := .active }))
      ∧ (p.mode.mode = .safeStop → accepted .stop .ok (p.descaleAbort.1).stopBoiler))

/-- R81, R146, R147, R149, section 8.5: a latched fault is in the fault set with the first of an empty set kept; the first
critical one releases SAFETY_OUT, withdraws every grant, and leaves the climate OFF, a running program ABORTED, no fill,
heating or steaming in hand and the mode SAFE_STOP; a steam fault leaves the boiler in FAULT and cancels a pending standby;
FAN_STALL removes the demand of a fan mode (log entry 18) and nothing else; a warning acts on no block. The cause of each kind is that of the
table, judged on the lowest address of a kind (log entry 62). FAULT_CLEAR: an unknown kind is refused, a clear flag changes nothing, a cause still present keeps the flag, and
otherwise the flag and no other is cleared; the last critical fault leaves the mode ACTIVE, and the last steam fault the
boiler in a NORMAL drain where LOW_WET is wet and else EMPTY. -/
def Obligations.FaultsLatchAndClear : Prop :=
  (∀ (p : Part) (k : FaultKind),
    let q := p.raiseFault k
    (hasFault p.mode.faults k = true → q = p)
    ∧ (hasFault p.mode.faults k = false →
      (∀ j, hasFault q.mode.faults j = true ↔ j = k ∨ hasFault p.mode.faults j = true)
      ∧ q.mode.first = (if p.mode.faults = 0 then some k else p.mode.first)
      ∧ q.notice.pending.getLsbD (noticePosition .fault) = true)
    ∧ (hasFault p.mode.faults k = false → p.critical = false →
      k ∈ [.cavityOvertemp, .cavityNodeLost, .doorNodeLost, .nodeMap] →
      q.safetyOut = false ∧ q.power.grants.watts = .all 0 ∧ q.power.withdrawn = true ∧ q.power.relay = false
      ∧ q.climate.state = .off
      ∧ (p.climate.state ≠ .off → p.mode.mode ≠ .standby → q.climate.params = none ∧ q.power.demands = .all 0)
      ∧ q.program.state = (if p.program.state ∈ [.running, .waiting, .paused, .boundaryWait] then .aborted
          else p.program.state)
      ∧ q.boiler.state ∉ [.filling, .fillPaused, .topping, .heating, .steaming]
      ∧ q.mode.mode = (if p.mode.mode = .starting then .starting else .safeStop)
      ∧ (p.mode.mode ≠ .starting → q.mode.holdTimer = .stopped))
    ∧ (hasFault p.mode.faults k = false →
      k ∈ [.boilerOverheat, .boilerNodeLost, .tankNodeLost, .fillFault, .drainTimeout] →
      q.boiler.state = .fault ∧ q.power.relay = false
      ∧ (p.program.state ≠ .boundaryWait →
        q.mode.mode = (if p.mode.mode = .standbyPending then .active else p.mode.mode)))
    ∧ (hasFault p.mode.faults k = false → k = .fanStall →
      let fanHeat := p.climate.state ∈ [.preheat, .regulate] ∧ ∃ c, p.climate.params = some c
        ∧ c.mode ∈ [.hotAir, .hotAirBottom, .grillFan, .steam, .combi]
      q.climate.state = p.climate.state ∧ q.power.demands = (if fanHeat then .all 0 else p.power.demands)
      ∧ q.mode.mode = p.mode.mode ∧ q.boiler = p.boiler ∧ q.program = p.program
      ∧ q.power.grants = p.power.grants ∧ q.power.relay = p.power.relay)
    ∧ (hasFault p.mode.faults k = false → k = .storeDefaulted →
      q = Part.raiseNotice { p with mode := { p.mode with
        first := if p.mode.faults = 0 then some k else p.mode.first
        faults := q.mode.faults } } .fault))
  ∧ (∀ p : Part,
    let cause (k : FaultKind) : Prop := p.causePresent k = true
    (cause .cavityOvertemp ↔ p.climate.overtemp = true)
    ∧ (cause .cavityNodeLost ↔ p.ring.linked .cavityTemp = false) ∧ (cause .doorNodeLost ↔ p.ring.linked .door = false)
    ∧ (cause .nodeMap ↔ (∃ n ∈ p.ring.nodes, n.mismatch = true)
      ∨ ∃ k ∈ [NodeKind.cavityTemp, .boiler, .waterTank, .door],
        p.ring.linked k = false ∨ (p.ring.nodes.filter (fun n => n.kind = k)).length ≠ 1)
    ∧ (cause .fanStall ↔ 3 ≤ p.climate.stallCount) ∧ (cause .boilerOverheat ↔ p.boiler.overheat = true)
    ∧ (cause .boilerNodeLost ↔ p.ring.linked .boiler = false)
    ∧ (cause .tankNodeLost ↔ p.ring.linked .waterTank = false)
    ∧ ¬cause .fillFault ∧ ¬cause .drainTimeout ∧ ¬cause .storeDefaulted)
  ∧ ∀ (s : State) (kind : Byte), s.listening → s.admits (.faultClear kind) →
    let p := s.part
    let q : Request := .faultClear kind
    let answered (c : ResultCode) : Prop := exec q.command s = .next (s.replied q ⟨c, []⟩)
    let accepted (r : Part) : Prop := exec q.command s = .next (s.carried q ⟨.ok, []⟩ r)
    (10 < kind.toNat → answered .badValue)
    ∧ ∀ k, faultOf kind.toNat = some k →
      (hasFault p.mode.faults k = true → p.causePresent k = true → answered .faultActive)
      ∧ (hasFault p.mode.faults k = false → accepted p)
      ∧ (hasFault p.mode.faults k = true → p.causePresent k = false →
        let r := p.clearFault k
        accepted r
        ∧ (∀ j, hasFault r.mode.faults j = true ↔ j ≠ k ∧ hasFault p.mode.faults j = true)
        ∧ r.mode.first = (if r.mode.faults = 0 then none else p.mode.first)
        ∧ (p.critical = true → r.critical = false → r.safetyOut = true
          ∧ r.mode.mode = (if p.mode.mode = .safeStop then .active else p.mode.mode)
          ∧ r.climate = p.climate ∧ r.program = p.program)
        ∧ (r.critical = p.critical → r.mode.mode = p.mode.mode)
        ∧ (p.steamFault = true → r.steamFault = false → r.boiler.state ≠ .fault
          ∧ (p.boiler.state = .fault →
            (p.ring.image.lowWet = true → r.boiler.purpose = some .normal
              ∧ (r.boiler.state = .coolWait ∨ r.boiler.state = .draining))
            ∧ (p.ring.image.lowWet = false →
              p.boiler.owner ≠ .descale ∨ p.descale.phase ∉ [.drainFirst, .soakDrain] → r.boiler.state = .empty)))
        ∧ (p.steamFault = r.steamFault → r.boiler = p.boiler))

/-! ### Invariants of the blocks -/

/-- R88, R119: every step keeps the bounds of the stage list, of the stage index and of the blowdown record. -/
def Obligations.EveryStepKeepsBounds : Prop :=
  ∀ s t : State, s.part.Bounded → step s = .next t → t.part.Bounded

/-- The invariants of the link controller and its reports, of the write queue and of the blocks hold right after reset, and
there is a stored form for each of the 34 items, with the model's values before the load step (log entries 1 and 2). -/
def Obligations.InvariantsHoldAtReset : Prop :=
  State.reset.link.Inv ∧ State.reset.reportsQuiet ∧ State.reset.part.store.Ok ∧ State.reset.part.Bounded
  ∧ State.reset.flash.length = 34

end
end

