-- ==== Sys2Proof/Laws/Store.lean ====
section
/-! SUPPORT. The write queue (R178, R179): what entering a value does to the entries, to the served values and to the
store's invariant. -/

namespace Sys2Proof.Machine

/-- Starting a write changes only what is being written. -/
@[simp] theorem Store.startWrite_queue (t : Store) : t.startWrite.queue = t.queue := by
  unfold Store.startWrite; split <;> rfl
@[simp] theorem Store.startWrite_run (t : Store) : t.startWrite.run = t.run := by
  unfold Store.startWrite; split <;> rfl
@[simp] theorem Store.startWrite_base (t : Store) : t.startWrite.base = t.base := by
  unfold Store.startWrite; split <;> rfl
@[simp] theorem Store.startWrite_defaulted (t : Store) : t.startWrite.defaulted = t.defaulted := by
  unfold Store.startWrite; split <;> rfl
@[simp] theorem Store.startWrite_entry (t : Store) (i : Nat) : t.startWrite.entry i = t.entry i := by
  simp [Store.entry]
@[simp] theorem Store.startWrite_served (t : Store) (i : Nat) : t.startWrite.served i = t.served i := by
  simp [Store.served]

@[simp] theorem Store.replace_run (t : Store) (i : Nat) (v : ItemValue) : (t.replace i v).run = t.run := rfl
@[simp] theorem Store.replace_base (t : Store) (i : Nat) (v : ItemValue) : (t.replace i v).base = t.base := rfl
@[simp] theorem Store.replace_defaulted (t : Store) (i : Nat) (v : ItemValue) :
    (t.replace i v).defaulted = t.defaulted := rfl
@[simp] theorem Store.replace_writing (t : Store) (i : Nat) (v : ItemValue) : (t.replace i v).writing = t.writing := rfl
@[simp] theorem Store.replace_length (t : Store) (i : Nat) (v : ItemValue) :
    (t.replace i v).queue.length = t.queue.length := by simp [Store.replace]

/-- A replacement keeps the items and their order. -/
@[simp] theorem Store.replace_items (t : Store) (i : Nat) (v : ItemValue) :
    (t.replace i v).queue.map QueueEntry.item = t.queue.map QueueEntry.item := by
  simp only [Store.replace, List.map_map]
  exact List.map_congr_left fun e _ => by simp only [Function.comp]; split <;> rfl

theorem find?_replaced (q : List QueueEntry) (i j : Nat) (v : ItemValue) :
    (q.map (fun e => if e.item = i then { e with value := v } else e)).find? (fun e => e.item = j)
      = (q.find? (fun e => e.item = j)).map (fun e => if e.item = i then { e with value := v } else e) := by
  induction q with
  | nil => rfl
  | cons e q ih =>
    have hi : (if e.item = i then { e with value := v } else e).item = e.item := by split <;> rfl
    simp only [List.map_cons, List.find?_cons, hi, ih]
    by_cases hj : e.item = j <;> simp [hj]

/-- A replacement leaves the entries of other items. -/
theorem Store.replace_entry_ne (t : Store) (i j : Nat) (v : ItemValue) (h : j ≠ i) :
    (t.replace i v).entry j = t.entry j := by
  simp only [Store.replace, Store.entry, find?_replaced]
  cases hf : t.queue.find? (fun e => decide (e.item = j)) with
  | none => rfl
  | some e =>
    have := List.find?_some hf
    simp at this
    simp [this, h]

/-- After an internal write or an accepted value the item is served at the value given. -/
theorem Store.enqueue_entry_self (t : Store) (i : Nat) (v : ItemValue) : (t.enqueue i v).entry i = some ⟨i, v⟩ := by
  unfold Store.enqueue
  split
  · rename_i e h
    simp only [Store.entry] at h
    have hi := List.find?_some h
    simp at hi
    simp only [Store.replace, Store.entry, find?_replaced, h]
    simp [hi]
  · rename_i h
    simp only [Store.entry] at h
    simp [Store.entry, List.find?_append, h]

/-- The entries of other items stay. -/
theorem Store.enqueue_entry_ne (t : Store) (i j : Nat) (v : ItemValue) (h : j ≠ i) :
    (t.enqueue i v).entry j = t.entry j := by
  unfold Store.enqueue
  split
  · exact t.replace_entry_ne i j v h
  · simp [Store.entry, List.find?_append, Ne.symm h]

@[simp] theorem Store.enqueue_run (t : Store) (i : Nat) (v : ItemValue) : (t.enqueue i v).run = t.run := by
  unfold Store.enqueue; split <;> simp
@[simp] theorem Store.enqueue_base (t : Store) (i : Nat) (v : ItemValue) : (t.enqueue i v).base = t.base := by
  unfold Store.enqueue; split <;> simp
@[simp] theorem Store.enqueue_defaulted (t : Store) (i : Nat) (v : ItemValue) :
    (t.enqueue i v).defaulted = t.defaulted := by
  unfold Store.enqueue; split <;> simp

/-- R175: a value that is entered is served. -/
theorem Store.enqueue_served_self (t : Store) (i : Nat) (v : ItemValue) : (t.enqueue i v).served i = v := by
  simp [Store.served, t.enqueue_entry_self i v]

/-- R175: the other items are served as before. -/
theorem Store.enqueue_served_ne (t : Store) (i j : Nat) (v : ItemValue) (h : j ≠ i) :
    (t.enqueue i v).served j = t.served j := by
  simp [Store.served, t.enqueue_entry_ne i j v h]

/-- The queue of a store whose item has no entry. -/
theorem Store.entry_none {t : Store} {i : Nat} (h : t.entry i = none) : i ∉ t.queue.map QueueEntry.item := by
  intro hm
  obtain ⟨e, he, rfl⟩ := List.mem_map.1 hm
  have := List.find?_eq_none.1 h e he
  simp at this

/-- Items of the run are no internal items. -/
theorem runItems_external {i : Nat} (h : i ∈ runItems) : ¬internalItem i := by
  simp only [runItems, List.mem_cons, List.not_mem_nil, or_false] at h
  unfold internalItem
  omega

/-- R178: an internal write keeps the store's invariant. -/
theorem Store.enqueue_ok {t : Store} {i : Nat} (v : ItemValue) (hi : internalItem i) (h : t.Ok) : (t.enqueue i v).Ok := by
  have hrun : ∀ j ∈ t.run, j ≠ i := fun j hj hji => runItems_external (h.runItems j hj) (hji ▸ hi)
  refine ⟨?_, ?_, ?_, ?_, ?_, ?_, ?_⟩
  · unfold Store.enqueue
    split
    · simpa using h.distinct
    · rename_i he
      have := Store.entry_none he
      simp only [Store.startWrite_queue, List.map_append, List.map_cons, List.map_nil]
      refine List.nodup_append.2 ⟨h.distinct, by simp, ?_⟩
      intro a ha b hb
      simp only [List.mem_singleton] at hb
      subst hb
      exact fun hab => this (hab ▸ ha)
  · have := h.hosts
    unfold Store.enqueue
    split
    · simp only [Store.replace]
      rw [List.filter_map, List.length_map]
      refine le_trans (le_of_eq ?_) this
      congr 1
      refine List.filter_congr fun e _ => ?_
      simp only [Function.comp]
      split <;> rfl
    · simp only [Store.startWrite_queue, List.filter_append, List.length_append]
      have : (List.filter (fun e : QueueEntry => decide (e.item ≠ 14 ∧ e.item ≠ 15 ∧ e.item ≠ 16))
          [(⟨i, v⟩ : QueueEntry)]) = [] := by
        rcases hi with rfl | rfl | rfl <;> rfl
      rw [this]; simpa using h.hosts
  · have hw := h.writes
    unfold Store.enqueue
    split
    · rename_i e he
      have hq : (t.replace i v).queue ≠ [] ↔ t.queue ≠ [] := by
        rw [← List.length_pos_iff, ← List.length_pos_iff, t.replace_length]
      rw [hq, hw]; rfl
    · unfold Store.startWrite
      cases hq : t.queue with
      | nil =>
        have : t.writing = none := by
          have := hw.not.1 (by simp [hq])
          simpa using this
        simp [this]
      | cons a l =>
        have : t.writing.isSome := hw.1 (by simp [hq])
        obtain ⟨x, hx⟩ := Option.isSome_iff_exists.1 this
        simp [hx]
  · intro j hj
    rw [Store.enqueue_run] at hj
    rw [t.enqueue_entry_ne i j v (hrun j hj)]
    exact h.runApart j hj
  · intro j hj
    rw [Store.enqueue_run] at hj
    exact h.runItems j hj
  · rw [Store.enqueue_run]; exact h.runDistinct
  · rw [Store.enqueue_run]
    intro hr
    have := h.full hr
    unfold Store.enqueue
    split
    · simpa using this
    · simp; omega

end Sys2Proof.Machine
end

