-- ==== Sys2Proof/Laws/Keeps.lean ====
section
/-! SUPPORT. What the reactions and the operations of the blocks leave alone: `Part.Keeps`, one lemma per operation, each
in the form "what has been kept so far is kept after it". -/

namespace Sys2Proof.Machine

theorem Part.OnlyAdds.refl (p : Part) : p.OnlyAdds p := ⟨fun _ h => h, fun _ _ => rfl, id⟩

theorem Part.OnlyAdds.trans {p q r : Part} (h : p.OnlyAdds q) (k : q.OnlyAdds r) : p.OnlyAdds r :=
  ⟨fun i hi => k.pending i (h.pending i hi), fun i hi => (k.served i hi).trans (h.served i hi),
    fun ho => k.storeOk (h.storeOk ho)⟩

theorem Part.Keeps.refl (p : Part) : p.Keeps p := ⟨rfl, .refl p⟩

theorem Part.Keeps.trans {p q r : Part} (h : p.Keeps q) (k : q.Keeps r) : p.Keeps r :=
  ⟨k.fixed.trans h.fixed, h.adds.trans k.adds⟩

/-- A change outside the fixed values, the notices and the store. -/
theorem Part.Keeps.leaf {p q r : Part} (h : p.Keeps q) (hf : r.fixed = q.fixed)
    (hn : r.notice.pending = q.notice.pending) (hs : r.store = q.store) : p.Keeps r :=
  ⟨hf.trans h.fixed, h.adds.trans ⟨fun i hi => by rw [hn]; exact hi, fun i _ => by rw [hs], fun ho => by rw [hs]; exact ho⟩⟩

/-- R167: a raise sets a flag and clears none. -/
theorem NoticeUnit.raise_pending (u : NoticeUnit) (n : Notice) (i : Nat) (h : u.pending.getLsbD i = true) :
    (u.raise n).pending.getLsbD i = true := by
  unfold NoticeUnit.raise
  split
  · exact h
  · simp [h]

theorem NoticeUnit.raise_enable (u : NoticeUnit) (n : Notice) : (u.raise n).enable = u.enable := by
  unfold NoticeUnit.raise; split <;> rfl
theorem NoticeUnit.raise_inHand (u : NoticeUnit) (n : Notice) : (u.raise n).inHand = u.inHand := by
  unfold NoticeUnit.raise; split <;> rfl
theorem NoticeUnit.raise_pulse (u : NoticeUnit) (n : Notice) : (u.raise n).pulse = u.pulse := by
  unfold NoticeUnit.raise; split <;> rfl

theorem Part.raiseNotice_keeps {p q : Part} (n : Notice) (h : p.Keeps q) : p.Keeps (q.raiseNotice n) :=
  h.trans ⟨by simp [Part.fixed, Part.raiseNotice, NoticeUnit.raise_enable, NoticeUnit.raise_inHand,
      NoticeUnit.raise_pulse], ⟨fun i hi => NoticeUnit.raise_pending _ n i hi, fun _ _ => rfl, id⟩⟩

/-- An internal item is queued. -/
theorem Part.queueItem_keeps {p q : Part} {i : Nat} (v : ItemValue) (hi : internalItem i) (h : p.Keeps q) :
    p.Keeps (q.queueItem i v) :=
  h.trans ⟨by simp [Part.fixed, Part.queueItem],
    ⟨fun _ hj => hj, fun j hj => Store.enqueue_served_ne _ _ _ _ (fun hji => hj (hji ▸ hi)),
      fun ho => Store.enqueue_ok v hi ho⟩⟩

theorem Part.passGate_keeps {p q : Part} (h : p.Keeps q) : p.Keeps q.passGate := by
  unfold Part.passGate
  repeat' split
  all_goals
    repeat
      first
        | exact h
        | with_reducible apply Part.raiseNotice_keeps
        | exact h.leaf rfl rfl rfl

theorem Part.tellReached_keeps {p q : Part} (h : p.Keeps q) : p.Keeps q.tellReached := by
  unfold Part.tellReached
  dsimp only
  repeat' split
  all_goals
    repeat
      first
        | exact h
        | with_reducible apply Part.passGate_keeps
        | exact h.leaf rfl rfl rfl

theorem Part.cavityReached_keeps {p q : Part} (h : p.Keeps q) : p.Keeps q.cavityReached := by
  unfold Part.cavityReached
  repeat
    first
      | exact h
      | with_reducible apply Part.raiseNotice_keeps
      | with_reducible apply Part.tellReached_keeps
      | exact h.leaf rfl rfl rfl

theorem Part.giveDemand_keeps {p q : Part} (m : HeatMode) (d : Int) (h : p.Keeps q) : p.Keeps (q.giveDemand m d) := by
  unfold Part.giveDemand
  repeat' split
  all_goals (first | exact h | exact h.leaf rfl rfl rfl)

theorem Part.noDemand_keeps {p q : Part} (h : p.Keeps q) : p.Keeps q.noDemand := by
  unfold Part.noDemand
  first | exact h | exact h.leaf rfl rfl rfl

theorem Part.steamTest_keeps {p q : Part} (h : p.Keeps q) : p.Keeps q.steamTest := by
  unfold Part.steamTest
  first | exact h | exact h.leaf rfl rfl rfl

theorem Part.setVent_keeps {p q : Part} (t : VentTarget) (h : p.Keeps q) : p.Keeps (q.setVent t) := by
  unfold Part.setVent
  repeat' split
  all_goals (first | exact h | exact h.leaf rfl rfl rfl)

theorem Part.ventTest_keeps {p q : Part} (h : p.Keeps q) : p.Keeps q.ventTest := by
  unfold Part.ventTest
  repeat
    first
      | exact h
      | with_reducible apply Part.setVent_keeps
      | exact h.leaf rfl rfl rfl

theorem Part.ventAtStart_keeps {p q : Part} (h : p.Keeps q) : p.Keeps q.ventAtStart := by
  unfold Part.ventAtStart
  repeat' split
  all_goals (first | exact h | exact h.leaf rfl rfl rfl)

theorem Part.ventEndSwitch_keeps {p q : Part} (h : p.Keeps q) : p.Keeps q.ventEndSwitch := by
  unfold Part.ventEndSwitch
  repeat' split
  all_goals (first | exact h | exact h.leaf rfl rfl rfl)

theorem Part.stopVentDrive_keeps {p q : Part} (h : p.Keeps q) : p.Keeps q.stopVentDrive := by
  unfold Part.stopVentDrive
  repeat' split
  all_goals (first | exact h | exact h.leaf rfl rfl rfl)

theorem Part.pulseAtWrite_keeps {p q : Part} (c : ClimateParams) (h : p.Keeps q) : p.Keeps (q.pulseAtWrite c) := by
  unfold Part.pulseAtWrite
  repeat' split
  all_goals (first | exact h | exact h.leaf rfl rfl rfl)

theorem Part.demandOf_keeps {p q : Part} (st : ClimateState) (c : ClimateParams) (h : p.Keeps q) :
    p.Keeps (q.demandOf st c) := by
  unfold Part.demandOf
  repeat' split
  all_goals
    repeat
      first
        | exact h
        | with_reducible apply Part.giveDemand_keeps
        | with_reducible apply Part.noDemand_keeps
        | exact h.leaf rfl rfl rfl

theorem Part.startCooking_keeps {p q : Part} (c : ClimateParams) (h : p.Keeps q) : p.Keeps (q.startCooking c) := by
  unfold Part.startCooking
  dsimp only
  repeat' split
  all_goals
    repeat
      first
        | exact h
        | with_reducible apply Part.cavityReached_keeps
        | with_reducible apply Part.demandOf_keeps
        | with_reducible apply Part.pulseAtWrite_keeps
        | with_reducible apply Part.steamTest_keeps
        | with_reducible apply Part.ventAtStart_keeps
        | with_reducible apply Part.ventTest_keeps
        | exact h.leaf rfl rfl rfl

theorem Part.readRatings_keeps {p q : Part} (h : p.Keeps q) : p.Keeps q.readRatings := h.leaf rfl rfl rfl

theorem Part.keepDemand_keeps {p q : Part} (h : p.Keeps q) : p.Keeps q.keepDemand := h.leaf rfl rfl rfl

theorem Part.clampIntegral_keeps {p q : Part} (m : HeatMode) (h : p.Keeps q) : p.Keeps (q.clampIntegral m) :=
  h.leaf rfl rfl rfl

theorem Part.rewriteDemand_keeps {p q : Part} (c : ClimateParams) (full : Bool) (h : p.Keeps q) :
    p.Keeps (q.rewriteDemand c full) := by
  unfold Part.rewriteDemand
  dsimp only
  repeat' split
  all_goals
    repeat
      first
        | exact h
        | with_reducible apply Part.giveDemand_keeps
        | with_reducible apply Part.noDemand_keeps
        | exact h.leaf rfl rfl rfl

theorem Part.raiseReturn_keeps {p q : Part} (rise : Bool) (h : p.Keeps q) : p.Keeps (q.raiseReturn rise) := by
  unfold Part.raiseReturn
  repeat' split
  all_goals (first | exact h | exact h.leaf rfl rfl rfl)

theorem Part.updateClimate_keeps {p q : Part} (c : ClimateParams) (h : p.Keeps q) : p.Keeps (q.updateClimate c) := by
  unfold Part.updateClimate
  dsimp only
  repeat' split
  all_goals
    repeat
      first
        | exact h
        | with_reducible apply Part.rewriteDemand_keeps
        | with_reducible apply Part.clampIntegral_keeps
        | with_reducible apply Part.pulseAtWrite_keeps
        | with_reducible apply Part.raiseReturn_keeps
        | with_reducible apply Part.steamTest_keeps
        | with_reducible apply Part.ventTest_keeps
        | exact h.leaf rfl rfl rfl

theorem Part.writeClimate_keeps {p q : Part} (c : ClimateParams) (h : p.Keeps q) : p.Keeps (q.writeClimate c) := by
  unfold Part.writeClimate
  repeat' split
  all_goals
    repeat
      first
        | exact h
        | with_reducible apply Part.startCooking_keeps
        | with_reducible apply Part.updateClimate_keeps
        | exact h.leaf rfl rfl rfl

theorem Part.clearClimate_keeps {p q : Part} (next : ClimateState) (h : p.Keeps q) :
    p.Keeps (q.clearClimate next) := by
  unfold Part.clearClimate
  repeat
    first
      | exact h
      | with_reducible apply Part.noDemand_keeps
      | with_reducible apply Part.setVent_keeps
      | exact h.leaf rfl rfl rfl

theorem Part.endCooking_keeps {p q : Part} (h : p.Keeps q) : p.Keeps q.endCooking := by
  unfold Part.endCooking
  repeat' split
  all_goals
    repeat
      first
        | exact h
        | with_reducible apply Part.clearClimate_keeps
        | exact h.leaf rfl rfl rfl

theorem Part.forcedOff_keeps {p q : Part} (h : p.Keeps q) : p.Keeps q.forcedOff := by
  unfold Part.forcedOff
  repeat' split
  all_goals
    repeat
      first
        | exact h
        | with_reducible apply Part.clearClimate_keeps
        | exact h.leaf rfl rfl rfl

theorem Part.climateDoorOpen_keeps {p q : Part} (h : p.Keeps q) : p.Keeps q.climateDoorOpen := by
  unfold Part.climateDoorOpen
  repeat' split
  all_goals
    repeat
      first
        | exact h
        | with_reducible apply Part.noDemand_keeps
        | exact h.leaf rfl rfl rfl

theorem Part.climateDoorClose_keeps {p q : Part} (h : p.Keeps q) : p.Keeps q.climateDoorClose := by
  unfold Part.climateDoorClose
  repeat' split
  all_goals
    repeat
      first
        | exact h
        | with_reducible apply Part.cavityReached_keeps
        | with_reducible apply Part.demandOf_keeps
        | exact h.leaf rfl rfl rfl

theorem Part.regulate_keeps {p q : Part} (c : ClimateParams) (ts tc : Int) (h : p.Keeps q) :
    p.Keeps (q.regulate c ts tc) := by
  unfold Part.regulate
  all_goals
    repeat
      first
        | exact h
        | with_reducible apply Part.giveDemand_keeps
        | exact h.leaf rfl rfl rfl

theorem Part.preheatExit_keeps {p q : Part} (c : ClimateParams) (ts tc : Int) (h : p.Keeps q) :
    p.Keeps (q.preheatExit c ts tc) := by
  unfold Part.preheatExit
  repeat
    first
      | exact h
      | with_reducible apply Part.cavityReached_keeps
      | with_reducible apply Part.regulate_keeps
      | exact h.leaf rfl rfl rfl

theorem Part.periodDemand_keeps {p q : Part} (c : ClimateParams) (ts : Int) (h : p.Keeps q) :
    p.Keeps (q.periodDemand c ts) := by
  unfold Part.periodDemand
  repeat' split
  all_goals
    repeat
      first
        | exact h
        | with_reducible apply Part.giveDemand_keeps
        | with_reducible apply Part.noDemand_keeps
        | with_reducible apply Part.preheatExit_keeps
        | with_reducible apply Part.regulate_keeps
        | exact h.leaf rfl rfl rfl

theorem Part.climatePeriod_keeps {p q : Part} (h : p.Keeps q) : p.Keeps q.climatePeriod := by
  unfold Part.climatePeriod
  repeat' split
  all_goals
    repeat
      first
        | exact h
        | with_reducible apply Part.keepDemand_keeps
        | with_reducible apply Part.noDemand_keeps
        | with_reducible apply Part.periodDemand_keeps
        | with_reducible apply Part.raiseReturn_keeps
        | exact h.leaf rfl rfl rfl

theorem Part.coolRunEnd_keeps {p q : Part} (h : p.Keeps q) : p.Keeps q.coolRunEnd := by
  unfold Part.coolRunEnd
  repeat' split
  all_goals (first | exact h | exact h.leaf rfl rfl rfl)

theorem Part.climateScan_keeps {p q : Part} (h : p.Keeps q) : p.Keeps q.climateScan := by
  unfold Part.climateScan
  repeat
    first
      | exact h
      | with_reducible apply Part.coolRunEnd_keeps
      | with_reducible apply Part.steamTest_keeps
      | with_reducible apply Part.ventEndSwitch_keeps
      | with_reducible apply Part.ventTest_keeps
      | exact h.leaf rfl rfl rfl

theorem Part.pulseTick_keeps {p q : Part} (h : p.Keeps q) : p.Keeps q.pulseTick := by
  unfold Part.pulseTick
  repeat' split
  all_goals
    repeat
      first
        | exact h
        | with_reducible apply Part.steamTest_keeps
        | exact h.leaf rfl rfl rfl

theorem Part.climateMainsLoss_keeps {p q : Part} (h : p.Keeps q) : p.Keeps q.climateMainsLoss := by
  unfold Part.climateMainsLoss
  repeat
    first
      | exact h
      | with_reducible apply Part.noDemand_keeps
      | with_reducible apply Part.stopVentDrive_keeps
      | exact h.leaf rfl rfl rfl

theorem Part.climateMainsReturn_keeps {p q : Part} (h : p.Keeps q) : p.Keeps q.climateMainsReturn := by
  unfold Part.climateMainsReturn
  repeat' split
  all_goals
    repeat
      first
        | exact h
        | with_reducible apply Part.steamTest_keeps
        | exact h.leaf rfl rfl rfl

theorem Part.withdrawCavity_keeps {p q : Part} (h : p.Keeps q) : p.Keeps q.withdrawCavity := by
  unfold Part.withdrawCavity
  first | exact h | exact h.leaf rfl rfl rfl

theorem Part.withdrawBoiler_keeps {p q : Part} (h : p.Keeps q) : p.Keeps q.withdrawBoiler := by
  unfold Part.withdrawBoiler Power.openRelay
  repeat' split
  all_goals (first | exact h | exact h.leaf rfl rfl rfl)

theorem Part.evaluateLock_keeps {p q : Part} (h : p.Keeps q) : p.Keeps q.evaluateLock := by
  unfold Part.evaluateLock
  first | exact h | exact h.leaf rfl rfl rfl

theorem Part.dueTest_keeps {p q : Part} (h : p.Keeps q) : p.Keeps q.dueTest := by
  unfold Part.dueTest
  repeat' split
  all_goals
    repeat
      first
        | exact h
        | with_reducible apply Part.raiseNotice_keeps
        | exact h.leaf rfl rfl rfl

theorem Part.queueScale_keeps {p q : Part} (h : p.Keeps q) : p.Keeps q.queueScale :=
  Part.queueItem_keeps _ (.inl rfl) (h.leaf rfl rfl rfl)

theorem Part.queueBlowdown_keeps {p q : Part} (h : p.Keeps q) : p.Keeps q.queueBlowdown :=
  Part.queueItem_keeps _ (.inr (.inl rfl)) h

theorem Part.accrueEvaporation_keeps {p q : Part} (volume : Nat) (h : p.Keeps q) :
    p.Keeps (q.accrueEvaporation volume) := by
  unfold Part.accrueEvaporation
  first | exact h | exact h.leaf rfl rfl rfl

theorem Part.followSuspension_keeps {p q : Part} (h : p.Keeps q) : p.Keeps q.followSuspension := by
  unfold Part.followSuspension
  first | exact h | exact h.leaf rfl rfl rfl

theorem Part.deposit_keeps {p q : Part} (volume : Nat) (h : p.Keeps q) : p.Keeps (q.deposit volume) := by
  unfold Part.deposit
  first | exact h | exact h.leaf rfl rfl rfl

theorem Part.accrue_keeps {p q : Part} (volume : Nat) (h : p.Keeps q) : p.Keeps (q.accrue volume) := by
  unfold Part.accrue
  dsimp only
  repeat' split
  all_goals
    repeat
      first
        | exact h
        | with_reducible apply Part.accrueEvaporation_keeps
        | with_reducible apply Part.deposit_keeps
        | with_reducible apply Part.dueTest_keeps
        | with_reducible apply Part.evaluateLock_keeps
        | with_reducible apply Part.followSuspension_keeps
        | with_reducible apply Part.queueBlowdown_keeps
        | with_reducible apply Part.queueScale_keeps
        | exact h.leaf rfl rfl rfl

theorem Part.queueIfOwing_keeps {p q : Part} (b : Part) (h : p.Keeps q) : p.Keeps (b.queueIfOwing q) := by
  unfold Part.queueIfOwing
  split
  · exact h
  · exact Part.queueBlowdown_keeps h

theorem Part.queueIfChanged_keeps {p q : Part} (b : Part) (h : p.Keeps q) : p.Keeps (b.queueIfChanged q) := by
  unfold Part.queueIfChanged
  split
  · exact h
  · exact Part.queueBlowdown_keeps h

theorem Part.scaleDescaled_keeps {p q : Part} (h : p.Keeps q) : p.Keeps q.scaleDescaled := by
  unfold Part.scaleDescaled
  exact Part.queueBlowdown_keeps (Part.queueScale_keeps (Part.evaluateLock_keeps (h.leaf rfl rfl rfl)))

theorem Part.pullIn_keeps {p q : Part} (h : p.Keeps q) : p.Keeps q.pullIn := by
  unfold Part.pullIn
  repeat' split
  all_goals (first | exact h | exact h.leaf rfl rfl rfl)

theorem Part.repay_keeps {p q : Part} (h : p.Keeps q) : p.Keeps q.repay := by
  unfold Part.repay
  first | exact h | exact h.leaf rfl rfl rfl

theorem Part.scaleDrained_keeps {p q : Part} (purpose : Option Purpose) (h : p.Keeps q) :
    p.Keeps (q.scaleDrained purpose) := by
  unfold Part.scaleDrained
  dsimp only
  repeat' split
  all_goals
    repeat
      first
        | exact h
        | with_reducible apply Part.pullIn_keeps
        | with_reducible apply Part.queueIfOwing_keeps
        | with_reducible apply Part.queueScale_keeps
        | with_reducible apply Part.repay_keeps
        | exact h.leaf rfl rfl rfl

theorem Part.scaleTold_keeps {p q : Part} (item : Nat) (h : p.Keeps q) : p.Keeps (q.scaleTold item) := by
  unfold Part.scaleTold
  split
  · exact Part.evaluateLock_keeps (Part.dueTest_keeps h)
  · split
    · exact Part.queueIfChanged_keeps _ (Part.followSuspension_keeps (Part.accrueEvaporation_keeps 0 h))
    · exact h

theorem Part.recordLoaded_keeps {p q : Part} (h : p.Keeps q) : p.Keeps q.recordLoaded := by
  unfold Part.recordLoaded
  repeat' split
  all_goals (first | exact h | exact h.leaf rfl rfl rfl)

theorem Part.blowdownLoaded_keeps {p q : Part} (h : p.Keeps q) : p.Keeps q.blowdownLoaded := by
  unfold Part.blowdownLoaded
  repeat' split
  all_goals (first | exact h | exact h.leaf rfl rfl rfl)

theorem Part.progressLoaded_keeps {p q : Part} (h : p.Keeps q) : p.Keeps q.progressLoaded := by
  unfold Part.progressLoaded
  repeat
    first
      | exact h
      | with_reducible apply Part.accrueEvaporation_keeps
      | with_reducible apply Part.queueIfOwing_keeps
      | exact h.leaf rfl rfl rfl

theorem Part.dueLoaded_keeps {p q : Part} (h : p.Keeps q) : p.Keeps q.dueLoaded := by
  unfold Part.dueLoaded
  dsimp only
  repeat' split
  all_goals
    repeat
      first
        | exact h
        | with_reducible apply Part.raiseNotice_keeps
        | exact h.leaf rfl rfl rfl

theorem Part.scaleLoaded_keeps {p q : Part} (h : p.Keeps q) : p.Keeps q.scaleLoaded := by
  unfold Part.scaleLoaded
  repeat
    first
      | exact h
      | with_reducible apply Part.blowdownLoaded_keeps
      | with_reducible apply Part.dueLoaded_keeps
      | with_reducible apply Part.evaluateLock_keeps
      | with_reducible apply Part.progressLoaded_keeps
      | with_reducible apply Part.recordLoaded_keeps
      | exact h.leaf rfl rfl rfl

theorem Part.boilerRest_keeps {p q : Part} (next : BoilerState) (h : p.Keeps q) : p.Keeps (q.boilerRest next) := by
  unfold Part.boilerRest
  first | exact h | exact h.leaf rfl rfl rfl

theorem Part.noBoilerRequest_keeps {p q : Part} (h : p.Keeps q) : p.Keeps q.noBoilerRequest := by
  unfold Part.noBoilerRequest
  first | exact h | exact h.leaf rfl rfl rfl

theorem Part.boilerEmpty_keeps {p q : Part} (h : p.Keeps q) : p.Keeps q.boilerEmpty := by
  unfold Part.boilerEmpty
  repeat
    first
      | exact h
      | with_reducible apply Part.boilerRest_keeps
      | with_reducible apply Part.noBoilerRequest_keeps
      | exact h.leaf rfl rfl rfl

theorem Part.boilerReady_keeps {p q : Part} (h : p.Keeps q) : p.Keeps q.boilerReady := by
  unfold Part.boilerReady
  dsimp only
  repeat' split
  all_goals
    repeat
      first
        | exact h
        | with_reducible apply Part.boilerRest_keeps
        | with_reducible apply Part.noBoilerRequest_keeps
        | exact h.leaf rfl rfl rfl

theorem Part.boilerEndFill_keeps {p q : Part} (h : p.Keeps q) : p.Keeps q.boilerEndFill := by
  unfold Part.boilerEndFill
  repeat' split
  all_goals
    repeat
      first
        | exact h
        | with_reducible apply Part.boilerEmpty_keeps
        | with_reducible apply Part.boilerRest_keeps
        | with_reducible apply Part.noBoilerRequest_keeps
        | exact h.leaf rfl rfl rfl

theorem Part.boilerSteamOrReady_keeps {p q : Part} (h : p.Keeps q) : p.Keeps q.boilerSteamOrReady := by
  unfold Part.boilerSteamOrReady
  repeat' split
  all_goals
    repeat
      first
        | exact h
        | with_reducible apply Part.boilerReady_keeps
        | with_reducible apply Part.boilerRest_keeps
        | exact h.leaf rfl rfl rfl

theorem Part.startHeating_keeps {p q : Part} (target : Int) (next : Continuation) (h : p.Keeps q) :
    p.Keeps (q.startHeating target next) := by
  unfold Part.startHeating
  repeat
    first
      | exact h
      | with_reducible apply Part.boilerRest_keeps
      | with_reducible apply Part.noBoilerRequest_keeps
      | exact h.leaf rfl rfl rfl

theorem Part.startRunOn_keeps {p q : Part} (h : p.Keeps q) : p.Keeps q.startRunOn := by
  unfold Part.startRunOn
  first | exact h | exact h.leaf rfl rfl rfl

theorem Part.enterDraining_keeps {p q : Part} (h : p.Keeps q) : p.Keeps q.enterDraining := by
  unfold Part.enterDraining
  repeat' split
  all_goals
    repeat
      first
        | exact h
        | with_reducible apply Part.startRunOn_keeps
        | exact h.leaf rfl rfl rfl

theorem Part.startDrain_keeps {p q : Part} (purpose : Purpose) (next : Continuation) (h : p.Keeps q) :
    p.Keeps (q.startDrain purpose next) := by
  unfold Part.startDrain
  repeat' split
  all_goals
    repeat
      first
        | exact h
        | with_reducible apply Part.enterDraining_keeps
        | with_reducible apply Part.noBoilerRequest_keeps
        | exact h.leaf rfl rfl rfl

theorem Part.pauseFill_keeps {p q : Part} (reason : PauseReason) (h : p.Keeps q) : p.Keeps (q.pauseFill reason) := by
  unfold Part.pauseFill
  repeat
    first
      | exact h
      | with_reducible apply Part.noBoilerRequest_keeps
      | with_reducible apply Part.raiseNotice_keeps
      | exact h.leaf rfl rfl rfl

theorem Part.runFill_keeps {p q : Part} (h : p.Keeps q) : p.Keeps q.runFill := by
  unfold Part.runFill
  repeat' split
  all_goals
    repeat
      first
        | exact h
        | with_reducible apply Part.noBoilerRequest_keeps
        | exact h.leaf rfl rfl rfl

theorem Part.handOver_keeps {p q : Part} (h : p.Keeps q) : p.Keeps q.handOver := by
  unfold Part.handOver
  repeat' split
  all_goals
    repeat
      first
        | exact h
        | with_reducible apply Part.accrue_keeps
        | exact h.leaf rfl rfl rfl

theorem Part.descalePhase_keeps {p q : Part} (phase : DescalePhase) (prompt : Option PromptReason) (h : p.Keeps q) :
    p.Keeps (q.descalePhase phase prompt) := by
  unfold Part.descalePhase
  first | exact h | exact h.leaf rfl rfl rfl

theorem Part.setRinseOwed_keeps {p q : Part} (b : Bool) (h : p.Keeps q) : p.Keeps (q.setRinseOwed b) := by
  unfold Part.setRinseOwed
  repeat
    first
      | exact h
      | with_reducible apply Part.evaluateLock_keeps
      | exact h.leaf rfl rfl rfl

theorem Part.storeDescale_keeps {p q : Part} (h : p.Keeps q) : p.Keeps q.storeDescale := by
  unfold Part.storeDescale
  split
  · exact h
  · exact Part.queueItem_keeps _ (.inr (.inr rfl)) h

theorem Part.directHeat_keeps {p q : Part} (target : Int) (h : p.Keeps q) : p.Keeps (q.directHeat target) := by
  unfold Part.directHeat
  repeat' split
  all_goals
    repeat
      first
        | exact h
        | with_reducible apply Part.startHeating_keeps
        | exact h.leaf rfl rfl rfl

theorem Part.descaleFilled_keeps {p q : Part} (h : p.Keeps q) : p.Keeps q.descaleFilled := by
  unfold Part.descaleFilled
  repeat' split
  all_goals
    repeat
      first
        | exact h
        | with_reducible apply Part.descalePhase_keeps
        | with_reducible apply Part.directHeat_keeps
        | exact h.leaf rfl rfl rfl

theorem Part.normalFilled_keeps {p q : Part} (h : p.Keeps q) : p.Keeps q.normalFilled := by
  unfold Part.normalFilled
  repeat' split
  all_goals
    repeat
      first
        | exact h
        | with_reducible apply Part.boilerReady_keeps
        | with_reducible apply Part.startHeating_keeps
        | exact h.leaf rfl rfl rfl

theorem Part.fillDone_keeps {p q : Part} (h : p.Keeps q) : p.Keeps q.fillDone := by
  unfold Part.fillDone
  repeat' split
  all_goals
    repeat
      first
        | exact h
        | with_reducible apply Part.accrue_keeps
        | with_reducible apply Part.boilerReady_keeps
        | with_reducible apply Part.boilerSteamOrReady_keeps
        | with_reducible apply Part.descaleFilled_keeps
        | with_reducible apply Part.normalFilled_keeps
        | exact h.leaf rfl rfl rfl

theorem Part.startFill_keeps {p q : Part} (purpose : Purpose) (next : Continuation) (h : p.Keeps q) :
    p.Keeps (q.startFill purpose next) := by
  unfold Part.startFill
  repeat' split
  all_goals
    repeat
      first
        | exact h
        | with_reducible apply Part.fillDone_keeps
        | with_reducible apply Part.pauseFill_keeps
        | with_reducible apply Part.runFill_keeps
        | exact h.leaf rfl rfl rfl

theorem Part.normalFill_keeps {p q : Part} (h : p.Keeps q) : p.Keeps q.normalFill := by
  unfold Part.normalFill
  repeat
    first
      | exact h
      | with_reducible apply Part.startFill_keeps
      | exact h.leaf rfl rfl rfl

theorem Part.directFill_keeps {p q : Part} (purpose : Purpose) (h : p.Keeps q) : p.Keeps (q.directFill purpose) := by
  unfold Part.directFill
  repeat' split
  all_goals
    repeat
      first
        | exact h
        | with_reducible apply Part.startFill_keeps
        | exact h.leaf rfl rfl rfl

theorem Part.directDrain_keeps {p q : Part} (purpose : Purpose) (h : p.Keeps q) :
    p.Keeps (q.directDrain purpose) := by
  unfold Part.directDrain
  repeat' split
  all_goals
    repeat
      first
        | exact h
        | with_reducible apply Part.startDrain_keeps
        | exact h.leaf rfl rfl rfl

theorem Part.giveHeld_keeps {p q : Part} (h : p.Keeps q) : p.Keeps q.giveHeld := by
  unfold Part.giveHeld
  repeat' split
  all_goals
    repeat
      first
        | exact h
        | with_reducible apply Part.directDrain_keeps
        | with_reducible apply Part.directFill_keeps
        | with_reducible apply Part.directHeat_keeps
        | exact h.leaf rfl rfl rfl

theorem Part.enterDose_keeps {p q : Part} (h : p.Keeps q) : p.Keeps q.enterDose := by
  unfold Part.enterDose
  repeat
    first
      | exact h
      | with_reducible apply Part.descalePhase_keeps
      | with_reducible apply Part.directFill_keeps
      | exact h.leaf rfl rfl rfl

theorem Part.enterDrainFirst_keeps {p q : Part} (h : p.Keeps q) : p.Keeps q.enterDrainFirst := by
  unfold Part.enterDrainFirst
  repeat' split
  all_goals
    repeat
      first
        | exact h
        | with_reducible apply Part.descalePhase_keeps
        | with_reducible apply Part.directDrain_keeps
        | with_reducible apply Part.enterDose_keeps
        | exact h.leaf rfl rfl rfl

theorem Part.enterSoak_keeps {p q : Part} (h : p.Keeps q) : p.Keeps q.enterSoak := by
  unfold Part.enterSoak
  repeat
    first
      | exact h
      | with_reducible apply Part.descalePhase_keeps
      | exact h.leaf rfl rfl rfl

theorem Part.enterSoakDrain_keeps {p q : Part} (h : p.Keeps q) : p.Keeps q.enterSoakDrain := by
  unfold Part.enterSoakDrain
  repeat
    first
      | exact h
      | with_reducible apply Part.descalePhase_keeps
      | with_reducible apply Part.directDrain_keeps
      | exact h.leaf rfl rfl rfl

theorem Part.descaleGiveUp_keeps {p q : Part} (h : p.Keeps q) : p.Keeps q.descaleGiveUp := by
  unfold Part.descaleGiveUp
  repeat
    first
      | exact h
      | with_reducible apply Part.descalePhase_keeps
      | with_reducible apply Part.raiseNotice_keeps
      | exact h.leaf rfl rfl rfl

theorem Part.descaleRelease_keeps {p q : Part} (h : p.Keeps q) : p.Keeps q.descaleRelease := by
  unfold Part.descaleRelease
  first | exact h | exact h.leaf rfl rfl rfl

theorem Part.descaleEnd_keeps {p q : Part} (h : p.Keeps q) : p.Keeps q.descaleEnd := by
  unfold Part.descaleEnd
  split
  · exact Part.raiseNotice_keeps _ (Part.descalePhase_keeps _ _
      ((Part.descaleRelease_keeps (Part.setRinseOwed_keeps false h)).leaf rfl rfl rfl))
  · exact Part.raiseNotice_keeps _ (Part.descalePhase_keeps _ _
      ((Part.descaleRelease_keeps (Part.scaleDescaled_keeps h)).leaf rfl rfl rfl))

theorem Part.nextRinse_keeps {p q : Part} (h : p.Keeps q) : p.Keeps q.nextRinse := by
  unfold Part.nextRinse
  dsimp only
  repeat' split
  all_goals
    repeat
      first
        | exact h
        | with_reducible apply Part.descaleEnd_keeps
        | with_reducible apply Part.directFill_keeps
        | exact h.leaf rfl rfl rfl

theorem Part.descaleDrained_keeps {p q : Part} (h : p.Keeps q) : p.Keeps q.descaleDrained := by
  unfold Part.descaleDrained
  repeat' split
  all_goals
    repeat
      first
        | exact h
        | with_reducible apply Part.descaleEnd_keeps
        | with_reducible apply Part.descalePhase_keeps
        | with_reducible apply Part.enterDose_keeps
        | with_reducible apply Part.nextRinse_keeps
        | with_reducible apply Part.raiseNotice_keeps
        | exact h.leaf rfl rfl rfl

theorem Part.descaleHeated_keeps {p q : Part} (h : p.Keeps q) : p.Keeps q.descaleHeated := by
  unfold Part.descaleHeated
  repeat' split
  all_goals
    repeat
      first
        | exact h
        | with_reducible apply Part.directDrain_keeps
        | with_reducible apply Part.enterSoak_keeps
        | exact h.leaf rfl rfl rfl

theorem Part.descaleDoseTimeout_keeps {p q : Part} (h : p.Keeps q) : p.Keeps q.descaleDoseTimeout := by
  unfold Part.descaleDoseTimeout
  repeat' split
  all_goals
    repeat
      first
        | exact h
        | with_reducible apply Part.raiseNotice_keeps
        | exact h.leaf rfl rfl rfl

theorem Part.descaleRewarm_keeps {p q : Part} (h : p.Keeps q) : p.Keeps q.descaleRewarm := by
  unfold Part.descaleRewarm
  repeat' split
  all_goals
    repeat
      first
        | exact h
        | with_reducible apply Part.directHeat_keeps
        | exact h.leaf rfl rfl rfl

theorem Part.soakDone_keeps {p q : Part} (h : p.Keeps q) : p.Keeps q.soakDone := by
  unfold Part.soakDone
  repeat' split
  all_goals
    repeat
      first
        | exact h
        | with_reducible apply Part.enterSoakDrain_keeps
        | exact h.leaf rfl rfl rfl

theorem Part.descaleReleaseDrainFirst_keeps {p q : Part} (h : p.Keeps q) : p.Keeps q.descaleReleaseDrainFirst := by
  unfold Part.descaleReleaseDrainFirst
  repeat
    first
      | exact h
      | with_reducible apply Part.descalePhase_keeps
      | with_reducible apply Part.descaleRelease_keeps
      | with_reducible apply Part.raiseNotice_keeps
      | exact h.leaf rfl rfl rfl

theorem Part.descaleAbort_keeps {p q : Part} (h : p.Keeps q) : p.Keeps q.descaleAbort.1 := by
  unfold Part.descaleAbort
  repeat' split
  all_goals
    repeat
      first
        | exact h
        | with_reducible apply Part.descaleGiveUp_keeps
        | with_reducible apply Part.descaleReleaseDrainFirst_keeps
        | with_reducible apply Part.enterSoakDrain_keeps
        | with_reducible apply Part.setRinseOwed_keeps
        | exact h.leaf rfl rfl rfl

theorem Part.descaleStop_keeps {p q : Part} (h : p.Keeps q) : p.Keeps q.descaleStop := by
  unfold Part.descaleStop
  repeat
    first
      | exact h
      | with_reducible apply Part.descaleAbort_keeps
      | exact h.leaf rfl rfl rfl

theorem Part.descaleCritical_keeps {p q : Part} (h : p.Keeps q) : p.Keeps q.descaleCritical := by
  unfold Part.descaleCritical
  repeat' split
  all_goals
    repeat
      first
        | exact h
        | with_reducible apply Part.descaleStop_keeps
        | exact h.leaf rfl rfl rfl

theorem Part.descaleBoilerFault_keeps {p q : Part} (h : p.Keeps q) : p.Keeps q.descaleBoilerFault := by
  unfold Part.descaleBoilerFault
  repeat' split
  all_goals
    repeat
      first
        | exact h
        | with_reducible apply Part.directDrain_keeps
        | with_reducible apply Part.enterSoakDrain_keeps
        | with_reducible apply Part.setRinseOwed_keeps
        | exact h.leaf rfl rfl rfl

theorem Part.descaleRecover_keeps {p q : Part} (h : p.Keeps q) : p.Keeps q.descaleRecover :=
  Part.queueItem_keeps _ (.inr (.inr rfl)) (Part.enterSoakDrain_keeps ((Part.setRinseOwed_keeps true h).leaf rfl rfl rfl))

theorem Part.descaleNoRecovery_keeps {p q : Part} (h : p.Keeps q) : p.Keeps q.descaleNoRecovery := by
  unfold Part.descaleNoRecovery
  repeat' split
  all_goals
    repeat
      first
        | exact h
        | with_reducible apply Part.setRinseOwed_keeps
        | exact h.leaf rfl rfl rfl

theorem Part.startReports_keeps {p q : Part} (h : p.Keeps q) : p.Keeps q.startReports := by
  unfold Part.startReports
  all_goals (first | exact h | exact h.leaf rfl rfl rfl)

theorem Part.setMode_keeps {p q : Part} (m : OpMode) (h : p.Keeps q) : p.Keeps (q.setMode m) := by
  unfold Part.setMode
  repeat' split
  all_goals
    repeat
      first
        | exact h
        | with_reducible apply Part.startReports_keeps
        | exact h.leaf rfl rfl rfl

theorem Part.reportIntervalTold_keeps {p q : Part} (h : p.Keeps q) : p.Keeps q.reportIntervalTold := by
  unfold Part.reportIntervalTold
  repeat' split
  all_goals
    repeat
      first
        | exact h
        | with_reducible apply Part.startReports_keeps
        | exact h.leaf rfl rfl rfl

theorem Part.enterStandby_keeps {p q : Part} (h : p.Keeps q) : p.Keeps q.enterStandby := by
  unfold Part.enterStandby
  repeat
    first
      | exact h
      | with_reducible apply Part.setMode_keeps
      | with_reducible apply Part.stopVentDrive_keeps
      | with_reducible apply Part.withdrawBoiler_keeps
      | with_reducible apply Part.withdrawCavity_keeps
      | exact h.leaf rfl rfl rfl

theorem Part.enterHold_keeps {p q : Part} (setpoint : Int) (moist : Bool) (h : p.Keeps q) :
    p.Keeps (q.enterHold setpoint moist) := by
  unfold Part.enterHold
  exact Part.setMode_keeps _ ((Part.writeClimate_keeps _ h).leaf rfl rfl rfl)

theorem Part.clearHold_keeps {p q : Part} (h : p.Keeps q) : p.Keeps q.clearHold := by
  unfold Part.clearHold
  first | exact h | exact h.leaf rfl rfl rfl

theorem Part.endHold_keeps {p q : Part} (h : p.Keeps q) : p.Keeps q.endHold := by
  unfold Part.endHold
  repeat
    first
      | exact h
      | with_reducible apply Part.clearHold_keeps
      | with_reducible apply Part.endCooking_keeps
      | with_reducible apply Part.setMode_keeps
      | exact h.leaf rfl rfl rfl

theorem Part.waitFor_keeps {p q : Part} (r : WaitReason) (h : p.Keeps q) : p.Keeps (q.waitFor r) := by
  unfold Part.waitFor
  first | exact h | exact h.leaf rfl rfl rfl

theorem Part.promptUser_keeps {p q : Part} (h : p.Keeps q) : p.Keeps q.promptUser := by
  unfold Part.promptUser
  repeat
    first
      | exact h
      | with_reducible apply Part.raiseNotice_keeps
      | with_reducible apply Part.waitFor_keeps
      | exact h.leaf rfl rfl rfl

theorem Part.testDegraded_keeps {p q : Part} (beginning : Bool) (h : p.Keeps q) :
    p.Keeps (q.testDegraded beginning) := by
  unfold Part.testDegraded
  repeat' split
  all_goals
    repeat
      first
        | exact h
        | with_reducible apply Part.passGate_keeps
        | with_reducible apply Part.waitFor_keeps
        | exact h.leaf rfl rfl rfl

theorem Part.returnRunning_keeps {p q : Part} (h : p.Keeps q) : p.Keeps q.returnRunning := by
  unfold Part.returnRunning
  repeat
    first
      | exact h
      | with_reducible apply Part.testDegraded_keeps
      | exact h.leaf rfl rfl rfl

theorem Part.probeGone_keeps {p q : Part} (h : p.Keeps q) : p.Keeps q.probeGone := by
  unfold Part.probeGone
  repeat' split
  all_goals
    repeat
      first
        | exact h
        | with_reducible apply Part.waitFor_keeps
        | exact h.leaf rfl rfl rfl

theorem Part.beginStage_keeps {p q : Part} (st : Stage) (h : p.Keeps q) : p.Keeps (q.beginStage st) := by
  unfold Part.beginStage
  have h1 := Part.raiseNotice_keeps .stageChange
    ((Part.writeClimate_keeps st.params h).leaf (r := { q.writeClimate st.params with
      program.written := some st.params
      program.state := .running
      program.reason := none }) rfl rfl rfl)
  dsimp only
  apply Part.testDegraded_keeps
  split
  · exact Part.raiseNotice_keeps _ (h1.leaf rfl rfl rfl)
  · exact h1.leaf rfl rfl rfl

theorem Part.enterStage_keeps {p q : Part} (index : Nat) (h : p.Keeps q) : p.Keeps (q.enterStage index) := by
  unfold Part.enterStage
  dsimp only
  repeat' split
  all_goals
    repeat
      first
        | exact h
        | with_reducible apply Part.beginStage_keeps
        | with_reducible apply Part.promptUser_keeps
        | exact h.leaf rfl rfl rfl

theorem Part.programEnded_keeps {p q : Part} (h : p.Keeps q) : p.Keeps q.programEnded := by
  unfold Part.programEnded
  repeat
    first
      | exact h
      | with_reducible apply Part.raiseNotice_keeps
      | exact h.leaf rfl rfl rfl

theorem Part.programAborted_keeps {p q : Part} (h : p.Keeps q) : p.Keeps q.programAborted := by
  unfold Part.programAborted
  repeat' split
  all_goals
    repeat
      first
        | exact h
        | with_reducible apply Part.raiseNotice_keeps
        | exact h.leaf rfl rfl rfl

theorem Part.endAction_keeps {p q : Part} (h : p.Keeps q) : p.Keeps q.endAction := by
  unfold Part.endAction
  repeat' split
  all_goals
    repeat
      first
        | exact h
        | with_reducible apply Part.endCooking_keeps
        | with_reducible apply Part.enterHold_keeps
        | with_reducible apply Part.programEnded_keeps
        | exact h.leaf rfl rfl rfl

theorem Part.goOn_keeps {p q : Part} (h : p.Keeps q) : p.Keeps q.goOn := by
  unfold Part.goOn
  dsimp only
  repeat' split
  all_goals
    repeat
      first
        | exact h
        | with_reducible apply Part.endAction_keeps
        | with_reducible apply Part.enterStage_keeps
        | exact h.leaf rfl rfl rfl

theorem Part.abortProgram_keeps {p q : Part} (h : p.Keeps q) : p.Keeps q.abortProgram := by
  unfold Part.abortProgram
  repeat' split
  all_goals
    repeat
      first
        | exact h
        | with_reducible apply Part.endCooking_keeps
        | with_reducible apply Part.programAborted_keeps
        | exact h.leaf rfl rfl rfl

theorem Part.pauseProgram_keeps {p q : Part} (r : WaitReason) (h : p.Keeps q) : p.Keeps (q.pauseProgram r) := by
  unfold Part.pauseProgram
  first | exact h | exact h.leaf rfl rfl rfl

theorem Part.resumeProgram_keeps {p q : Part} (h : p.Keeps q) : p.Keeps q.resumeProgram := by
  unfold Part.resumeProgram
  dsimp only
  repeat' split
  all_goals
    repeat
      first
        | exact h
        | with_reducible apply Part.goOn_keeps
        | with_reducible apply Part.returnRunning_keeps
        | with_reducible apply Part.waitFor_keeps
        | exact h.leaf rfl rfl rfl

theorem Part.programMainsLoss_keeps {p q : Part} (h : p.Keeps q) : p.Keeps q.programMainsLoss := by
  unfold Part.programMainsLoss
  repeat' split
  all_goals
    repeat
      first
        | exact h
        | with_reducible apply Part.pauseProgram_keeps
        | exact h.leaf rfl rfl rfl

theorem Part.programMainsReturn_keeps {p q : Part} (h : p.Keeps q) : p.Keeps q.programMainsReturn := by
  unfold Part.programMainsReturn
  repeat' split
  all_goals
    repeat
      first
        | exact h
        | with_reducible apply Part.resumeProgram_keeps
        | exact h.leaf rfl rfl rfl

theorem Part.programResume_keeps {p q : Part} (h : p.Keeps q) : p.Keeps q.programResume := by
  unfold Part.programResume
  cases q.program.written with
  | none =>
    dsimp only
    split
    · exact h.leaf rfl rfl rfl
    · exact Part.resumeProgram_keeps h
  | some c =>
    have h1 := Part.writeClimate_keeps c h
    dsimp only
    split
    · exact h1.leaf rfl rfl rfl
    · exact Part.resumeProgram_keeps h1

theorem Part.tellExecutor_keeps {p q : Part} (how : Settlement) (h : p.Keeps q) : p.Keeps (q.tellExecutor how) := by
  unfold Part.tellExecutor
  repeat' split
  all_goals
    repeat
      first
        | exact h
        | with_reducible apply Part.goOn_keeps
        | exact h.leaf rfl rfl rfl

theorem Part.settleBlowdown_keeps {p q : Part} (how : Settlement) (h : p.Keeps q) :
    p.Keeps (q.settleBlowdown how) := by
  unfold Part.settleBlowdown
  repeat' split
  all_goals
    repeat
      first
        | exact h
        | with_reducible apply Part.tellExecutor_keeps
        | exact h.leaf rfl rfl rfl

theorem Part.refuseWaiting_keeps {p q : Part} (h : p.Keeps q) : p.Keeps q.refuseWaiting := by
  unfold Part.refuseWaiting
  repeat' split
  all_goals
    repeat
      first
        | exact h
        | with_reducible apply Part.settleBlowdown_keeps
        | exact h.leaf rfl rfl rfl

theorem Part.withdrawRequest_keeps {p q : Part} (h : p.Keeps q) : p.Keeps q.withdrawRequest := by
  unfold Part.withdrawRequest
  repeat' split
  all_goals
    repeat
      first
        | exact h
        | with_reducible apply Part.settleBlowdown_keeps
        | exact h.leaf rfl rfl rfl

theorem Part.startBlowdown_keeps {p q : Part} (h : p.Keeps q) : p.Keeps q.startBlowdown := by
  unfold Part.startBlowdown
  repeat
    first
      | exact h
      | with_reducible apply Part.startDrain_keeps
      | exact h.leaf rfl rfl rfl

theorem Part.answerBlowdown_keeps {p q : Part} (h : p.Keeps q) : p.Keeps q.answerBlowdown := by
  unfold Part.answerBlowdown
  repeat' split
  all_goals
    repeat
      first
        | exact h
        | with_reducible apply Part.scaleDrained_keeps
        | with_reducible apply Part.settleBlowdown_keeps
        | with_reducible apply Part.startBlowdown_keeps
        | exact h.leaf rfl rfl rfl

theorem Part.requestBlowdown_keeps {p q : Part} (h : p.Keeps q) : p.Keeps q.requestBlowdown := by
  unfold Part.requestBlowdown
  repeat' split
  all_goals
    repeat
      first
        | exact h
        | with_reducible apply Part.answerBlowdown_keeps
        | exact h.leaf rfl rfl rfl

theorem Part.testSituations_keeps {p q : Part} (h : p.Keeps q) : p.Keeps q.testSituations := by
  unfold Part.testSituations
  repeat' split
  all_goals
    repeat
      first
        | exact h
        | with_reducible apply Part.requestBlowdown_keeps
        | exact h.leaf rfl rfl rfl

theorem Part.boundary_keeps {p q : Part} (h : p.Keeps q) : p.Keeps q.boundary := by
  unfold Part.boundary
  dsimp only
  repeat' split
  all_goals
    repeat
      first
        | exact h
        | with_reducible apply Part.goOn_keeps
        | with_reducible apply Part.requestBlowdown_keeps
        | exact h.leaf rfl rfl rfl

theorem Part.finishStage_keeps {p q : Part} (st : Stage) (h : p.Keeps q) : p.Keeps (q.finishStage st) := by
  unfold Part.finishStage
  repeat' split
  all_goals
    repeat
      first
        | exact h
        | with_reducible apply Part.boundary_keeps
        | with_reducible apply Part.promptUser_keeps
        | exact h.leaf rfl rfl rfl

theorem Part.leaveCooking_keeps {p q : Part} (h : p.Keeps q) : p.Keeps q.leaveCooking := by
  unfold Part.leaveCooking
  dsimp only
  repeat' split
  all_goals
    repeat
      first
        | exact h
        | with_reducible apply Part.boilerEndFill_keeps
        | with_reducible apply Part.boilerRest_keeps
        | with_reducible apply Part.handOver_keeps
        | with_reducible apply Part.noBoilerRequest_keeps
        | with_reducible apply Part.refuseWaiting_keeps
        | exact h.leaf rfl rfl rfl

theorem Part.followOwner_keeps {p q : Part} (h : p.Keeps q) : p.Keeps q.followOwner := by
  unfold Part.followOwner
  repeat' split
  all_goals
    repeat
      first
        | exact h
        | with_reducible apply Part.leaveCooking_keeps
        | exact h.leaf rfl rfl rfl

theorem Part.boilerStop_keeps {p q : Part} (h : p.Keeps q) : p.Keeps q.boilerStop := by
  unfold Part.boilerStop
  repeat' split
  all_goals
    repeat
      first
        | exact h
        | with_reducible apply Part.boilerEndFill_keeps
        | with_reducible apply Part.boilerRest_keeps
        | with_reducible apply Part.handOver_keeps
        | with_reducible apply Part.noBoilerRequest_keeps
        | with_reducible apply Part.refuseWaiting_keeps
        | exact h.leaf rfl rfl rfl

theorem Part.enterFault_keeps {p q : Part} (h : p.Keeps q) : p.Keeps q.enterFault := by
  unfold Part.enterFault
  dsimp only
  repeat' split
  all_goals
    repeat
      first
        | exact h
        | with_reducible apply Part.boilerRest_keeps
        | with_reducible apply Part.descaleBoilerFault_keeps
        | with_reducible apply Part.noBoilerRequest_keeps
        | with_reducible apply Part.refuseWaiting_keeps
        | with_reducible apply Part.settleBlowdown_keeps
        | exact h.leaf rfl rfl rfl

theorem Part.exitFault_keeps {p q : Part} (h : p.Keeps q) : p.Keeps q.exitFault := by
  unfold Part.exitFault
  dsimp only
  repeat' split
  all_goals
    repeat
      first
        | exact h
        | with_reducible apply Part.boilerEmpty_keeps
        | with_reducible apply Part.descaleDrained_keeps
        | with_reducible apply Part.startDrain_keeps
        | exact h.leaf rfl rfl rfl

theorem Part.afterDrain_keeps {p q : Part} (purpose : Option Purpose) (next : Continuation) (h : p.Keeps q) :
    p.Keeps (q.afterDrain purpose next) := by
  unfold Part.afterDrain
  repeat' split
  all_goals
    repeat
      first
        | exact h
        | with_reducible apply Part.descaleDrained_keeps
        | with_reducible apply Part.startFill_keeps
        | exact h.leaf rfl rfl rfl

theorem Part.drainDone_keeps {p q : Part} (h : p.Keeps q) : p.Keeps q.drainDone := by
  unfold Part.drainDone
  have h1 := Part.scaleDrained_keeps q.boiler.purpose (Part.boilerEmpty_keeps h)
  dsimp only
  apply Part.afterDrain_keeps
  split
  · exact Part.followOwner_keeps (Part.settleBlowdown_keeps _ (h1.leaf rfl rfl rfl))
  · exact h1

theorem Part.refillRunsOn_keeps {p q : Part} (h : p.Keeps q) : p.Keeps q.refillRunsOn := by
  unfold Part.refillRunsOn
  exact Part.refuseWaiting_keeps (h.leaf rfl rfl rfl)

theorem Part.endRefill_keeps {p q : Part} (h : p.Keeps q) : p.Keeps q.endRefill := by
  unfold Part.endRefill
  split <;> first | exact h | exact Part.boilerEndFill_keeps h

theorem Part.abandonBlowdown_keeps {p q : Part} (h : p.Keeps q) : p.Keeps q.abandonBlowdown := by
  unfold Part.abandonBlowdown
  repeat
    first
      | exact h
      | with_reducible apply Part.boilerEmpty_keeps
      | with_reducible apply Part.normalFill_keeps
      | with_reducible apply Part.settleBlowdown_keeps
      | exact h.leaf rfl rfl rfl

theorem Part.followSteamWanted_keeps {p q : Part} (h : p.Keeps q) : p.Keeps q.followSteamWanted := by
  unfold Part.followSteamWanted
  dsimp only
  repeat' split
  all_goals
    repeat
      first
        | exact h
        | with_reducible apply Part.ventTest_keeps
        | exact h.leaf rfl rfl rfl

theorem Part.followGiveUp_keeps {p q : Part} (h : p.Keeps q) : p.Keeps q.followGiveUp := by
  unfold Part.followGiveUp
  repeat' split
  all_goals
    repeat
      first
        | exact h
        | with_reducible apply Part.descaleGiveUp_keeps
        | exact h.leaf rfl rfl rfl

theorem Part.followSteaming_keeps {p q : Part} (h : p.Keeps q) : p.Keeps q.followSteaming := by
  unfold Part.followSteaming
  have h1 : p.Keeps { q.handOver with boiler.lastFill := q.boiler.flow / 2 } :=
    (Part.handOver_keeps h).leaf rfl rfl rfl
  repeat' split
  all_goals
    first
      | exact h
      | exact Part.boilerReady_keeps h
      | exact Part.boilerReady_keeps h1

theorem Part.followWaiting_keeps {p q : Part} (h : p.Keeps q) : p.Keeps q.followWaiting := by
  unfold Part.followWaiting
  repeat' split
  all_goals
    repeat
      first
        | exact h
        | with_reducible apply Part.startBlowdown_keeps
        | exact h.leaf rfl rfl rfl

theorem Part.followLull_keeps {p q : Part} (h : p.Keeps q) : p.Keeps q.followLull := by
  unfold Part.followLull
  repeat' split
  all_goals (first | exact h | exact h.leaf rfl rfl rfl)

theorem Part.followDemand_keeps {p q : Part} (h : p.Keeps q) : p.Keeps q.followDemand := by
  unfold Part.followDemand
  repeat' split
  all_goals
    repeat
      first
        | exact h
        | with_reducible apply Part.boilerRest_keeps
        | with_reducible apply Part.normalFill_keeps
        | exact h.leaf rfl rfl rfl

theorem Part.followBoiler_keeps {p q : Part} (h : p.Keeps q) : p.Keeps q.followBoiler := by
  unfold Part.followBoiler
  repeat' split
  all_goals (first | exact h | exact h.leaf rfl rfl rfl)

theorem Part.followDegraded_keeps {p q : Part} (h : p.Keeps q) : p.Keeps q.followDegraded := by
  unfold Part.followDegraded
  repeat' split
  all_goals
    repeat
      first
        | exact h
        | with_reducible apply Part.returnRunning_keeps
        | with_reducible apply Part.waitFor_keeps
        | exact h.leaf rfl rfl rfl

theorem Part.followStandby_keeps {p q : Part} (h : p.Keeps q) : p.Keeps q.followStandby := by
  unfold Part.followStandby
  repeat' split
  all_goals
    repeat
      first
        | exact h
        | with_reducible apply Part.enterStandby_keeps
        | with_reducible apply Part.startDrain_keeps
        | exact h.leaf rfl rfl rfl

theorem Part.reactOnce_keeps {p q : Part} (h : p.Keeps q) : p.Keeps q.reactOnce := by
  unfold Part.reactOnce
  have a := Part.followOwner_keeps (Part.followGiveUp_keeps (Part.followSteamWanted_keeps h))
  have b := Part.followWaiting_keeps (Part.followSteaming_keeps (Part.followSuspension_keeps a))
  have c := Part.testSituations_keeps (Part.withdrawRequest_keeps (Part.followLull_keeps b))
  have d := Part.giveHeld_keeps (Part.followBoiler_keeps (Part.followDemand_keeps c))
  exact Part.followStandby_keeps (Part.storeDescale_keeps (Part.followDegraded_keeps d))

theorem Part.react_keeps {p : Part} : ∀ (n : Nat) {q : Part}, p.Keeps q → p.Keeps (q.react n)
  | 0, _, h => h
  | n + 1, _, h => Part.react_keeps n (Part.reactOnce_keeps h)

theorem Part.settle_keeps {p q : Part} (h : p.Keeps q) : p.Keeps q.settle := Part.react_keeps 5 h

end Sys2Proof.Machine
end

