-- ==== Sys2Proof/Laws/Link.lean ====
section
/-! SUPPORT. What an admitted request given to a listening part does, once for all requests: it is taken, its owner settles
it, and its reply begins (R156, R157, R159). -/

namespace Sys2Proof.Machine

/-- R182: a two-byte field is its high byte, then its low byte. -/
theorem halfOf_bytes (h : Half) : halfOf (hiByte h) (loByte h) = h := by
  apply BitVec.eq_of_getLsbD_eq
  intro i hi
  simp only [halfOf, hiByte, loByte, BitVec.getLsbD_append, BitVec.getLsbD_extractLsb']
  by_cases h8 : i < 8
  · simp [h8]
  · have : i - 8 < 8 := by omega
    simp [h8, this, show 8 + (i - 8) = i by omega]

/-- R182: a four-byte field from its bytes. -/
theorem quadOf_bytes (q : Quad) :
    quadOf (q.extractLsb' 24 8) (q.extractLsb' 16 8) (q.extractLsb' 8 8) (q.extractLsb' 0 8) = q := by
  apply BitVec.eq_of_getLsbD_eq
  intro i hi
  simp only [quadOf, BitVec.getLsbD_append, BitVec.getLsbD_extractLsb']
  by_cases h8 : i < 8
  · simp [h8]
  by_cases h16 : i < 16
  · simp [h8, show i - 8 < 8 by omega, show 8 + (i - 8) = i by omega]
  by_cases h24 : i < 24
  · simp [h8, show ¬ i - 8 < 8 by omega, show i - 8 - 8 < 8 by omega, show 16 + (i - 8 - 8) = i by omega]
  · simp [h8, show ¬ i - 8 < 8 by omega, show ¬ i - 8 - 8 < 8 by omega, show i - 8 - 8 - 8 < 8 by omega,
      show 24 + (i - 8 - 8 - 8) = i by omega]

/-- The climate block of its bytes (section 12.4). -/
theorem climateBlockOf_bytes (b : ClimateBlock) : climateBlockOf (climateBytes b) = some b := by
  simp [climateBytes, climateBlockOf, halfOf_bytes]

/-- The stage record of its bytes (section 12.4). -/
theorem stageBlockOf_bytes (b : StageBlock) : stageBlockOf (stageBytes b) = some b := by
  have h : (stageBytes b).take 14 = climateBytes b.climate := rfl
  unfold stageBlockOf
  rw [h, climateBlockOf_bytes]
  simp [stageBytes, climateBytes, quadBytes, halfBytes, halfOf_bytes, quadOf_bytes]

/-- R183: a request's frame has the kind byte of its kind. -/
theorem ofCode_request (q : Request) : ReqKind.ofCode (encodeRequest q).kind = some (requestKind q) := by
  cases q <;> rfl

/-- R183: a request's frame has the payload length of its kind. -/
theorem length_request (q : Request) : (encodeRequest q).payload.length = (requestKind q).length := by
  cases q <;> rfl

/-- R183: a request's payload spells that request. -/
theorem readPayload_request (q : Request) : readPayload (requestKind q) (encodeRequest q).payload = some q := by
  cases q <;>
    simp [encodeRequest, requestPayload, requestKind, readPayload, bare, withByte, halfOf_bytes, halfBytes,
      climateBlockOf_bytes, stageBlockOf_bytes]

/-- The direct command of a request submits it (log entry 7). -/
theorem exec_command (q : Request) (s : State) : exec q.command s = .next (s.submit q) := by cases q <;> rfl

/-- What a listening part holds when a request has been taken, before its owner is asked. -/
def State.taken (s : State) (q : Request) : State := { s with link.inHand := some (encodeRequest q) }

@[simp] theorem State.taken_part (s : State) (q : Request) : (s.taken q).part = s.part := rfl
@[simp] theorem State.taken_free (s : State) (q : Request) : (s.taken q).free = s.free := rfl
@[simp] theorem State.taken_flash (s : State) (q : Request) : (s.taken q).flash = s.flash := rfl
@[simp] theorem State.taken_pending (s : State) (q : Request) : (s.taken q).pending = s.pending := rfl

/-- R155, R156: a listening part takes a request at once. -/
theorem submit_listening {s : State} (q : Request) (h : s.listening) :
    s.submit q =
      let r := (s.taken q).answer (encodeRequest q)
      { r.1 with link := r.1.link.sendReply (replyFrame (requestKind q).code r.2) } := by
  obtain ⟨h1, h2, h3, h4, h5, h6⟩ := h
  have hq : ({ s.link with inHand := some (encodeRequest q), queue := [] } : Link)
      = { s.link with inHand := some (encodeRequest q) } := by rw [← h3]
  have ht : State.woken { s with link.inHand := some (encodeRequest q), link.queue := [] } = s.taken q := by
    simp [State.woken, h6, State.taken, hq]
  have hc : s.link.canTake = true := by simp [Link.canTake, h1, h2, h5]
  rw [State.submit, if_neg (by simp [h5]), if_pos ⟨hc, h3⟩, State.handle, ht]
  rfl

/-- R138, R156, R158: a request that the mode does not admit is answered with the mode's code. -/
theorem exec_refused {s : State} {q : Request} {c : ResultCode} (h : s.listening)
    (ha : admission s.part.mode (requestKind q) = some c) :
    exec q.command s = .next (s.replied q ⟨c, []⟩) := by
  rw [exec_command, submit_listening q h]
  have h4 := h.2.2.2.1
  simp only [State.answer, ofCode_request, length_request, State.taken_part, ha]
  simp [State.taken, Link.sendReply, h4, State.replied, Reply.bare]

/-- R156: an admitted request goes to its owner, and its reply begins. -/
theorem exec_admitted {s : State} {q : Request} (h : s.listening) (ha : s.admits q) :
    exec q.command s = .next
      (let r := (s.taken q).serve q
       { r.1 with link := r.1.link.sendReply (replyFrame (requestKind q).code r.2) }) := by
  rw [exec_command, submit_listening q h]
  unfold State.admits at ha
  simp [State.answer, ofCode_request, length_request, State.taken_part, ha, readPayload_request]

/-- An admitted request whose owner's effect no other block follows. -/
theorem exec_plain {s : State} {q : Request} {r : Part × Reply} (h : s.listening) (ha : s.admits q)
    (hr : (s.taken q).serve q = (s.taken q).plain r) :
    exec q.command s = .next { s.replied q r.2 with part := r.1 } := by
  have h4 := h.2.2.2.1
  rw [exec_admitted h ha, hr]
  simp [State.plain, State.taken, Link.sendReply, h4, State.replied]

/-- An admitted request that its owner refuses changes nothing (R157). -/
theorem exec_declined {s : State} {q : Request} {p : Part} {r : Reply} (h : s.listening) (ha : s.admits q)
    (hr : (s.taken q).serve q = (s.taken q).acting (p, r)) (hc : carriedOut r.code = false) :
    exec q.command s = .next (s.replied q r) := by
  have h4 := h.2.2.2.1
  rw [exec_admitted h ha, hr]
  simp [State.acting, hc, State.taken, Link.sendReply, h4, State.replied]

/-- An admitted request that its owner carries out; the reactions follow. -/
theorem exec_carried {s : State} {q : Request} {p : Part} {r : Reply} (h : s.listening) (ha : s.admits q)
    (hr : (s.taken q).serve q = (s.taken q).acting (p, r)) (hc : carriedOut r.code = true) :
    exec q.command s = .next (s.carried q r p) := by
  have h4 := h.2.2.2.1
  have h5 := h.2.2.2.2.1
  rw [exec_admitted h ha, hr]
  simp [State.acting, hc, State.taken, Link.sendReply, h4, State.replied, State.carried, State.onBlocks, h5,
    Part.quietReports]

/-- R165: whatever the blocks do in the reset wait, no report timer runs and no report is pending after it. -/
theorem State.onBlocks_reportsQuiet (s : State) (f : Part → Part) : (s.onBlocks f).reportsQuiet := by
  intro h
  have h' : s.link.resetWait = true := h
  simp [State.onBlocks, Part.quietReports, h', Report.halt]

/-- R138: PING, STATUS_GET and LINK_STATS are admitted in every mode. -/
theorem admits_always {s : State} {q : Request} (h : admissionRow (requestKind q) = .always)
    (hw : waitsForImage (requestKind q) = false) : s.admits q := by
  unfold State.admits admission
  split <;> simp [h, hw, admissionHold, admissionPending, admissionSafeStop]

end Sys2Proof.Machine
end

