-- ==== Sys2Proof/Laws/Persists.lean ====
section
/-! SUPPORT. What every event in the blocks leaves alone: `Part.Persists`, one lemma per event and per operation of the
ring, the mains and the fault set. -/

namespace Sys2Proof.Machine

theorem Part.Keeps.ring {p q : Part} (h : p.Keeps q) : q.ring = p.ring := congrArg Fixed.ring h.fixed

theorem Part.Keeps.persists {p q : Part} (h : p.Keeps q) : p.Persists q := by
  have f := h.fixed
  refine ⟨?_, h.adds, fun hn => by rw [h.ring]; exact hn⟩
  have e := congrArg Fixed.enable f
  have i := congrArg Fixed.inHand f
  have u := congrArg Fixed.pulse f
  have n := congrArg Fixed.number f
  have c : q.capture = p.capture := congrArg Fixed.capture f
  have b := congrArg Fixed.base f
  have d := congrArg Fixed.defaulted f
  have r := congrArg Fixed.run f
  have g := congrArg Fixed.header f
  have s := congrArg Fixed.stages f
  simp only [Part.fixed] at e i u n b d r g s
  simp only [Part.hostOwned, e, i, u, n, c, b, d, r, g, s]

theorem Part.Persists.refl (p : Part) : p.Persists p := ⟨rfl, .refl p, id⟩

theorem Part.Persists.trans {p q r : Part} (h : p.Persists q) (k : q.Persists r) : p.Persists r :=
  ⟨k.owned.trans h.owned, h.adds.trans k.adds, fun hn => k.nodes (h.nodes hn)⟩

theorem Part.Persists.keeps {p q r : Part} (h : p.Persists q) (k : q.Keeps r) : p.Persists r := h.trans k.persists

/-- A change outside the host-owned values, the notices, the store and the length of the node table. -/
theorem Part.Persists.leaf {p q r : Part} (h : p.Persists q) (ho : r.hostOwned = q.hostOwned)
    (hn : r.notice.pending = q.notice.pending) (hs : r.store = q.store)
    (hl : r.ring.nodes.length = q.ring.nodes.length) : p.Persists r :=
  ⟨ho.trans h.owned, h.adds.trans ⟨fun i hi => by rw [hn]; exact hi, fun i _ => by rw [hs], fun ho => by rw [hs]; exact ho⟩,
    fun hk => by rw [hl]; exact h.nodes hk⟩

@[simp] theorem setAt_length {α : Type} (xs : List α) (n : Nat) (a : α) : (setAt xs n a).length = xs.length := by
  induction xs generalizing n with
  | nil => rfl
  | cons x xs ih => cases n with
    | zero => rfl
    | succ n => simp [setAt, ih]

@[simp] theorem Ring.putEntry_length (r : Ring) (a : Nat) (n : NodeEntry) :
    (r.putEntry a n).nodes.length = r.nodes.length := setAt_length _ _ _

@[simp] theorem Ring.beginPoll_length (r : Ring) (a : Nat) : (r.beginPoll a).nodes.length = r.nodes.length := by
  simp [Ring.beginPoll]

@[simp] theorem Ring.pollFrom_length (r : Ring) (a : Nat) : (r.pollFrom a).nodes.length = r.nodes.length := by
  unfold Ring.pollFrom
  split <;> simp

theorem Part.latchTach_persists {p q : Part} (h : p.Persists q) : p.Persists q.latchTach := by
  unfold Part.latchTach
  all_goals
    first
      | exact h
      | exact h.leaf rfl rfl rfl rfl

theorem Part.openFirstWindow_persists {p q : Part} (h : p.Persists q) : p.Persists q.openFirstWindow := by
  unfold Part.openFirstWindow
  first
    | exact h
    | exact h.leaf rfl rfl rfl rfl

theorem Part.grantWindow_persists {p q : Part} (h : p.Persists q) : p.Persists q.grantWindow := by
  unfold Part.grantWindow
  repeat' split
  all_goals
    first
      | exact h
      | exact h.leaf rfl rfl rfl rfl

theorem Part.wake_persists {p q : Part} (h : p.Persists q) : p.Persists q.wake := by
  unfold Part.wake
  repeat' split
  all_goals
    repeat
      first
        | exact h
        | with_reducible refine Part.Persists.keeps ?_ (Part.setMode_keeps _ (.refl _))
        | exact h.leaf rfl rfl rfl rfl

theorem Part.latch_persists {p q : Part} (k : FaultKind) (h : p.Persists q) : p.Persists (q.latch k) := by
  unfold Part.latch
  repeat' split
  all_goals
    repeat
      first
        | exact h
        | with_reducible refine Part.Persists.keeps ?_ (Part.raiseNotice_keeps _ (.refl _))
        | exact h.leaf rfl rfl rfl rfl

theorem Part.safeStop_persists {p q : Part} (h : p.Persists q) : p.Persists q.safeStop := by
  unfold Part.safeStop
  repeat' split
  all_goals
    repeat
      first
        | exact h
        | with_reducible refine Part.Persists.keeps ?_ (Part.clearHold_keeps (.refl _))
        | with_reducible refine Part.Persists.keeps ?_ (Part.setMode_keeps _ (.refl _))
        | exact h.leaf rfl rfl rfl rfl

theorem Part.criticalEffects_persists {p q : Part} (h : p.Persists q) : p.Persists q.criticalEffects := by
  unfold Part.criticalEffects
  repeat
    first
      | exact h
      | with_reducible apply Part.safeStop_persists
      | with_reducible apply Part.wake_persists
      | with_reducible refine Part.Persists.keeps ?_ (Part.boilerStop_keeps (.refl _))
      | with_reducible refine Part.Persists.keeps ?_ (Part.descaleCritical_keeps (.refl _))
      | with_reducible refine Part.Persists.keeps ?_ (Part.forcedOff_keeps (.refl _))
      | with_reducible refine Part.Persists.keeps ?_ (Part.programAborted_keeps (.refl _))
      | with_reducible refine Part.Persists.keeps ?_ (Part.withdrawBoiler_keeps (.refl _))
      | with_reducible refine Part.Persists.keeps ?_ (Part.withdrawCavity_keeps (.refl _))
      | exact h.leaf rfl rfl rfl rfl

theorem Part.cancelStandby_persists {p q : Part} (h : p.Persists q) : p.Persists q.cancelStandby := by
  unfold Part.cancelStandby
  repeat' split
  all_goals
    repeat
      first
        | exact h
        | with_reducible refine Part.Persists.keeps ?_ (Part.setMode_keeps _ (.refl _))
        | exact h.leaf rfl rfl rfl rfl

theorem Part.steamEffects_persists {p q : Part} (h : p.Persists q) : p.Persists q.steamEffects := by
  unfold Part.steamEffects
  repeat
    first
      | exact h
      | with_reducible apply Part.cancelStandby_persists
      | with_reducible refine Part.Persists.keeps ?_ (Part.enterFault_keeps (.refl _))
      | with_reducible refine Part.Persists.keeps ?_ (Part.withdrawBoiler_keeps (.refl _))
      | exact h.leaf rfl rfl rfl rfl

theorem Part.stallEffects_persists {p q : Part} (h : p.Persists q) : p.Persists q.stallEffects := by
  unfold Part.stallEffects
  repeat' split
  all_goals
    repeat
      first
        | exact h
        | with_reducible refine Part.Persists.keeps ?_ (Part.noDemand_keeps (.refl _))
        | exact h.leaf rfl rfl rfl rfl

theorem Part.raiseFault_persists {p q : Part} (k : FaultKind) (h : p.Persists q) : p.Persists (q.raiseFault k) := by
  unfold Part.raiseFault
  repeat' split
  all_goals
    repeat
      first
        | exact h
        | with_reducible apply Part.criticalEffects_persists
        | with_reducible apply Part.latch_persists
        | with_reducible apply Part.stallEffects_persists
        | with_reducible apply Part.steamEffects_persists
        | exact h.leaf rfl rfl rfl rfl

theorem Part.unlatch_persists {p q : Part} (k : FaultKind) (h : p.Persists q) : p.Persists (q.unlatch k) := by
  unfold Part.unlatch
  all_goals
    first
      | exact h
      | exact h.leaf rfl rfl rfl rfl

theorem Part.clearFault_persists {p q : Part} (k : FaultKind) (h : p.Persists q) : p.Persists (q.clearFault k) := by
  unfold Part.clearFault
  dsimp only
  repeat' split
  all_goals
    repeat
      first
        | exact h
        | with_reducible apply Part.safeStop_persists
        | with_reducible apply Part.unlatch_persists
        | with_reducible refine Part.Persists.keeps ?_ (Part.exitFault_keeps (.refl _))
        | with_reducible refine Part.Persists.keeps ?_ (Part.setMode_keeps _ (.refl _))
        | exact h.leaf rfl rfl rfl rfl

theorem Part.overtempWatch_persists {p q : Part} (h : p.Persists q) : p.Persists q.overtempWatch := by
  unfold Part.overtempWatch
  repeat' split
  all_goals
    repeat
      first
        | exact h
        | with_reducible apply Part.raiseFault_persists
        | exact h.leaf rfl rfl rfl rfl

theorem Part.overheatWatch_persists {p q : Part} (h : p.Persists q) : p.Persists q.overheatWatch := by
  unfold Part.overheatWatch
  repeat' split
  all_goals
    repeat
      first
        | exact h
        | with_reducible apply Part.raiseFault_persists
        | exact h.leaf rfl rfl rfl rfl

theorem Part.offerCapture_persists {p q : Part} (h : p.Persists q) : p.Persists q.offerCapture := by
  unfold Part.offerCapture
  repeat' split
  all_goals
    repeat
      first
        | exact h
        | with_reducible refine Part.Persists.keeps ?_ (Part.raiseNotice_keeps _ (.refl _))
        | exact h.leaf rfl rfl rfl rfl

theorem Part.scanClimate_persists {p q : Part} (d : DoorChange) (h : p.Persists q) :
    p.Persists (q.scanClimate d) := by
  unfold Part.scanClimate
  repeat' split
  all_goals
    repeat
      first
        | exact h
        | with_reducible apply Part.overtempWatch_persists
        | with_reducible refine Part.Persists.keeps ?_ (Part.climateDoorClose_keeps (.refl _))
        | with_reducible refine Part.Persists.keeps ?_ (Part.climateDoorOpen_keeps (.refl _))
        | with_reducible refine Part.Persists.keeps ?_ (Part.climateScan_keeps (.refl _))
        | exact h.leaf rfl rfl rfl rfl

theorem Part.scanPower_persists {p q : Part} (d : DoorChange) (h : p.Persists q) : p.Persists (q.scanPower d) := by
  unfold Part.scanPower
  dsimp only
  repeat' split
  all_goals
    repeat
      first
        | exact h
        | with_reducible refine Part.Persists.keeps ?_ (Part.withdrawBoiler_keeps (.refl _))
        | with_reducible refine Part.Persists.keeps ?_ (Part.withdrawCavity_keeps (.refl _))
        | exact h.leaf rfl rfl rfl rfl

theorem Part.heatingEnd_persists {p q : Part} (h : p.Persists q) : p.Persists q.heatingEnd := by
  unfold Part.heatingEnd
  repeat' split
  all_goals
    repeat
      first
        | exact h
        | with_reducible refine Part.Persists.keeps ?_ (Part.boilerReady_keeps (.refl _))
        | with_reducible refine Part.Persists.keeps ?_ (Part.boilerSteamOrReady_keeps (.refl _))
        | with_reducible refine Part.Persists.keeps ?_ (Part.descaleHeated_keeps (.refl _))
        | with_reducible refine Part.Persists.keeps ?_ (Part.noBoilerRequest_keeps (.refl _))
        | with_reducible refine Part.Persists.keeps ?_ (Part.startDrain_keeps _ _ (.refl _))
        | exact h.leaf rfl rfl rfl rfl

theorem Part.scanHeating_persists {p q : Part} (h : p.Persists q) : p.Persists q.scanHeating := by
  unfold Part.scanHeating
  repeat' split
  all_goals
    repeat
      first
        | exact h
        | with_reducible apply Part.heatingEnd_persists
        | with_reducible refine Part.Persists.keeps ?_ (Part.noBoilerRequest_keeps (.refl _))
        | with_reducible refine Part.Persists.keeps ?_ (Part.normalFill_keeps (.refl _))
        | exact h.leaf rfl rfl rfl rfl

theorem Part.scanKeepHot_persists {p q : Part} (h : p.Persists q) : p.Persists q.scanKeepHot := by
  unfold Part.scanKeepHot
  repeat' split
  all_goals
    repeat
      first
        | exact h
        | with_reducible refine Part.Persists.keeps ?_ (Part.noBoilerRequest_keeps (.refl _))
        | exact h.leaf rfl rfl rfl rfl

theorem Part.scanLevel_persists {p q : Part} (h : p.Persists q) : p.Persists q.scanLevel := by
  unfold Part.scanLevel
  repeat' split
  all_goals
    first
      | exact h
      | exact h.leaf rfl rfl rfl rfl

theorem Part.scanFill_persists {p q : Part} (h : p.Persists q) : p.Persists q.scanFill := by
  unfold Part.scanFill
  repeat' split
  all_goals
    repeat
      first
        | exact h
        | with_reducible refine Part.Persists.keeps ?_ (Part.fillDone_keeps (.refl _))
        | with_reducible refine Part.Persists.keeps ?_ (Part.pauseFill_keeps _ (.refl _))
        | exact h.leaf rfl rfl rfl rfl

theorem Part.scanPaused_persists {p q : Part} (h : p.Persists q) : p.Persists q.scanPaused := by
  unfold Part.scanPaused
  repeat' split
  all_goals
    repeat
      first
        | exact h
        | with_reducible refine Part.Persists.keeps ?_ (Part.fillDone_keeps (.refl _))
        | with_reducible refine Part.Persists.keeps ?_ (Part.runFill_keeps (.refl _))
        | exact h.leaf rfl rfl rfl rfl

theorem Part.scanDraining_persists {p q : Part} (h : p.Persists q) : p.Persists q.scanDraining := by
  unfold Part.scanDraining
  repeat' split
  all_goals
    repeat
      first
        | exact h
        | with_reducible refine Part.Persists.keeps ?_ (Part.startRunOn_keeps (.refl _))
        | exact h.leaf rfl rfl rfl rfl

theorem Part.scanBoiler_persists {p q : Part} (h : p.Persists q) : p.Persists q.scanBoiler := by
  unfold Part.scanBoiler
  dsimp only
  repeat' split
  all_goals
    repeat
      first
        | exact h
        | with_reducible apply Part.overheatWatch_persists
        | with_reducible apply Part.scanDraining_persists
        | with_reducible apply Part.scanFill_persists
        | with_reducible apply Part.scanHeating_persists
        | with_reducible apply Part.scanKeepHot_persists
        | with_reducible apply Part.scanLevel_persists
        | with_reducible apply Part.scanPaused_persists
        | with_reducible refine Part.Persists.keeps ?_ (Part.enterDraining_keeps (.refl _))
        | exact h.leaf rfl rfl rfl rfl

theorem Part.scanProgram_persists {p q : Part} (h : p.Persists q) : p.Persists q.scanProgram := by
  unfold Part.scanProgram
  dsimp only
  repeat' split
  all_goals
    repeat
      first
        | exact h
        | with_reducible refine Part.Persists.keeps ?_ (Part.finishStage_keeps _ (.refl _))
        | with_reducible refine Part.Persists.keeps ?_ (Part.testDegraded_keeps _ (.refl _))
        | exact h.leaf rfl rfl rfl rfl

theorem Part.scanMode_persists {p q : Part} (d : DoorChange) (h : p.Persists q) : p.Persists (q.scanMode d) := by
  unfold Part.scanMode
  repeat' split
  all_goals
    repeat
      first
        | exact h
        | with_reducible apply Part.wake_persists
        | exact h.leaf rfl rfl rfl rfl

theorem Part.boilerStartup_persists {p q : Part} (h : p.Persists q) : p.Persists q.boilerStartup := by
  unfold Part.boilerStartup
  repeat' split
  all_goals
    repeat
      first
        | exact h
        | with_reducible refine Part.Persists.keeps ?_ (Part.startDrain_keeps _ _ (.refl _))
        | exact h.leaf rfl rfl rfl rfl

theorem Part.waterStep_persists {p q : Part} (h : p.Persists q) : p.Persists q.waterStep := by
  unfold Part.waterStep
  have a : ∀ r : Part, p.Persists r →
      p.Persists (Part.setMode { r with mode.startup := .done } (if r.critical then .safeStop else .active)) := by
    intro r hr
    have b : p.Persists { r with mode.startup := .done } := hr.leaf rfl rfl rfl rfl
    exact b.keeps (Part.setMode_keeps _ (.refl _))
  split
  · apply a
    split
    · exact h.keeps (Part.descaleRecover_keeps (.refl _))
    · exact Part.boilerStartup_persists (h.keeps (Part.descaleNoRecovery_keeps (.refl _)))
  · exact h

theorem Part.scanEvent_persists {p q : Part} (d : DoorChange) (h : p.Persists q) : p.Persists (q.scanEvent d) := by
  unfold Part.scanEvent
  dsimp only
  repeat' split
  all_goals
    repeat
      first
        | exact h
        | with_reducible apply Part.offerCapture_persists
        | with_reducible refine Part.Persists.keeps ?_ (Part.raiseNotice_keeps _ (.refl _))
        | exact h.leaf rfl rfl rfl rfl

theorem Part.completeScan_persists {p q : Part} (h : p.Persists q) : p.Persists q.completeScan := by
  unfold Part.completeScan
  have a := Part.scanEvent_persists (doorChange q.ring.derived q.ring.image.doorClosed q.ring.deriveImage.doorClosed) h
  have b := Part.scanProgram_persists (Part.scanBoiler_persists (Part.scanPower_persists
    (doorChange q.ring.derived q.ring.image.doorClosed q.ring.deriveImage.doorClosed) (Part.scanClimate_persists
    (doorChange q.ring.derived q.ring.image.doorClosed q.ring.deriveImage.doorClosed) a)))
  have c := Part.scanMode_persists (doorChange q.ring.derived q.ring.image.doorClosed q.ring.deriveImage.doorClosed)
    (b.keeps (Part.descaleRewarm_keeps (.refl _)))
  exact (Part.waterStep_persists c).keeps (Part.settle_keeps (.refl _))

theorem Part.startScan_persists {p q : Part} (h : p.Persists q) : p.Persists q.startScan := by
  unfold Part.startScan
  first
    | exact h
    | exact h.leaf rfl rfl rfl (by simp)

theorem Part.nextPoll_persists {p q : Part} (address : Nat) (h : p.Persists q) : p.Persists (q.nextPoll address) := by
  have a : p.Persists { q with ring := q.ring.pollFrom (address + 1) } := h.leaf rfl rfl rfl (by simp)
  unfold Part.nextPoll
  dsimp only
  split
  · exact a
  · exact Part.completeScan_persists a

theorem Part.linkTold_persists {p q : Part} (before : Ring) (k : NodeKind) (lost : Bool) (h : p.Persists q) :
    p.Persists (q.linkTold before k lost) := by
  unfold Part.linkTold
  dsimp only
  repeat' split
  all_goals
    repeat
      first
        | exact h
        | with_reducible apply Part.raiseFault_persists
        | with_reducible refine Part.Persists.keeps ?_ (Part.probeGone_keeps (.refl _))
        | with_reducible refine Part.Persists.keeps ?_ (Part.withdrawCavity_keeps (.refl _))
        | exact h.leaf rfl rfl rfl rfl

theorem Part.judgeMiss_persists {p q : Part} (address : Nat) (badCheck : Bool) (h : p.Persists q) :
    p.Persists (q.judgeMiss address badCheck) := by
  unfold Part.judgeMiss
  dsimp only
  repeat' split
  all_goals
    repeat
      first
        | exact h
        | with_reducible apply Part.linkTold_persists
        | with_reducible refine Part.Persists.keeps ?_ (Part.raiseNotice_keeps _ (.refl _))
        | exact h.leaf rfl rfl rfl (by simp)

theorem Part.judgeGood_persists {p q : Part} (address : Nat) (r : RingReply) (h : p.Persists q) :
    p.Persists (q.judgeGood address r) := by
  unfold Part.judgeGood
  dsimp only
  repeat' split
  all_goals
    repeat
      first
        | exact h
        | with_reducible apply Part.raiseFault_persists
        | with_reducible refine Part.Persists.keeps ?_ (Part.raiseNotice_keeps _ (.refl _))
        | exact h.leaf rfl rfl rfl (by simp)

theorem Part.startDiscovery_persists {p q : Part} (h : p.Persists q) : p.Persists q.startDiscovery :=
  ⟨h.owned, ⟨h.adds.pending, h.adds.served, h.adds.storeOk⟩,
    fun _ => by simp [Part.startDiscovery, Ring.discover, Store.mapNodes]⟩

theorem Part.endDiscovery_persists {p q : Part} (h : p.Persists q) : p.Persists q.endDiscovery := by
  unfold Part.endDiscovery
  dsimp only
  repeat' split
  all_goals
    repeat
      first
        | exact h
        | with_reducible apply Part.raiseFault_persists
        | exact h.leaf rfl rfl rfl rfl

theorem Part.nextDiscovery_persists {p q : Part} (address : Nat) (h : p.Persists q) :
    p.Persists (q.nextDiscovery address) := by
  unfold Part.nextDiscovery
  repeat' split
  all_goals
    repeat
      first
        | exact h
        | with_reducible apply Part.endDiscovery_persists
        | exact h.leaf rfl rfl rfl rfl

theorem Part.discoveryMiss_persists {p q : Part} (poll : Poll) (badCheck : Bool) (h : p.Persists q) :
    p.Persists (q.discoveryMiss poll badCheck) := by
  have a : p.Persists
      { q with ring := q.ring.putEntry poll.address ((q.ring.entry poll.address).miss badCheck) } :=
    h.leaf rfl rfl rfl (by simp)
  unfold Part.discoveryMiss
  dsimp only
  split
  · exact a.leaf rfl rfl rfl rfl
  · exact Part.nextDiscovery_persists _ a

theorem Part.discoveryGood_persists {p q : Part} (poll : Poll) (r : RingReply) (h : p.Persists q) :
    p.Persists (q.discoveryGood poll r) := by
  unfold Part.discoveryGood
  repeat
    first
      | exact h
      | with_reducible apply Part.nextDiscovery_persists
      | exact h.leaf rfl rfl rfl (by simp)

theorem Part.nodeReply_persists {p q : Part} (r : RingReply) (h : p.Persists q) : p.Persists (q.nodeReply r) := by
  unfold Part.nodeReply
  dsimp only
  repeat' split
  all_goals
    repeat
      first
        | exact h
        | with_reducible apply Part.discoveryGood_persists
        | with_reducible apply Part.discoveryMiss_persists
        | with_reducible apply Part.judgeGood_persists
        | with_reducible apply Part.judgeMiss_persists
        | with_reducible apply Part.nextPoll_persists
        | exact h.leaf rfl rfl rfl rfl

theorem Part.replyMissing_persists {p q : Part} (h : p.Persists q) : p.Persists q.replyMissing := by
  unfold Part.replyMissing
  repeat' split
  all_goals
    repeat
      first
        | exact h
        | with_reducible apply Part.discoveryMiss_persists
        | with_reducible apply Part.judgeMiss_persists
        | with_reducible apply Part.nextPoll_persists
        | exact h.leaf rfl rfl rfl rfl

theorem Part.scanTimer_persists {p q : Part} (h : p.Persists q) : p.Persists q.scanTimer := by
  unfold Part.scanTimer
  repeat' split
  all_goals
    first
      | exact h
      | exact h.leaf rfl rfl rfl rfl

theorem Part.mainsOnset_persists {p q : Part} (h : p.Persists q) : p.Persists q.mainsOnset := by
  unfold Part.mainsOnset
  have a : p.Persists { q with power := q.power.lose, mode.mainsLoss := true } := h.leaf rfl rfl rfl rfl
  have b := (((a.keeps (Part.raiseNotice_keeps .fault (.refl _))).keeps (Part.climateMainsLoss_keeps (.refl _))).keeps
    (Part.programMainsLoss_keeps (.refl _)))
  exact b.leaf rfl rfl rfl rfl

theorem Part.mainsEnd_persists {p q : Part} (h : p.Persists q) : p.Persists q.mainsEnd := by
  unfold Part.mainsEnd
  repeat
    first
      | exact h
      | with_reducible apply Part.openFirstWindow_persists
      | with_reducible refine Part.Persists.keeps ?_ (Part.climateMainsReturn_keeps (.refl _))
      | with_reducible refine Part.Persists.keeps ?_ (Part.programMainsReturn_keeps (.refl _))
      | exact h.leaf rfl rfl rfl rfl

theorem Part.windowBoundary_persists {p q : Part} (h : p.Persists q) : p.Persists q.windowBoundary := by
  unfold Part.windowBoundary
  have a : p.Persists { q.latchTach with power := q.latchTach.power.updateDwell } :=
    (Part.latchTach_persists h).leaf rfl rfl rfl rfl
  dsimp only
  split
  · exact (Part.grantWindow_persists (Part.raiseFault_persists .fanStall a)).leaf rfl rfl rfl rfl
  · exact (Part.grantWindow_persists a).leaf rfl rfl rfl rfl

theorem Part.measureFailed_persists {p q : Part} (h : p.Persists q) : p.Persists q.measureFailed := by
  unfold Part.measureFailed
  repeat
    first
      | exact h
      | with_reducible apply Part.mainsOnset_persists
      | with_reducible apply Part.startDiscovery_persists
      | exact h.leaf rfl rfl rfl rfl

theorem Part.measured_persists {p q : Part} (time : Nat) (h : p.Persists q) : p.Persists (q.measured time) := by
  unfold Part.measured
  dsimp only
  repeat' split
  all_goals
    repeat
      first
        | exact h
        | with_reducible apply Part.measureFailed_persists
        | with_reducible apply Part.openFirstWindow_persists
        | with_reducible apply Part.startDiscovery_persists
        | exact h.leaf rfl rfl rfl rfl

theorem Part.windowCrossing_persists {p q : Part} (h : p.Persists q) : p.Persists q.windowCrossing := by
  unfold Part.windowCrossing
  repeat' split
  all_goals
    repeat
      first
        | exact h
        | with_reducible apply Part.windowBoundary_persists
        | exact h.leaf rfl rfl rfl rfl

theorem Part.returnCrossing_persists {p q : Part} (gap : Nat) (h : p.Persists q) :
    p.Persists (q.returnCrossing gap) := by
  unfold Part.returnCrossing
  repeat' split
  all_goals
    repeat
      first
        | exact h
        | with_reducible apply Part.mainsEnd_persists
        | exact h.leaf rfl rfl rfl rfl

theorem Part.zeroCrossing_persists {p q : Part} (gap : Nat) (h : p.Persists q) : p.Persists (q.zeroCrossing gap) := by
  unfold Part.zeroCrossing
  repeat' split
  all_goals
    repeat
      first
        | exact h
        | with_reducible apply Part.mainsOnset_persists
        | with_reducible apply Part.measureFailed_persists
        | with_reducible apply Part.measured_persists
        | with_reducible apply Part.returnCrossing_persists
        | with_reducible apply Part.windowCrossing_persists
        | exact h.leaf rfl rfl rfl rfl

theorem Part.measureTimeout_persists {p q : Part} (h : p.Persists q) : p.Persists q.measureTimeout := by
  unfold Part.measureTimeout
  repeat' split
  all_goals
    repeat
      first
        | exact h
        | with_reducible apply Part.measureFailed_persists
        | exact h.leaf rfl rfl rfl rfl

theorem Part.crossingsStop_persists {p q : Part} (h : p.Persists q) : p.Persists q.crossingsStop := by
  unfold Part.crossingsStop
  repeat' split
  all_goals
    repeat
      first
        | exact h
        | with_reducible apply Part.mainsOnset_persists
        | exact h.leaf rfl rfl rfl rfl

theorem Part.fillTimeout_persists {p q : Part} (h : p.Persists q) : p.Persists q.fillTimeout := by
  unfold Part.fillTimeout
  repeat' split
  all_goals
    repeat
      first
        | exact h
        | with_reducible apply Part.raiseFault_persists
        | with_reducible refine Part.Persists.keeps ?_ (Part.boilerEndFill_keeps (.refl _))
        | with_reducible refine Part.Persists.keeps ?_ (Part.descaleDoseTimeout_keeps (.refl _))
        | with_reducible refine Part.Persists.keeps ?_ (Part.pauseFill_keeps _ (.refl _))
        | exact h.leaf rfl rfl rfl rfl

theorem Part.drainTimeout_persists {p q : Part} (h : p.Persists q) : p.Persists q.drainTimeout := by
  unfold Part.drainTimeout
  repeat' split
  all_goals
    repeat
      first
        | exact h
        | with_reducible apply Part.raiseFault_persists
        | exact h.leaf rfl rfl rfl rfl

theorem Part.runOnDone_persists {p q : Part} (h : p.Persists q) : p.Persists q.runOnDone := by
  unfold Part.runOnDone
  repeat' split
  all_goals
    repeat
      first
        | exact h
        | with_reducible refine Part.Persists.keeps ?_ (Part.drainDone_keeps (.refl _))
        | exact h.leaf rfl rfl rfl rfl

theorem Part.coolWaitDone_persists {p q : Part} (h : p.Persists q) : p.Persists q.coolWaitDone := by
  unfold Part.coolWaitDone
  repeat' split
  all_goals
    repeat
      first
        | exact h
        | with_reducible refine Part.Persists.keeps ?_ (Part.enterDraining_keeps (.refl _))
        | exact h.leaf rfl rfl rfl rfl

theorem Part.idleDrain_persists {p q : Part} (h : p.Persists q) : p.Persists q.idleDrain := by
  unfold Part.idleDrain
  repeat' split
  all_goals
    repeat
      first
        | exact h
        | with_reducible refine Part.Persists.keeps ?_ (Part.startDrain_keeps _ _ (.refl _))
        | exact h.leaf rfl rfl rfl rfl

theorem Part.levelDelayDone_persists {p q : Part} (h : p.Persists q) : p.Persists q.levelDelayDone := by
  unfold Part.levelDelayDone
  repeat' split
  all_goals
    repeat
      first
        | exact h
        | with_reducible refine Part.Persists.keeps ?_ (Part.startFill_keeps _ _ (.refl _))
        | exact h.leaf rfl rfl rfl rfl

theorem Part.lullReached_persists {p q : Part} (h : p.Persists q) : p.Persists q.lullReached := by
  unfold Part.lullReached
  repeat' split
  all_goals
    first
      | exact h
      | exact h.leaf rfl rfl rfl rfl

theorem Part.stageSecond_persists {p q : Part} (h : p.Persists q) : p.Persists q.stageSecond := by
  unfold Part.stageSecond
  dsimp only
  repeat' split
  all_goals
    repeat
      first
        | exact h
        | with_reducible refine Part.Persists.keeps ?_ (Part.finishStage_keeps _ (.refl _))
        | exact h.leaf rfl rfl rfl rfl

theorem Part.holdExpiry_persists {p q : Part} (h : p.Persists q) : p.Persists q.holdExpiry := by
  unfold Part.holdExpiry
  repeat' split
  all_goals
    repeat
      first
        | exact h
        | with_reducible refine Part.Persists.keeps ?_ (Part.endHold_keeps (.refl _))
        | with_reducible refine Part.Persists.keeps ?_ (Part.raiseNotice_keeps _ (.refl _))
        | exact h.leaf rfl rfl rfl rfl

theorem Part.ventTimeout_persists {p q : Part} (h : p.Persists q) : p.Persists q.ventTimeout := by
  unfold Part.ventTimeout
  first
    | exact h
    | exact h.leaf rfl rfl rfl rfl

theorem Part.flowPulse_persists {p q : Part} (h : p.Persists q) : p.Persists q.flowPulse := by
  unfold Part.flowPulse
  repeat' split
  all_goals
    first
      | exact h
      | exact h.leaf rfl rfl rfl rfl

theorem Part.tachPulse_persists {p q : Part} (h : p.Persists q) : p.Persists q.tachPulse := by
  unfold Part.tachPulse
  repeat' split
  all_goals
    first
      | exact h
      | exact h.leaf rfl rfl rfl rfl

theorem Part.climateExpiry_persists {p q : Part} (h : p.Persists q) : p.Persists q.climateExpiry := by
  unfold Part.climateExpiry
  repeat' split
  all_goals
    repeat
      first
        | exact h
        | with_reducible refine Part.Persists.keeps ?_ (Part.climatePeriod_keeps (.refl _))
        | exact h.leaf rfl rfl rfl rfl

/-- The scans that are due at once, with what completes in them. -/
theorem Part.advance_persists {p : Part} : ∀ (n : Nat) {q : Part}, p.Persists q → p.Persists (Part.advance n q)
  | 0, _, h => h
  | n + 1, q, h => by
    have a := Part.startScan_persists h
    unfold Part.advance
    dsimp only
    repeat' split
    · exact a
    · exact Part.advance_persists n (Part.completeScan_persists a)
    · exact h

end Sys2Proof.Machine
end

