-- ==== Sys2Proof/Laws/State.lean ====
section
/-! SUPPORT. What each named update of the state leaves in each part of it, field by field, true by unfolding. -/

namespace Sys2Proof.Machine

/-! ### The whole state -/

@[simp] theorem State.replied_pending (s : State) (q : Request) (r : Reply) : (s.replied q r).pending = s.pending := rfl
@[simp] theorem State.replied_free (s : State) (q : Request) (r : Reply) : (s.replied q r).free = s.free := rfl
@[simp] theorem State.replied_flash (s : State) (q : Request) (r : Reply) : (s.replied q r).flash = s.flash := rfl
@[simp] theorem State.replied_part (s : State) (q : Request) (r : Reply) : (s.replied q r).part = s.part := rfl
@[simp] theorem State.replied_inHand (s : State) (q : Request) (r : Reply) : (s.replied q r).link.inHand = some (encodeRequest q) := rfl
@[simp] theorem State.replied_sending (s : State) (q : Request) (r : Reply) : (s.replied q r).link.sending = Sending.reply (replyFrame (requestKind q).code r) := rfl
@[simp] theorem State.replied_receiver (s : State) (q : Request) (r : Reply) : (s.replied q r).link.receiver = s.link.receiver := rfl
@[simp] theorem State.replied_queue (s : State) (q : Request) (r : Reply) : (s.replied q r).link.queue = s.link.queue := rfl
@[simp] theorem State.replied_reply (s : State) (q : Request) (r : Reply) : (s.replied q r).link.reply = s.link.reply := rfl
@[simp] theorem State.replied_crcErrors (s : State) (q : Request) (r : Reply) : (s.replied q r).link.crcErrors = s.link.crcErrors := rfl
@[simp] theorem State.replied_framingErrors (s : State) (q : Request) (r : Reply) : (s.replied q r).link.framingErrors = s.link.framingErrors := rfl
@[simp] theorem State.replied_overruns (s : State) (q : Request) (r : Reply) : (s.replied q r).link.overruns = s.link.overruns := rfl
@[simp] theorem State.replied_resetAnswered (s : State) (q : Request) (r : Reply) : (s.replied q r).link.resetAnswered = s.link.resetAnswered := rfl
@[simp] theorem State.replied_resetWait (s : State) (q : Request) (r : Reply) : (s.replied q r).link.resetWait = s.link.resetWait := rfl
@[simp] theorem State.carried_pending (s : State) (q : Request) (r : Reply) (p : Part) : (s.carried q r p).pending = s.pending := rfl
@[simp] theorem State.carried_free (s : State) (q : Request) (r : Reply) (p : Part) : (s.carried q r p).free = s.free := rfl
@[simp] theorem State.carried_flash (s : State) (q : Request) (r : Reply) (p : Part) : (s.carried q r p).flash = s.flash := rfl
@[simp] theorem State.carried_link (s : State) (q : Request) (r : Reply) (p : Part) : (s.carried q r p).link = (s.replied q r).link := rfl
@[simp] theorem State.carried_part (s : State) (q : Request) (r : Reply) (p : Part) : (s.carried q r p).part = Part.advance 3 p.settle := by simp only [State.carried]
@[simp] theorem State.onBlocks_pending (s : State) (f : Part → Part) : (s.onBlocks f).pending = s.pending := rfl
@[simp] theorem State.onBlocks_free (s : State) (f : Part → Part) : (s.onBlocks f).free = s.free := rfl
@[simp] theorem State.onBlocks_flash (s : State) (f : Part → Part) : (s.onBlocks f).flash = s.flash := rfl
@[simp] theorem State.onBlocks_link (s : State) (f : Part → Part) : (s.onBlocks f).link = s.link := rfl
@[simp] theorem State.onBlocks_part (s : State) (f : Part → Part) : (s.onBlocks f).part = (Part.advance 3 (f s.part).settle).quietReports s.link.resetWait := rfl
@[simp] theorem State.settled_pending (s : State) (p : Part) : (s.settled p).pending = s.pending := rfl
@[simp] theorem State.settled_free (s : State) (p : Part) : (s.settled p).free = s.free := rfl
@[simp] theorem State.settled_flash (s : State) (p : Part) : (s.settled p).flash = s.flash := rfl
@[simp] theorem State.settled_link (s : State) (p : Part) : (s.settled p).link = s.link := rfl

/-! ### The blocks, by named update -/

@[simp] theorem Part.raiseNotice_store (p : Part) (n : Notice) : (p.raiseNotice n).store = p.store := rfl
@[simp] theorem Part.raiseNotice_capture (p : Part) (n : Notice) : (p.raiseNotice n).capture = p.capture := rfl
@[simp] theorem Part.raiseNotice_report (p : Part) (n : Notice) : (p.raiseNotice n).report = p.report := rfl
@[simp] theorem Part.raiseNotice_mode (p : Part) (n : Notice) : (p.raiseNotice n).mode = p.mode := rfl
@[simp] theorem Part.raiseNotice_ring (p : Part) (n : Notice) : (p.raiseNotice n).ring = p.ring := rfl
@[simp] theorem Part.raiseNotice_climate (p : Part) (n : Notice) : (p.raiseNotice n).climate = p.climate := rfl
@[simp] theorem Part.raiseNotice_power (p : Part) (n : Notice) : (p.raiseNotice n).power = p.power := rfl
@[simp] theorem Part.raiseNotice_boiler (p : Part) (n : Notice) : (p.raiseNotice n).boiler = p.boiler := rfl
@[simp] theorem Part.raiseNotice_scale (p : Part) (n : Notice) : (p.raiseNotice n).scale = p.scale := rfl
@[simp] theorem Part.raiseNotice_descale (p : Part) (n : Notice) : (p.raiseNotice n).descale = p.descale := rfl
@[simp] theorem Part.raiseNotice_program (p : Part) (n : Notice) : (p.raiseNotice n).program = p.program := rfl
@[simp] theorem Part.queueItem_notice (p : Part) (i : Nat) (v : ItemValue) : (p.queueItem i v).notice = p.notice := rfl
@[simp] theorem Part.queueItem_capture (p : Part) (i : Nat) (v : ItemValue) : (p.queueItem i v).capture = p.capture := rfl
@[simp] theorem Part.queueItem_report (p : Part) (i : Nat) (v : ItemValue) : (p.queueItem i v).report = p.report := rfl
@[simp] theorem Part.queueItem_mode (p : Part) (i : Nat) (v : ItemValue) : (p.queueItem i v).mode = p.mode := rfl
@[simp] theorem Part.queueItem_ring (p : Part) (i : Nat) (v : ItemValue) : (p.queueItem i v).ring = p.ring := rfl
@[simp] theorem Part.queueItem_climate (p : Part) (i : Nat) (v : ItemValue) : (p.queueItem i v).climate = p.climate := rfl
@[simp] theorem Part.queueItem_power (p : Part) (i : Nat) (v : ItemValue) : (p.queueItem i v).power = p.power := rfl
@[simp] theorem Part.queueItem_boiler (p : Part) (i : Nat) (v : ItemValue) : (p.queueItem i v).boiler = p.boiler := rfl
@[simp] theorem Part.queueItem_scale (p : Part) (i : Nat) (v : ItemValue) : (p.queueItem i v).scale = p.scale := rfl
@[simp] theorem Part.queueItem_descale (p : Part) (i : Nat) (v : ItemValue) : (p.queueItem i v).descale = p.descale := rfl
@[simp] theorem Part.queueItem_program (p : Part) (i : Nat) (v : ItemValue) : (p.queueItem i v).program = p.program := rfl
@[simp] theorem Part.noDemand_store (p : Part) : p.noDemand.store = p.store := rfl
@[simp] theorem Part.noDemand_notice (p : Part) : p.noDemand.notice = p.notice := rfl
@[simp] theorem Part.noDemand_capture (p : Part) : p.noDemand.capture = p.capture := rfl
@[simp] theorem Part.noDemand_report (p : Part) : p.noDemand.report = p.report := rfl
@[simp] theorem Part.noDemand_mode (p : Part) : p.noDemand.mode = p.mode := rfl
@[simp] theorem Part.noDemand_ring (p : Part) : p.noDemand.ring = p.ring := rfl
@[simp] theorem Part.noDemand_boiler (p : Part) : p.noDemand.boiler = p.boiler := rfl
@[simp] theorem Part.noDemand_scale (p : Part) : p.noDemand.scale = p.scale := rfl
@[simp] theorem Part.noDemand_descale (p : Part) : p.noDemand.descale = p.descale := rfl
@[simp] theorem Part.noDemand_program (p : Part) : p.noDemand.program = p.program := rfl
@[simp] theorem Part.readRatings_store (p : Part) : p.readRatings.store = p.store := rfl
@[simp] theorem Part.readRatings_notice (p : Part) : p.readRatings.notice = p.notice := rfl
@[simp] theorem Part.readRatings_capture (p : Part) : p.readRatings.capture = p.capture := rfl
@[simp] theorem Part.readRatings_report (p : Part) : p.readRatings.report = p.report := rfl
@[simp] theorem Part.readRatings_mode (p : Part) : p.readRatings.mode = p.mode := rfl
@[simp] theorem Part.readRatings_ring (p : Part) : p.readRatings.ring = p.ring := rfl
@[simp] theorem Part.readRatings_power (p : Part) : p.readRatings.power = p.power := rfl
@[simp] theorem Part.readRatings_boiler (p : Part) : p.readRatings.boiler = p.boiler := rfl
@[simp] theorem Part.readRatings_scale (p : Part) : p.readRatings.scale = p.scale := rfl
@[simp] theorem Part.readRatings_descale (p : Part) : p.readRatings.descale = p.descale := rfl
@[simp] theorem Part.readRatings_program (p : Part) : p.readRatings.program = p.program := rfl
@[simp] theorem Part.keepDemand_store (p : Part) : p.keepDemand.store = p.store := rfl
@[simp] theorem Part.keepDemand_notice (p : Part) : p.keepDemand.notice = p.notice := rfl
@[simp] theorem Part.keepDemand_capture (p : Part) : p.keepDemand.capture = p.capture := rfl
@[simp] theorem Part.keepDemand_report (p : Part) : p.keepDemand.report = p.report := rfl
@[simp] theorem Part.keepDemand_mode (p : Part) : p.keepDemand.mode = p.mode := rfl
@[simp] theorem Part.keepDemand_ring (p : Part) : p.keepDemand.ring = p.ring := rfl
@[simp] theorem Part.keepDemand_power (p : Part) : p.keepDemand.power = p.power := rfl
@[simp] theorem Part.keepDemand_boiler (p : Part) : p.keepDemand.boiler = p.boiler := rfl
@[simp] theorem Part.keepDemand_scale (p : Part) : p.keepDemand.scale = p.scale := rfl
@[simp] theorem Part.keepDemand_descale (p : Part) : p.keepDemand.descale = p.descale := rfl
@[simp] theorem Part.keepDemand_program (p : Part) : p.keepDemand.program = p.program := rfl
@[simp] theorem Part.clampIntegral_store (p : Part) (m : HeatMode) : (p.clampIntegral m).store = p.store := rfl
@[simp] theorem Part.clampIntegral_notice (p : Part) (m : HeatMode) : (p.clampIntegral m).notice = p.notice := rfl
@[simp] theorem Part.clampIntegral_capture (p : Part) (m : HeatMode) : (p.clampIntegral m).capture = p.capture := rfl
@[simp] theorem Part.clampIntegral_report (p : Part) (m : HeatMode) : (p.clampIntegral m).report = p.report := rfl
@[simp] theorem Part.clampIntegral_mode (p : Part) (m : HeatMode) : (p.clampIntegral m).mode = p.mode := rfl
@[simp] theorem Part.clampIntegral_ring (p : Part) (m : HeatMode) : (p.clampIntegral m).ring = p.ring := rfl
@[simp] theorem Part.clampIntegral_power (p : Part) (m : HeatMode) : (p.clampIntegral m).power = p.power := rfl
@[simp] theorem Part.clampIntegral_boiler (p : Part) (m : HeatMode) : (p.clampIntegral m).boiler = p.boiler := rfl
@[simp] theorem Part.clampIntegral_scale (p : Part) (m : HeatMode) : (p.clampIntegral m).scale = p.scale := rfl
@[simp] theorem Part.clampIntegral_descale (p : Part) (m : HeatMode) : (p.clampIntegral m).descale = p.descale := rfl
@[simp] theorem Part.clampIntegral_program (p : Part) (m : HeatMode) : (p.clampIntegral m).program = p.program := rfl
@[simp] theorem Part.giveDemand_store (p : Part) (m : HeatMode) (d : Int) : (p.giveDemand m d).store = p.store := rfl
@[simp] theorem Part.giveDemand_notice (p : Part) (m : HeatMode) (d : Int) : (p.giveDemand m d).notice = p.notice := rfl
@[simp] theorem Part.giveDemand_capture (p : Part) (m : HeatMode) (d : Int) : (p.giveDemand m d).capture = p.capture := rfl
@[simp] theorem Part.giveDemand_report (p : Part) (m : HeatMode) (d : Int) : (p.giveDemand m d).report = p.report := rfl
@[simp] theorem Part.giveDemand_mode (p : Part) (m : HeatMode) (d : Int) : (p.giveDemand m d).mode = p.mode := rfl
@[simp] theorem Part.giveDemand_ring (p : Part) (m : HeatMode) (d : Int) : (p.giveDemand m d).ring = p.ring := rfl
@[simp] theorem Part.giveDemand_boiler (p : Part) (m : HeatMode) (d : Int) : (p.giveDemand m d).boiler = p.boiler := rfl
@[simp] theorem Part.giveDemand_scale (p : Part) (m : HeatMode) (d : Int) : (p.giveDemand m d).scale = p.scale := rfl
@[simp] theorem Part.giveDemand_descale (p : Part) (m : HeatMode) (d : Int) : (p.giveDemand m d).descale = p.descale := rfl
@[simp] theorem Part.giveDemand_program (p : Part) (m : HeatMode) (d : Int) : (p.giveDemand m d).program = p.program := rfl
@[simp] theorem Part.steamTest_store (p : Part) : p.steamTest.store = p.store := rfl
@[simp] theorem Part.steamTest_notice (p : Part) : p.steamTest.notice = p.notice := rfl
@[simp] theorem Part.steamTest_capture (p : Part) : p.steamTest.capture = p.capture := rfl
@[simp] theorem Part.steamTest_report (p : Part) : p.steamTest.report = p.report := rfl
@[simp] theorem Part.steamTest_mode (p : Part) : p.steamTest.mode = p.mode := rfl
@[simp] theorem Part.steamTest_ring (p : Part) : p.steamTest.ring = p.ring := rfl
@[simp] theorem Part.steamTest_power (p : Part) : p.steamTest.power = p.power := rfl
@[simp] theorem Part.steamTest_boiler (p : Part) : p.steamTest.boiler = p.boiler := rfl
@[simp] theorem Part.steamTest_scale (p : Part) : p.steamTest.scale = p.scale := rfl
@[simp] theorem Part.steamTest_descale (p : Part) : p.steamTest.descale = p.descale := rfl
@[simp] theorem Part.steamTest_program (p : Part) : p.steamTest.program = p.program := rfl
@[simp] theorem Part.withdrawCavity_store (p : Part) : p.withdrawCavity.store = p.store := rfl
@[simp] theorem Part.withdrawCavity_notice (p : Part) : p.withdrawCavity.notice = p.notice := rfl
@[simp] theorem Part.withdrawCavity_capture (p : Part) : p.withdrawCavity.capture = p.capture := rfl
@[simp] theorem Part.withdrawCavity_report (p : Part) : p.withdrawCavity.report = p.report := rfl
@[simp] theorem Part.withdrawCavity_mode (p : Part) : p.withdrawCavity.mode = p.mode := rfl
@[simp] theorem Part.withdrawCavity_ring (p : Part) : p.withdrawCavity.ring = p.ring := rfl
@[simp] theorem Part.withdrawCavity_climate (p : Part) : p.withdrawCavity.climate = p.climate := rfl
@[simp] theorem Part.withdrawCavity_boiler (p : Part) : p.withdrawCavity.boiler = p.boiler := rfl
@[simp] theorem Part.withdrawCavity_scale (p : Part) : p.withdrawCavity.scale = p.scale := rfl
@[simp] theorem Part.withdrawCavity_descale (p : Part) : p.withdrawCavity.descale = p.descale := rfl
@[simp] theorem Part.withdrawCavity_program (p : Part) : p.withdrawCavity.program = p.program := rfl
@[simp] theorem Part.noBoilerRequest_store (p : Part) : p.noBoilerRequest.store = p.store := rfl
@[simp] theorem Part.noBoilerRequest_notice (p : Part) : p.noBoilerRequest.notice = p.notice := rfl
@[simp] theorem Part.noBoilerRequest_capture (p : Part) : p.noBoilerRequest.capture = p.capture := rfl
@[simp] theorem Part.noBoilerRequest_report (p : Part) : p.noBoilerRequest.report = p.report := rfl
@[simp] theorem Part.noBoilerRequest_mode (p : Part) : p.noBoilerRequest.mode = p.mode := rfl
@[simp] theorem Part.noBoilerRequest_ring (p : Part) : p.noBoilerRequest.ring = p.ring := rfl
@[simp] theorem Part.noBoilerRequest_climate (p : Part) : p.noBoilerRequest.climate = p.climate := rfl
@[simp] theorem Part.noBoilerRequest_boiler (p : Part) : p.noBoilerRequest.boiler = p.boiler := rfl
@[simp] theorem Part.noBoilerRequest_scale (p : Part) : p.noBoilerRequest.scale = p.scale := rfl
@[simp] theorem Part.noBoilerRequest_descale (p : Part) : p.noBoilerRequest.descale = p.descale := rfl
@[simp] theorem Part.noBoilerRequest_program (p : Part) : p.noBoilerRequest.program = p.program := rfl
@[simp] theorem Part.boilerRest_store (p : Part) (b : BoilerState) : (p.boilerRest b).store = p.store := rfl
@[simp] theorem Part.boilerRest_notice (p : Part) (b : BoilerState) : (p.boilerRest b).notice = p.notice := rfl
@[simp] theorem Part.boilerRest_capture (p : Part) (b : BoilerState) : (p.boilerRest b).capture = p.capture := rfl
@[simp] theorem Part.boilerRest_report (p : Part) (b : BoilerState) : (p.boilerRest b).report = p.report := rfl
@[simp] theorem Part.boilerRest_mode (p : Part) (b : BoilerState) : (p.boilerRest b).mode = p.mode := rfl
@[simp] theorem Part.boilerRest_ring (p : Part) (b : BoilerState) : (p.boilerRest b).ring = p.ring := rfl
@[simp] theorem Part.boilerRest_climate (p : Part) (b : BoilerState) : (p.boilerRest b).climate = p.climate := rfl
@[simp] theorem Part.boilerRest_power (p : Part) (b : BoilerState) : (p.boilerRest b).power = p.power := rfl
@[simp] theorem Part.boilerRest_scale (p : Part) (b : BoilerState) : (p.boilerRest b).scale = p.scale := rfl
@[simp] theorem Part.boilerRest_descale (p : Part) (b : BoilerState) : (p.boilerRest b).descale = p.descale := rfl
@[simp] theorem Part.boilerRest_program (p : Part) (b : BoilerState) : (p.boilerRest b).program = p.program := rfl
@[simp] theorem Part.evaluateLock_store (p : Part) : p.evaluateLock.store = p.store := rfl
@[simp] theorem Part.evaluateLock_notice (p : Part) : p.evaluateLock.notice = p.notice := rfl
@[simp] theorem Part.evaluateLock_capture (p : Part) : p.evaluateLock.capture = p.capture := rfl
@[simp] theorem Part.evaluateLock_report (p : Part) : p.evaluateLock.report = p.report := rfl
@[simp] theorem Part.evaluateLock_mode (p : Part) : p.evaluateLock.mode = p.mode := rfl
@[simp] theorem Part.evaluateLock_ring (p : Part) : p.evaluateLock.ring = p.ring := rfl
@[simp] theorem Part.evaluateLock_climate (p : Part) : p.evaluateLock.climate = p.climate := rfl
@[simp] theorem Part.evaluateLock_power (p : Part) : p.evaluateLock.power = p.power := rfl
@[simp] theorem Part.evaluateLock_boiler (p : Part) : p.evaluateLock.boiler = p.boiler := rfl
@[simp] theorem Part.evaluateLock_descale (p : Part) : p.evaluateLock.descale = p.descale := rfl
@[simp] theorem Part.evaluateLock_program (p : Part) : p.evaluateLock.program = p.program := rfl
@[simp] theorem Part.followSuspension_store (p : Part) : p.followSuspension.store = p.store := rfl
@[simp] theorem Part.followSuspension_notice (p : Part) : p.followSuspension.notice = p.notice := rfl
@[simp] theorem Part.followSuspension_capture (p : Part) : p.followSuspension.capture = p.capture := rfl
@[simp] theorem Part.followSuspension_report (p : Part) : p.followSuspension.report = p.report := rfl
@[simp] theorem Part.followSuspension_mode (p : Part) : p.followSuspension.mode = p.mode := rfl
@[simp] theorem Part.followSuspension_ring (p : Part) : p.followSuspension.ring = p.ring := rfl
@[simp] theorem Part.followSuspension_climate (p : Part) : p.followSuspension.climate = p.climate := rfl
@[simp] theorem Part.followSuspension_power (p : Part) : p.followSuspension.power = p.power := rfl
@[simp] theorem Part.followSuspension_boiler (p : Part) : p.followSuspension.boiler = p.boiler := rfl
@[simp] theorem Part.followSuspension_descale (p : Part) : p.followSuspension.descale = p.descale := rfl
@[simp] theorem Part.followSuspension_program (p : Part) : p.followSuspension.program = p.program := rfl
@[simp] theorem Part.deposit_store (p : Part) (v : Nat) : (p.deposit v).store = p.store := rfl
@[simp] theorem Part.deposit_notice (p : Part) (v : Nat) : (p.deposit v).notice = p.notice := rfl
@[simp] theorem Part.deposit_capture (p : Part) (v : Nat) : (p.deposit v).capture = p.capture := rfl
@[simp] theorem Part.deposit_report (p : Part) (v : Nat) : (p.deposit v).report = p.report := rfl
@[simp] theorem Part.deposit_mode (p : Part) (v : Nat) : (p.deposit v).mode = p.mode := rfl
@[simp] theorem Part.deposit_ring (p : Part) (v : Nat) : (p.deposit v).ring = p.ring := rfl
@[simp] theorem Part.deposit_climate (p : Part) (v : Nat) : (p.deposit v).climate = p.climate := rfl
@[simp] theorem Part.deposit_power (p : Part) (v : Nat) : (p.deposit v).power = p.power := rfl
@[simp] theorem Part.deposit_boiler (p : Part) (v : Nat) : (p.deposit v).boiler = p.boiler := rfl
@[simp] theorem Part.deposit_descale (p : Part) (v : Nat) : (p.deposit v).descale = p.descale := rfl
@[simp] theorem Part.deposit_program (p : Part) (v : Nat) : (p.deposit v).program = p.program := rfl
@[simp] theorem Part.accrueEvaporation_store (p : Part) (v : Nat) : (p.accrueEvaporation v).store = p.store := rfl
@[simp] theorem Part.accrueEvaporation_notice (p : Part) (v : Nat) : (p.accrueEvaporation v).notice = p.notice := rfl
@[simp] theorem Part.accrueEvaporation_capture (p : Part) (v : Nat) : (p.accrueEvaporation v).capture = p.capture := rfl
@[simp] theorem Part.accrueEvaporation_report (p : Part) (v : Nat) : (p.accrueEvaporation v).report = p.report := rfl
@[simp] theorem Part.accrueEvaporation_mode (p : Part) (v : Nat) : (p.accrueEvaporation v).mode = p.mode := rfl
@[simp] theorem Part.accrueEvaporation_ring (p : Part) (v : Nat) : (p.accrueEvaporation v).ring = p.ring := rfl
@[simp] theorem Part.accrueEvaporation_climate (p : Part) (v : Nat) : (p.accrueEvaporation v).climate = p.climate := rfl
@[simp] theorem Part.accrueEvaporation_power (p : Part) (v : Nat) : (p.accrueEvaporation v).power = p.power := rfl
@[simp] theorem Part.accrueEvaporation_boiler (p : Part) (v : Nat) : (p.accrueEvaporation v).boiler = p.boiler := rfl
@[simp] theorem Part.accrueEvaporation_descale (p : Part) (v : Nat) : (p.accrueEvaporation v).descale = p.descale := rfl
@[simp] theorem Part.accrueEvaporation_program (p : Part) (v : Nat) : (p.accrueEvaporation v).program = p.program := rfl
@[simp] theorem Part.queueScale_notice (p : Part) : p.queueScale.notice = p.notice := rfl
@[simp] theorem Part.queueScale_capture (p : Part) : p.queueScale.capture = p.capture := rfl
@[simp] theorem Part.queueScale_report (p : Part) : p.queueScale.report = p.report := rfl
@[simp] theorem Part.queueScale_mode (p : Part) : p.queueScale.mode = p.mode := rfl
@[simp] theorem Part.queueScale_ring (p : Part) : p.queueScale.ring = p.ring := rfl
@[simp] theorem Part.queueScale_climate (p : Part) : p.queueScale.climate = p.climate := rfl
@[simp] theorem Part.queueScale_power (p : Part) : p.queueScale.power = p.power := rfl
@[simp] theorem Part.queueScale_boiler (p : Part) : p.queueScale.boiler = p.boiler := rfl
@[simp] theorem Part.queueScale_descale (p : Part) : p.queueScale.descale = p.descale := rfl
@[simp] theorem Part.queueScale_program (p : Part) : p.queueScale.program = p.program := rfl
@[simp] theorem Part.queueBlowdown_notice (p : Part) : p.queueBlowdown.notice = p.notice := rfl
@[simp] theorem Part.queueBlowdown_capture (p : Part) : p.queueBlowdown.capture = p.capture := rfl
@[simp] theorem Part.queueBlowdown_report (p : Part) : p.queueBlowdown.report = p.report := rfl
@[simp] theorem Part.queueBlowdown_mode (p : Part) : p.queueBlowdown.mode = p.mode := rfl
@[simp] theorem Part.queueBlowdown_ring (p : Part) : p.queueBlowdown.ring = p.ring := rfl
@[simp] theorem Part.queueBlowdown_climate (p : Part) : p.queueBlowdown.climate = p.climate := rfl
@[simp] theorem Part.queueBlowdown_power (p : Part) : p.queueBlowdown.power = p.power := rfl
@[simp] theorem Part.queueBlowdown_boiler (p : Part) : p.queueBlowdown.boiler = p.boiler := rfl
@[simp] theorem Part.queueBlowdown_scale (p : Part) : p.queueBlowdown.scale = p.scale := rfl
@[simp] theorem Part.queueBlowdown_descale (p : Part) : p.queueBlowdown.descale = p.descale := rfl
@[simp] theorem Part.queueBlowdown_program (p : Part) : p.queueBlowdown.program = p.program := rfl
@[simp] theorem Part.descalePhase_store (p : Part) (f : DescalePhase) (r : Option PromptReason) : (p.descalePhase f r).store = p.store := rfl
@[simp] theorem Part.descalePhase_notice (p : Part) (f : DescalePhase) (r : Option PromptReason) : (p.descalePhase f r).notice = p.notice := rfl
@[simp] theorem Part.descalePhase_capture (p : Part) (f : DescalePhase) (r : Option PromptReason) : (p.descalePhase f r).capture = p.capture := rfl
@[simp] theorem Part.descalePhase_report (p : Part) (f : DescalePhase) (r : Option PromptReason) : (p.descalePhase f r).report = p.report := rfl
@[simp] theorem Part.descalePhase_mode (p : Part) (f : DescalePhase) (r : Option PromptReason) : (p.descalePhase f r).mode = p.mode := rfl
@[simp] theorem Part.descalePhase_ring (p : Part) (f : DescalePhase) (r : Option PromptReason) : (p.descalePhase f r).ring = p.ring := rfl
@[simp] theorem Part.descalePhase_climate (p : Part) (f : DescalePhase) (r : Option PromptReason) : (p.descalePhase f r).climate = p.climate := rfl
@[simp] theorem Part.descalePhase_power (p : Part) (f : DescalePhase) (r : Option PromptReason) : (p.descalePhase f r).power = p.power := rfl
@[simp] theorem Part.descalePhase_boiler (p : Part) (f : DescalePhase) (r : Option PromptReason) : (p.descalePhase f r).boiler = p.boiler := rfl
@[simp] theorem Part.descalePhase_scale (p : Part) (f : DescalePhase) (r : Option PromptReason) : (p.descalePhase f r).scale = p.scale := rfl
@[simp] theorem Part.descalePhase_program (p : Part) (f : DescalePhase) (r : Option PromptReason) : (p.descalePhase f r).program = p.program := rfl
@[simp] theorem Part.descaleRelease_store (p : Part) : p.descaleRelease.store = p.store := rfl
@[simp] theorem Part.descaleRelease_notice (p : Part) : p.descaleRelease.notice = p.notice := rfl
@[simp] theorem Part.descaleRelease_capture (p : Part) : p.descaleRelease.capture = p.capture := rfl
@[simp] theorem Part.descaleRelease_report (p : Part) : p.descaleRelease.report = p.report := rfl
@[simp] theorem Part.descaleRelease_mode (p : Part) : p.descaleRelease.mode = p.mode := rfl
@[simp] theorem Part.descaleRelease_ring (p : Part) : p.descaleRelease.ring = p.ring := rfl
@[simp] theorem Part.descaleRelease_climate (p : Part) : p.descaleRelease.climate = p.climate := rfl
@[simp] theorem Part.descaleRelease_power (p : Part) : p.descaleRelease.power = p.power := rfl
@[simp] theorem Part.descaleRelease_scale (p : Part) : p.descaleRelease.scale = p.scale := rfl
@[simp] theorem Part.descaleRelease_program (p : Part) : p.descaleRelease.program = p.program := rfl
@[simp] theorem Part.clearHold_store (p : Part) : p.clearHold.store = p.store := rfl
@[simp] theorem Part.clearHold_notice (p : Part) : p.clearHold.notice = p.notice := rfl
@[simp] theorem Part.clearHold_capture (p : Part) : p.clearHold.capture = p.capture := rfl
@[simp] theorem Part.clearHold_report (p : Part) : p.clearHold.report = p.report := rfl
@[simp] theorem Part.clearHold_ring (p : Part) : p.clearHold.ring = p.ring := rfl
@[simp] theorem Part.clearHold_climate (p : Part) : p.clearHold.climate = p.climate := rfl
@[simp] theorem Part.clearHold_power (p : Part) : p.clearHold.power = p.power := rfl
@[simp] theorem Part.clearHold_boiler (p : Part) : p.clearHold.boiler = p.boiler := rfl
@[simp] theorem Part.clearHold_scale (p : Part) : p.clearHold.scale = p.scale := rfl
@[simp] theorem Part.clearHold_descale (p : Part) : p.clearHold.descale = p.descale := rfl
@[simp] theorem Part.clearHold_program (p : Part) : p.clearHold.program = p.program := rfl
@[simp] theorem Part.unlatch_store (p : Part) (k : FaultKind) : (p.unlatch k).store = p.store := rfl
@[simp] theorem Part.unlatch_notice (p : Part) (k : FaultKind) : (p.unlatch k).notice = p.notice := rfl
@[simp] theorem Part.unlatch_capture (p : Part) (k : FaultKind) : (p.unlatch k).capture = p.capture := rfl
@[simp] theorem Part.unlatch_report (p : Part) (k : FaultKind) : (p.unlatch k).report = p.report := rfl
@[simp] theorem Part.unlatch_ring (p : Part) (k : FaultKind) : (p.unlatch k).ring = p.ring := rfl
@[simp] theorem Part.unlatch_climate (p : Part) (k : FaultKind) : (p.unlatch k).climate = p.climate := rfl
@[simp] theorem Part.unlatch_power (p : Part) (k : FaultKind) : (p.unlatch k).power = p.power := rfl
@[simp] theorem Part.unlatch_boiler (p : Part) (k : FaultKind) : (p.unlatch k).boiler = p.boiler := rfl
@[simp] theorem Part.unlatch_scale (p : Part) (k : FaultKind) : (p.unlatch k).scale = p.scale := rfl
@[simp] theorem Part.unlatch_descale (p : Part) (k : FaultKind) : (p.unlatch k).descale = p.descale := rfl
@[simp] theorem Part.unlatch_program (p : Part) (k : FaultKind) : (p.unlatch k).program = p.program := rfl
@[simp] theorem Part.waitFor_store (p : Part) (r : WaitReason) : (p.waitFor r).store = p.store := rfl
@[simp] theorem Part.waitFor_notice (p : Part) (r : WaitReason) : (p.waitFor r).notice = p.notice := rfl
@[simp] theorem Part.waitFor_capture (p : Part) (r : WaitReason) : (p.waitFor r).capture = p.capture := rfl
@[simp] theorem Part.waitFor_report (p : Part) (r : WaitReason) : (p.waitFor r).report = p.report := rfl
@[simp] theorem Part.waitFor_mode (p : Part) (r : WaitReason) : (p.waitFor r).mode = p.mode := rfl
@[simp] theorem Part.waitFor_ring (p : Part) (r : WaitReason) : (p.waitFor r).ring = p.ring := rfl
@[simp] theorem Part.waitFor_climate (p : Part) (r : WaitReason) : (p.waitFor r).climate = p.climate := rfl
@[simp] theorem Part.waitFor_power (p : Part) (r : WaitReason) : (p.waitFor r).power = p.power := rfl
@[simp] theorem Part.waitFor_boiler (p : Part) (r : WaitReason) : (p.waitFor r).boiler = p.boiler := rfl
@[simp] theorem Part.waitFor_scale (p : Part) (r : WaitReason) : (p.waitFor r).scale = p.scale := rfl
@[simp] theorem Part.waitFor_descale (p : Part) (r : WaitReason) : (p.waitFor r).descale = p.descale := rfl
@[simp] theorem Part.pauseProgram_store (p : Part) (r : WaitReason) : (p.pauseProgram r).store = p.store := rfl
@[simp] theorem Part.pauseProgram_notice (p : Part) (r : WaitReason) : (p.pauseProgram r).notice = p.notice := rfl
@[simp] theorem Part.pauseProgram_capture (p : Part) (r : WaitReason) : (p.pauseProgram r).capture = p.capture := rfl
@[simp] theorem Part.pauseProgram_report (p : Part) (r : WaitReason) : (p.pauseProgram r).report = p.report := rfl
@[simp] theorem Part.pauseProgram_mode (p : Part) (r : WaitReason) : (p.pauseProgram r).mode = p.mode := rfl
@[simp] theorem Part.pauseProgram_ring (p : Part) (r : WaitReason) : (p.pauseProgram r).ring = p.ring := rfl
@[simp] theorem Part.pauseProgram_climate (p : Part) (r : WaitReason) : (p.pauseProgram r).climate = p.climate := rfl
@[simp] theorem Part.pauseProgram_power (p : Part) (r : WaitReason) : (p.pauseProgram r).power = p.power := rfl
@[simp] theorem Part.pauseProgram_boiler (p : Part) (r : WaitReason) : (p.pauseProgram r).boiler = p.boiler := rfl
@[simp] theorem Part.pauseProgram_scale (p : Part) (r : WaitReason) : (p.pauseProgram r).scale = p.scale := rfl
@[simp] theorem Part.pauseProgram_descale (p : Part) (r : WaitReason) : (p.pauseProgram r).descale = p.descale := rfl
@[simp] theorem Part.clearedProgram_store (p : Part) (h : ProgramHeader) : (p.clearedProgram h).store = p.store := rfl
@[simp] theorem Part.clearedProgram_notice (p : Part) (h : ProgramHeader) : (p.clearedProgram h).notice = p.notice := rfl
@[simp] theorem Part.clearedProgram_capture (p : Part) (h : ProgramHeader) : (p.clearedProgram h).capture = p.capture := rfl
@[simp] theorem Part.clearedProgram_report (p : Part) (h : ProgramHeader) : (p.clearedProgram h).report = p.report := rfl
@[simp] theorem Part.clearedProgram_mode (p : Part) (h : ProgramHeader) : (p.clearedProgram h).mode = p.mode := rfl
@[simp] theorem Part.clearedProgram_ring (p : Part) (h : ProgramHeader) : (p.clearedProgram h).ring = p.ring := rfl
@[simp] theorem Part.clearedProgram_climate (p : Part) (h : ProgramHeader) : (p.clearedProgram h).climate = p.climate := rfl
@[simp] theorem Part.clearedProgram_power (p : Part) (h : ProgramHeader) : (p.clearedProgram h).power = p.power := rfl
@[simp] theorem Part.clearedProgram_boiler (p : Part) (h : ProgramHeader) : (p.clearedProgram h).boiler = p.boiler := rfl
@[simp] theorem Part.clearedProgram_scale (p : Part) (h : ProgramHeader) : (p.clearedProgram h).scale = p.scale := rfl
@[simp] theorem Part.clearedProgram_descale (p : Part) (h : ProgramHeader) : (p.clearedProgram h).descale = p.descale := rfl
@[simp] theorem Part.latchTach_store (p : Part) : p.latchTach.store = p.store := rfl
@[simp] theorem Part.latchTach_notice (p : Part) : p.latchTach.notice = p.notice := rfl
@[simp] theorem Part.latchTach_capture (p : Part) : p.latchTach.capture = p.capture := rfl
@[simp] theorem Part.latchTach_report (p : Part) : p.latchTach.report = p.report := rfl
@[simp] theorem Part.latchTach_mode (p : Part) : p.latchTach.mode = p.mode := rfl
@[simp] theorem Part.latchTach_ring (p : Part) : p.latchTach.ring = p.ring := rfl
@[simp] theorem Part.latchTach_power (p : Part) : p.latchTach.power = p.power := rfl
@[simp] theorem Part.latchTach_boiler (p : Part) : p.latchTach.boiler = p.boiler := rfl
@[simp] theorem Part.latchTach_scale (p : Part) : p.latchTach.scale = p.scale := rfl
@[simp] theorem Part.latchTach_descale (p : Part) : p.latchTach.descale = p.descale := rfl
@[simp] theorem Part.latchTach_program (p : Part) : p.latchTach.program = p.program := rfl

/-! ### What the named updates change -/

@[simp] theorem Part.raiseNotice_notice (p : Part) (n : Notice) : (p.raiseNotice n).notice = p.notice.raise n := rfl
@[simp] theorem Part.queueItem_store (p : Part) (i : Nat) (v : ItemValue) : (p.queueItem i v).store = p.store.enqueue i v := rfl
@[simp] theorem Part.readRatings_ratings (p : Part) : p.readRatings.climate.ratings = p.store.ratings := rfl
@[simp] theorem Part.readRatings_groupMax (p : Part) (m : HeatMode) : p.readRatings.climate.groupMax m = p.store.groupMax m := rfl
@[simp] theorem Part.keepDemand_demand (p : Part) : p.keepDemand.climate.demand = p.climate.given := rfl
@[simp] theorem Part.clampIntegral_integral (p : Part) (m : HeatMode) : (p.clampIntegral m).climate.integral = clampInt 0 (p.climate.groupMax m) p.climate.integral := rfl
@[simp] theorem Part.noDemand_demands (p : Part) : p.noDemand.power.demands = PerElement.all 0 := rfl
@[simp] theorem Part.noDemand_given (p : Part) : p.noDemand.climate.given = 0 := rfl
@[simp] theorem Part.noDemand_demand (p : Part) : p.noDemand.climate.demand = p.climate.demand := rfl
@[simp] theorem Part.noDemand_state (p : Part) : p.noDemand.climate.state = p.climate.state := rfl
@[simp] theorem Part.noDemand_params (p : Part) : p.noDemand.climate.params = p.climate.params := rfl
@[simp] theorem Part.giveDemand_given (p : Part) (m : HeatMode) (d : Int) : (p.giveDemand m d).climate.given = if p.demandHeld m then 0 else d := rfl
@[simp] theorem Part.giveDemand_demand (p : Part) (m : HeatMode) (d : Int) : (p.giveDemand m d).climate.demand = p.climate.demand := rfl
@[simp] theorem Part.giveDemand_demands (p : Part) (m : HeatMode) (d : Int) : (p.giveDemand m d).power.demands = splitDemand p.climate.ratings m (if p.demandHeld m then 0 else d) := rfl
@[simp] theorem Part.giveDemand_integral (p : Part) (m : HeatMode) (d : Int) : (p.giveDemand m d).climate.integral = p.climate.integral := rfl
@[simp] theorem Part.steamTest_steamWanted (p : Part) : p.steamTest.climate.steamWanted = p.steamTestValue := rfl
@[simp] theorem Part.withdrawCavity_watts (p : Part) : p.withdrawCavity.power.grants.watts = PerElement.all 0 := rfl
@[simp] theorem Part.withdrawCavity_withdrawn (p : Part) : p.withdrawCavity.power.withdrawn = true := rfl
@[simp] theorem Part.withdrawCavity_curtailed (p : Part) : p.withdrawCavity.power.grants.curtailed = p.power.grants.curtailed := rfl
@[simp] theorem Part.noBoilerRequest_boilerRequest (p : Part) : p.noBoilerRequest.power.boilerRequest = false := rfl
@[simp] theorem Part.boilerRest_state (p : Part) (b : BoilerState) : (p.boilerRest b).boiler.state = b := rfl
@[simp] theorem Part.boilerRest_owner (p : Part) (b : BoilerState) : (p.boilerRest b).boiler.owner = p.boiler.owner := rfl
@[simp] theorem Part.boilerRest_purpose (p : Part) (b : BoilerState) : (p.boilerRest b).boiler.purpose = none := rfl
@[simp] theorem Part.boilerRest_flow (p : Part) (b : BoilerState) : (p.boilerRest b).boiler.flow = 0 := rfl
@[simp] theorem Part.boilerRest_waiting (p : Part) (b : BoilerState) : (p.boilerRest b).boiler.waiting = p.boiler.waiting := rfl
@[simp] theorem Part.boilerRest_inFlight (p : Part) (b : BoilerState) : (p.boilerRest b).boiler.inFlight = p.boiler.inFlight := rfl
@[simp] theorem Part.evaluateLock_lock (p : Part) : p.evaluateLock.scale.lock = (p.lockByLoad || p.descale.record.rinseOwed) := rfl
@[simp] theorem Part.evaluateLock_owed (p : Part) : p.evaluateLock.scale.owed = p.scale.owed := rfl
@[simp] theorem Part.evaluateLock_credit (p : Part) : p.evaluateLock.scale.credit = p.scale.credit := rfl
@[simp] theorem Part.deposit_owed (p : Part) (v : Nat) : (p.deposit v).scale.owed = p.scale.owed := rfl
@[simp] theorem Part.deposit_credit (p : Part) (v : Nat) : (p.deposit v).scale.credit = p.scale.credit := rfl
@[simp] theorem Part.descalePhase_phase (p : Part) (f : DescalePhase) (r : Option PromptReason) : (p.descalePhase f r).descale.phase = f := rfl
@[simp] theorem Part.descalePhase_prompt (p : Part) (f : DescalePhase) (r : Option PromptReason) : (p.descalePhase f r).descale.prompt = r := rfl
@[simp] theorem Part.descalePhase_recordPhase (p : Part) (f : DescalePhase) (r : Option PromptReason) : (p.descalePhase f r).descale.record.phase = f := rfl
@[simp] theorem Part.descaleRelease_owner (p : Part) : p.descaleRelease.boiler.owner = Owner.none := rfl
@[simp] theorem Part.clearHold_mode (p : Part) : p.clearHold.mode.mode = p.mode.mode := rfl
@[simp] theorem Part.clearHold_holdTimer (p : Part) : p.clearHold.mode.holdTimer = Timer.stopped := rfl
@[simp] theorem Part.clearHold_faults (p : Part) : p.clearHold.mode.faults = p.mode.faults := rfl
@[simp] theorem Part.unlatch_faults (p : Part) (k : FaultKind) : (p.unlatch k).mode.faults = p.mode.faults &&& ~~~ faultFlag k := rfl
@[simp] theorem Part.waitFor_state (p : Part) (r : WaitReason) : (p.waitFor r).program.state = ProgramState.waiting := rfl
@[simp] theorem Part.waitFor_reason (p : Part) (r : WaitReason) : (p.waitFor r).program.reason = some r := rfl
@[simp] theorem Part.waitFor_stages (p : Part) (r : WaitReason) : (p.waitFor r).program.stages = p.program.stages := rfl
@[simp] theorem Part.waitFor_index (p : Part) (r : WaitReason) : (p.waitFor r).program.index = p.program.index := rfl
@[simp] theorem Part.pauseProgram_state (p : Part) (r : WaitReason) : (p.pauseProgram r).program.state = ProgramState.paused := rfl
@[simp] theorem Part.pauseProgram_stages (p : Part) (r : WaitReason) : (p.pauseProgram r).program.stages = p.program.stages := rfl
@[simp] theorem Part.pauseProgram_index (p : Part) (r : WaitReason) : (p.pauseProgram r).program.index = p.program.index := rfl

end Sys2Proof.Machine
end

