-- ==== Sys2Proof/Laws/Ops.lean ====
section
/-! SUPPORT. What the shared operations can do, said once each: clamps and counters, timers, values per element, the node
table, a raised notice, and the blocks that each operation with a choice in it leaves alone. -/

namespace Sys2Proof.Machine

/-! ### Clamps and counters (section 3.2) -/

theorem clampNat_bounds {lo hi : Nat} (v : Nat) (h : lo ≤ hi) : lo ≤ clampNat lo hi v ∧ clampNat lo hi v ≤ hi := by
  unfold clampNat; repeat' split
  all_goals omega

theorem clampNat_of_mem {lo hi v : Nat} (h : lo ≤ v) (k : v ≤ hi) : clampNat lo hi v = v := by
  unfold clampNat; rw [if_neg (by omega), if_neg (by omega)]

theorem clampNat_eq (lo hi v : Nat) (h : lo ≤ hi) : clampNat lo hi v = max lo (min hi v) := by
  unfold clampNat; repeat' split
  all_goals omega

theorem clampInt_bounds {lo hi : Int} (v : Int) (h : lo ≤ hi) : lo ≤ clampInt lo hi v ∧ clampInt lo hi v ≤ hi := by
  unfold clampInt; repeat' split
  all_goals omega

theorem clampInt_eq (lo hi v : Int) (h : lo ≤ hi) : clampInt lo hi v = max lo (min hi v) := by
  unfold clampInt; repeat' split
  all_goals omega

theorem bump_le (m n : Nat) : bump m n ≤ m := by unfold bump; split <;> omega

theorem bump_eq (m n : Nat) : bump m n = min m (n + 1) := by unfold bump; split <;> omega

/-! ### Timers (section 3.5) -/

@[simp] theorem Timer.start_eq (n : Nat) : Timer.start n = .running n := rfl
@[simp] theorem Timer.runs_running (n : Nat) : (Timer.running n).runs = true := rfl
@[simp] theorem Timer.runs_paused (n : Nat) : (Timer.paused n).runs = false := rfl
@[simp] theorem Timer.runs_stopped : Timer.stopped.runs = false := rfl
@[simp] theorem Timer.pause_runs (t : Timer) : t.pause.runs = false := by cases t <;> rfl
@[simp] theorem Timer.resume_pause (t : Timer) : t.pause.resume = t.resume := by cases t <;> rfl

/-! ### Values per element -/

@[simp] theorem PerElement.get_of {α : Type} (f : Element → α) (e : Element) : (PerElement.of f).get e = f e := by
  cases e <;> rfl
@[simp] theorem PerElement.get_all {α : Type} (a : α) (e : Element) : (PerElement.all a).get e = a := by cases e <;> rfl
@[simp] theorem PerElement.get_put_self {α : Type} (x : PerElement α) (e : Element) (a : α) : (x.put e a).get e = a := by
  cases e <;> rfl
theorem PerElement.get_put_ne {α : Type} (x : PerElement α) {e f : Element} (a : α) (h : f ≠ e) :
    (x.put e a).get f = x.get f := by cases e <;> cases f <;> first | rfl | exact absurd rfl h

/-! ### The node table (R42) -/

theorem getAt_setAt_self {α : Type} (d : α) (xs : List α) (n : Nat) (a : α) (h : n < xs.length) :
    getAt d (setAt xs n a) n = a := by
  induction xs generalizing n with
  | nil => simp at h
  | cons x xs ih =>
    cases n with
    | zero => rfl
    | succ n => exact ih n (by simpa using h)

theorem getAt_setAt_ne {α : Type} (d : α) (xs : List α) {n m : Nat} (a : α) (h : m ≠ n) :
    getAt d (setAt xs n a) m = getAt d xs m := by
  induction xs generalizing n m with
  | nil => rfl
  | cons x xs ih =>
    cases n with
    | zero => cases m with
      | zero => exact absurd rfl h
      | succ m => rfl
    | succ n => cases m with
      | zero => rfl
      | succ m => exact ih (fun k => h (by omega))

/-- An entry reads as it was last written. -/
theorem Ring.entry_putEntry_self (r : Ring) (a : Nat) (n : NodeEntry) (h : a - 1 < r.nodes.length) :
    (r.putEntry a n).entry a = n := getAt_setAt_self _ _ _ _ h

/-- A write leaves every other entry alone. -/
theorem Ring.entry_putEntry_ne (r : Ring) {a b : Nat} (n : NodeEntry) (h : b - 1 ≠ a - 1) :
    (r.putEntry a n).entry b = r.entry b := getAt_setAt_ne _ _ _ h

/-! ### Notices (R167) -/

/-- A raised notice is pending. -/
theorem NoticeUnit.raise_self (u : NoticeUnit) (n : Notice) :
    (u.raise n).pending.getLsbD (noticePosition n) = true := by
  have hp : noticePosition n < 16 := by cases n <;> decide
  unfold NoticeUnit.raise
  split
  · rename_i h
    by_contra hc
    apply absurd h
    have : u.pending &&& noticeFlag n = 0 := by
      apply BitVec.eq_of_getLsbD_eq
      intro i hi
      simp only [noticeFlag, BitVec.getLsbD_and, BitVec.getLsbD_shiftLeft, BitVec.getLsbD_one]
      by_cases hh : i = noticePosition n
      · subst hh; simp_all
      · have : ¬(decide (i < 16) && !decide (i < noticePosition n) && (decide (0 < 16) && decide (i - noticePosition n = 0))) = true := by
          simp; omega
        simp at this ⊢; omega
    simp [this]
  · simp [noticeFlag, hp]

/-! ### The blocks that an operation leaves alone -/

@[simp] theorem Part.setVent_store (p : Part) (t : VentTarget) : (p.setVent t).store = p.store := by 
  unfold Part.setVent; repeat' split
  all_goals rfl
@[simp] theorem Part.setVent_notice (p : Part) (t : VentTarget) : (p.setVent t).notice = p.notice := by 
  unfold Part.setVent; repeat' split
  all_goals rfl
@[simp] theorem Part.setVent_capture (p : Part) (t : VentTarget) : (p.setVent t).capture = p.capture := by 
  unfold Part.setVent; repeat' split
  all_goals rfl
@[simp] theorem Part.setVent_report (p : Part) (t : VentTarget) : (p.setVent t).report = p.report := by 
  unfold Part.setVent; repeat' split
  all_goals rfl
@[simp] theorem Part.setVent_mode (p : Part) (t : VentTarget) : (p.setVent t).mode = p.mode := by 
  unfold Part.setVent; repeat' split
  all_goals rfl
@[simp] theorem Part.setVent_ring (p : Part) (t : VentTarget) : (p.setVent t).ring = p.ring := by 
  unfold Part.setVent; repeat' split
  all_goals rfl
@[simp] theorem Part.setVent_power (p : Part) (t : VentTarget) : (p.setVent t).power = p.power := by 
  unfold Part.setVent; repeat' split
  all_goals rfl
@[simp] theorem Part.setVent_boiler (p : Part) (t : VentTarget) : (p.setVent t).boiler = p.boiler := by 
  unfold Part.setVent; repeat' split
  all_goals rfl
@[simp] theorem Part.setVent_scale (p : Part) (t : VentTarget) : (p.setVent t).scale = p.scale := by 
  unfold Part.setVent; repeat' split
  all_goals rfl
@[simp] theorem Part.setVent_descale (p : Part) (t : VentTarget) : (p.setVent t).descale = p.descale := by 
  unfold Part.setVent; repeat' split
  all_goals rfl
@[simp] theorem Part.setVent_program (p : Part) (t : VentTarget) : (p.setVent t).program = p.program := by 
  unfold Part.setVent; repeat' split
  all_goals rfl

@[simp] theorem Part.clearClimate_store (p : Part) (n : ClimateState) : (p.clearClimate n).store = p.store := by simp [Part.clearClimate]
@[simp] theorem Part.clearClimate_notice (p : Part) (n : ClimateState) : (p.clearClimate n).notice = p.notice := by simp [Part.clearClimate]
@[simp] theorem Part.clearClimate_capture (p : Part) (n : ClimateState) : (p.clearClimate n).capture = p.capture := by simp [Part.clearClimate]
@[simp] theorem Part.clearClimate_report (p : Part) (n : ClimateState) : (p.clearClimate n).report = p.report := by simp [Part.clearClimate]
@[simp] theorem Part.clearClimate_mode (p : Part) (n : ClimateState) : (p.clearClimate n).mode = p.mode := by simp [Part.clearClimate]
@[simp] theorem Part.clearClimate_ring (p : Part) (n : ClimateState) : (p.clearClimate n).ring = p.ring := by simp [Part.clearClimate]
@[simp] theorem Part.clearClimate_boiler (p : Part) (n : ClimateState) : (p.clearClimate n).boiler = p.boiler := by simp [Part.clearClimate]
@[simp] theorem Part.clearClimate_scale (p : Part) (n : ClimateState) : (p.clearClimate n).scale = p.scale := by simp [Part.clearClimate]
@[simp] theorem Part.clearClimate_descale (p : Part) (n : ClimateState) : (p.clearClimate n).descale = p.descale := by simp [Part.clearClimate]
@[simp] theorem Part.clearClimate_program (p : Part) (n : ClimateState) : (p.clearClimate n).program = p.program := by simp [Part.clearClimate]

@[simp] theorem Part.endCooking_store (p : Part) : p.endCooking.store = p.store := by unfold Part.endCooking; split <;> simp
@[simp] theorem Part.endCooking_notice (p : Part) : p.endCooking.notice = p.notice := by unfold Part.endCooking; split <;> simp
@[simp] theorem Part.endCooking_capture (p : Part) : p.endCooking.capture = p.capture := by unfold Part.endCooking; split <;> simp
@[simp] theorem Part.endCooking_report (p : Part) : p.endCooking.report = p.report := by unfold Part.endCooking; split <;> simp
@[simp] theorem Part.endCooking_mode (p : Part) : p.endCooking.mode = p.mode := by unfold Part.endCooking; split <;> simp
@[simp] theorem Part.endCooking_ring (p : Part) : p.endCooking.ring = p.ring := by unfold Part.endCooking; split <;> simp
@[simp] theorem Part.endCooking_boiler (p : Part) : p.endCooking.boiler = p.boiler := by unfold Part.endCooking; split <;> simp
@[simp] theorem Part.endCooking_scale (p : Part) : p.endCooking.scale = p.scale := by unfold Part.endCooking; split <;> simp
@[simp] theorem Part.endCooking_descale (p : Part) : p.endCooking.descale = p.descale := by unfold Part.endCooking; split <;> simp
@[simp] theorem Part.endCooking_program (p : Part) : p.endCooking.program = p.program := by unfold Part.endCooking; split <;> simp

@[simp] theorem Part.forcedOff_store (p : Part) : p.forcedOff.store = p.store := by unfold Part.forcedOff; split <;> simp
@[simp] theorem Part.forcedOff_notice (p : Part) : p.forcedOff.notice = p.notice := by unfold Part.forcedOff; split <;> simp
@[simp] theorem Part.forcedOff_capture (p : Part) : p.forcedOff.capture = p.capture := by unfold Part.forcedOff; split <;> simp
@[simp] theorem Part.forcedOff_report (p : Part) : p.forcedOff.report = p.report := by unfold Part.forcedOff; split <;> simp
@[simp] theorem Part.forcedOff_mode (p : Part) : p.forcedOff.mode = p.mode := by unfold Part.forcedOff; split <;> simp
@[simp] theorem Part.forcedOff_ring (p : Part) : p.forcedOff.ring = p.ring := by unfold Part.forcedOff; split <;> simp
@[simp] theorem Part.forcedOff_boiler (p : Part) : p.forcedOff.boiler = p.boiler := by unfold Part.forcedOff; split <;> simp
@[simp] theorem Part.forcedOff_scale (p : Part) : p.forcedOff.scale = p.scale := by unfold Part.forcedOff; split <;> simp
@[simp] theorem Part.forcedOff_descale (p : Part) : p.forcedOff.descale = p.descale := by unfold Part.forcedOff; split <;> simp
@[simp] theorem Part.forcedOff_program (p : Part) : p.forcedOff.program = p.program := by unfold Part.forcedOff; split <;> simp

@[simp] theorem Part.withdrawBoiler_store (p : Part) : p.withdrawBoiler.store = p.store := by unfold Part.withdrawBoiler; split <;> rfl
@[simp] theorem Part.withdrawBoiler_notice (p : Part) : p.withdrawBoiler.notice = p.notice := by unfold Part.withdrawBoiler; split <;> rfl
@[simp] theorem Part.withdrawBoiler_capture (p : Part) : p.withdrawBoiler.capture = p.capture := by unfold Part.withdrawBoiler; split <;> rfl
@[simp] theorem Part.withdrawBoiler_report (p : Part) : p.withdrawBoiler.report = p.report := by unfold Part.withdrawBoiler; split <;> rfl
@[simp] theorem Part.withdrawBoiler_mode (p : Part) : p.withdrawBoiler.mode = p.mode := by unfold Part.withdrawBoiler; split <;> rfl
@[simp] theorem Part.withdrawBoiler_ring (p : Part) : p.withdrawBoiler.ring = p.ring := by unfold Part.withdrawBoiler; split <;> rfl
@[simp] theorem Part.withdrawBoiler_climate (p : Part) : p.withdrawBoiler.climate = p.climate := by unfold Part.withdrawBoiler; split <;> rfl
@[simp] theorem Part.withdrawBoiler_boiler (p : Part) : p.withdrawBoiler.boiler = p.boiler := by unfold Part.withdrawBoiler; split <;> rfl
@[simp] theorem Part.withdrawBoiler_scale (p : Part) : p.withdrawBoiler.scale = p.scale := by unfold Part.withdrawBoiler; split <;> rfl
@[simp] theorem Part.withdrawBoiler_descale (p : Part) : p.withdrawBoiler.descale = p.descale := by unfold Part.withdrawBoiler; split <;> rfl
@[simp] theorem Part.withdrawBoiler_program (p : Part) : p.withdrawBoiler.program = p.program := by unfold Part.withdrawBoiler; split <;> rfl

@[simp] theorem Part.startReports_store (p : Part) : p.startReports.store = p.store := by rfl
@[simp] theorem Part.startReports_notice (p : Part) : p.startReports.notice = p.notice := by rfl
@[simp] theorem Part.startReports_capture (p : Part) : p.startReports.capture = p.capture := by rfl
@[simp] theorem Part.startReports_mode (p : Part) : p.startReports.mode = p.mode := by rfl
@[simp] theorem Part.startReports_ring (p : Part) : p.startReports.ring = p.ring := by rfl
@[simp] theorem Part.startReports_climate (p : Part) : p.startReports.climate = p.climate := by rfl
@[simp] theorem Part.startReports_power (p : Part) : p.startReports.power = p.power := by rfl
@[simp] theorem Part.startReports_boiler (p : Part) : p.startReports.boiler = p.boiler := by rfl
@[simp] theorem Part.startReports_scale (p : Part) : p.startReports.scale = p.scale := by rfl
@[simp] theorem Part.startReports_descale (p : Part) : p.startReports.descale = p.descale := by rfl
@[simp] theorem Part.startReports_program (p : Part) : p.startReports.program = p.program := by rfl

@[simp] theorem Part.setMode_store (p : Part) (m : OpMode) : (p.setMode m).store = p.store := by 
  unfold Part.setMode; dsimp only; repeat' split
  all_goals rfl
@[simp] theorem Part.setMode_notice (p : Part) (m : OpMode) : (p.setMode m).notice = p.notice := by 
  unfold Part.setMode; dsimp only; repeat' split
  all_goals rfl
@[simp] theorem Part.setMode_capture (p : Part) (m : OpMode) : (p.setMode m).capture = p.capture := by 
  unfold Part.setMode; dsimp only; repeat' split
  all_goals rfl
@[simp] theorem Part.setMode_ring (p : Part) (m : OpMode) : (p.setMode m).ring = p.ring := by 
  unfold Part.setMode; dsimp only; repeat' split
  all_goals rfl
@[simp] theorem Part.setMode_climate (p : Part) (m : OpMode) : (p.setMode m).climate = p.climate := by 
  unfold Part.setMode; dsimp only; repeat' split
  all_goals rfl
@[simp] theorem Part.setMode_power (p : Part) (m : OpMode) : (p.setMode m).power = p.power := by 
  unfold Part.setMode; dsimp only; repeat' split
  all_goals rfl
@[simp] theorem Part.setMode_boiler (p : Part) (m : OpMode) : (p.setMode m).boiler = p.boiler := by 
  unfold Part.setMode; dsimp only; repeat' split
  all_goals rfl
@[simp] theorem Part.setMode_scale (p : Part) (m : OpMode) : (p.setMode m).scale = p.scale := by 
  unfold Part.setMode; dsimp only; repeat' split
  all_goals rfl
@[simp] theorem Part.setMode_descale (p : Part) (m : OpMode) : (p.setMode m).descale = p.descale := by 
  unfold Part.setMode; dsimp only; repeat' split
  all_goals rfl
@[simp] theorem Part.setMode_program (p : Part) (m : OpMode) : (p.setMode m).program = p.program := by 
  unfold Part.setMode; dsimp only; repeat' split
  all_goals rfl

@[simp] theorem Part.wake_store (p : Part) : p.wake.store = p.store := by unfold Part.wake; split <;> simp
@[simp] theorem Part.wake_notice (p : Part) : p.wake.notice = p.notice := by unfold Part.wake; split <;> simp
@[simp] theorem Part.wake_capture (p : Part) : p.wake.capture = p.capture := by unfold Part.wake; split <;> simp
@[simp] theorem Part.wake_power (p : Part) : p.wake.power = p.power := by unfold Part.wake; split <;> simp
@[simp] theorem Part.wake_boiler (p : Part) : p.wake.boiler = p.boiler := by unfold Part.wake; split <;> simp
@[simp] theorem Part.wake_scale (p : Part) : p.wake.scale = p.scale := by unfold Part.wake; split <;> simp
@[simp] theorem Part.wake_descale (p : Part) : p.wake.descale = p.descale := by unfold Part.wake; split <;> simp
@[simp] theorem Part.wake_program (p : Part) : p.wake.program = p.program := by unfold Part.wake; split <;> simp

@[simp] theorem Part.dueTest_store (p : Part) : p.dueTest.store = p.store := by unfold Part.dueTest; split <;> rfl
@[simp] theorem Part.dueTest_capture (p : Part) : p.dueTest.capture = p.capture := by unfold Part.dueTest; split <;> rfl
@[simp] theorem Part.dueTest_report (p : Part) : p.dueTest.report = p.report := by unfold Part.dueTest; split <;> rfl
@[simp] theorem Part.dueTest_mode (p : Part) : p.dueTest.mode = p.mode := by unfold Part.dueTest; split <;> rfl
@[simp] theorem Part.dueTest_ring (p : Part) : p.dueTest.ring = p.ring := by unfold Part.dueTest; split <;> rfl
@[simp] theorem Part.dueTest_climate (p : Part) : p.dueTest.climate = p.climate := by unfold Part.dueTest; split <;> rfl
@[simp] theorem Part.dueTest_power (p : Part) : p.dueTest.power = p.power := by unfold Part.dueTest; split <;> rfl
@[simp] theorem Part.dueTest_boiler (p : Part) : p.dueTest.boiler = p.boiler := by unfold Part.dueTest; split <;> rfl
@[simp] theorem Part.dueTest_descale (p : Part) : p.dueTest.descale = p.descale := by unfold Part.dueTest; split <;> rfl
@[simp] theorem Part.dueTest_program (p : Part) : p.dueTest.program = p.program := by unfold Part.dueTest; split <;> rfl

@[simp] theorem Part.boilerEmpty_store (p : Part) : p.boilerEmpty.store = p.store := by rfl
@[simp] theorem Part.boilerEmpty_notice (p : Part) : p.boilerEmpty.notice = p.notice := by rfl
@[simp] theorem Part.boilerEmpty_capture (p : Part) : p.boilerEmpty.capture = p.capture := by rfl
@[simp] theorem Part.boilerEmpty_report (p : Part) : p.boilerEmpty.report = p.report := by rfl
@[simp] theorem Part.boilerEmpty_mode (p : Part) : p.boilerEmpty.mode = p.mode := by rfl
@[simp] theorem Part.boilerEmpty_ring (p : Part) : p.boilerEmpty.ring = p.ring := by rfl
@[simp] theorem Part.boilerEmpty_climate (p : Part) : p.boilerEmpty.climate = p.climate := by rfl
@[simp] theorem Part.boilerEmpty_scale (p : Part) : p.boilerEmpty.scale = p.scale := by rfl
@[simp] theorem Part.boilerEmpty_descale (p : Part) : p.boilerEmpty.descale = p.descale := by rfl
@[simp] theorem Part.boilerEmpty_program (p : Part) : p.boilerEmpty.program = p.program := by rfl

@[simp] theorem Part.boilerReady_store (p : Part) : p.boilerReady.store = p.store := by unfold Part.boilerReady; dsimp only; split <;> rfl
@[simp] theorem Part.boilerReady_notice (p : Part) : p.boilerReady.notice = p.notice := by unfold Part.boilerReady; dsimp only; split <;> rfl
@[simp] theorem Part.boilerReady_capture (p : Part) : p.boilerReady.capture = p.capture := by unfold Part.boilerReady; dsimp only; split <;> rfl
@[simp] theorem Part.boilerReady_report (p : Part) : p.boilerReady.report = p.report := by unfold Part.boilerReady; dsimp only; split <;> rfl
@[simp] theorem Part.boilerReady_mode (p : Part) : p.boilerReady.mode = p.mode := by unfold Part.boilerReady; dsimp only; split <;> rfl
@[simp] theorem Part.boilerReady_ring (p : Part) : p.boilerReady.ring = p.ring := by unfold Part.boilerReady; dsimp only; split <;> rfl
@[simp] theorem Part.boilerReady_climate (p : Part) : p.boilerReady.climate = p.climate := by unfold Part.boilerReady; dsimp only; split <;> rfl
@[simp] theorem Part.boilerReady_scale (p : Part) : p.boilerReady.scale = p.scale := by unfold Part.boilerReady; dsimp only; split <;> rfl
@[simp] theorem Part.boilerReady_descale (p : Part) : p.boilerReady.descale = p.descale := by unfold Part.boilerReady; dsimp only; split <;> rfl
@[simp] theorem Part.boilerReady_program (p : Part) : p.boilerReady.program = p.program := by unfold Part.boilerReady; dsimp only; split <;> rfl

@[simp] theorem Part.boilerEndFill_store (p : Part) : p.boilerEndFill.store = p.store := by unfold Part.boilerEndFill; split <;> rfl
@[simp] theorem Part.boilerEndFill_notice (p : Part) : p.boilerEndFill.notice = p.notice := by unfold Part.boilerEndFill; split <;> rfl
@[simp] theorem Part.boilerEndFill_capture (p : Part) : p.boilerEndFill.capture = p.capture := by unfold Part.boilerEndFill; split <;> rfl
@[simp] theorem Part.boilerEndFill_report (p : Part) : p.boilerEndFill.report = p.report := by unfold Part.boilerEndFill; split <;> rfl
@[simp] theorem Part.boilerEndFill_mode (p : Part) : p.boilerEndFill.mode = p.mode := by unfold Part.boilerEndFill; split <;> rfl
@[simp] theorem Part.boilerEndFill_ring (p : Part) : p.boilerEndFill.ring = p.ring := by unfold Part.boilerEndFill; split <;> rfl
@[simp] theorem Part.boilerEndFill_climate (p : Part) : p.boilerEndFill.climate = p.climate := by unfold Part.boilerEndFill; split <;> rfl
@[simp] theorem Part.boilerEndFill_scale (p : Part) : p.boilerEndFill.scale = p.scale := by unfold Part.boilerEndFill; split <;> rfl
@[simp] theorem Part.boilerEndFill_descale (p : Part) : p.boilerEndFill.descale = p.descale := by unfold Part.boilerEndFill; split <;> rfl
@[simp] theorem Part.boilerEndFill_program (p : Part) : p.boilerEndFill.program = p.program := by unfold Part.boilerEndFill; split <;> rfl

@[simp] theorem Part.startHeating_store (p : Part) (t : Int) (n : Continuation) : (p.startHeating t n).store = p.store := by rfl
@[simp] theorem Part.startHeating_notice (p : Part) (t : Int) (n : Continuation) : (p.startHeating t n).notice = p.notice := by rfl
@[simp] theorem Part.startHeating_capture (p : Part) (t : Int) (n : Continuation) : (p.startHeating t n).capture = p.capture := by rfl
@[simp] theorem Part.startHeating_report (p : Part) (t : Int) (n : Continuation) : (p.startHeating t n).report = p.report := by rfl
@[simp] theorem Part.startHeating_mode (p : Part) (t : Int) (n : Continuation) : (p.startHeating t n).mode = p.mode := by rfl
@[simp] theorem Part.startHeating_ring (p : Part) (t : Int) (n : Continuation) : (p.startHeating t n).ring = p.ring := by rfl
@[simp] theorem Part.startHeating_climate (p : Part) (t : Int) (n : Continuation) : (p.startHeating t n).climate = p.climate := by rfl
@[simp] theorem Part.startHeating_scale (p : Part) (t : Int) (n : Continuation) : (p.startHeating t n).scale = p.scale := by rfl
@[simp] theorem Part.startHeating_descale (p : Part) (t : Int) (n : Continuation) : (p.startHeating t n).descale = p.descale := by rfl
@[simp] theorem Part.startHeating_program (p : Part) (t : Int) (n : Continuation) : (p.startHeating t n).program = p.program := by rfl

@[simp] theorem Part.enterDraining_store (p : Part) : p.enterDraining.store = p.store := by unfold Part.enterDraining; dsimp only; split <;> rfl
@[simp] theorem Part.enterDraining_notice (p : Part) : p.enterDraining.notice = p.notice := by unfold Part.enterDraining; dsimp only; split <;> rfl
@[simp] theorem Part.enterDraining_capture (p : Part) : p.enterDraining.capture = p.capture := by unfold Part.enterDraining; dsimp only; split <;> rfl
@[simp] theorem Part.enterDraining_report (p : Part) : p.enterDraining.report = p.report := by unfold Part.enterDraining; dsimp only; split <;> rfl
@[simp] theorem Part.enterDraining_mode (p : Part) : p.enterDraining.mode = p.mode := by unfold Part.enterDraining; dsimp only; split <;> rfl
@[simp] theorem Part.enterDraining_ring (p : Part) : p.enterDraining.ring = p.ring := by unfold Part.enterDraining; dsimp only; split <;> rfl
@[simp] theorem Part.enterDraining_climate (p : Part) : p.enterDraining.climate = p.climate := by unfold Part.enterDraining; dsimp only; split <;> rfl
@[simp] theorem Part.enterDraining_power (p : Part) : p.enterDraining.power = p.power := by unfold Part.enterDraining; dsimp only; split <;> rfl
@[simp] theorem Part.enterDraining_scale (p : Part) : p.enterDraining.scale = p.scale := by unfold Part.enterDraining; dsimp only; split <;> rfl
@[simp] theorem Part.enterDraining_descale (p : Part) : p.enterDraining.descale = p.descale := by unfold Part.enterDraining; dsimp only; split <;> rfl
@[simp] theorem Part.enterDraining_program (p : Part) : p.enterDraining.program = p.program := by unfold Part.enterDraining; dsimp only; split <;> rfl

@[simp] theorem Part.startDrain_store (p : Part) (u : Purpose) (n : Continuation) : (p.startDrain u n).store = p.store := by 
  unfold Part.startDrain; dsimp only; split
  · rw [Part.enterDraining_store]; rfl
  · rfl
@[simp] theorem Part.startDrain_notice (p : Part) (u : Purpose) (n : Continuation) : (p.startDrain u n).notice = p.notice := by 
  unfold Part.startDrain; dsimp only; split
  · rw [Part.enterDraining_notice]; rfl
  · rfl
@[simp] theorem Part.startDrain_capture (p : Part) (u : Purpose) (n : Continuation) : (p.startDrain u n).capture = p.capture := by 
  unfold Part.startDrain; dsimp only; split
  · rw [Part.enterDraining_capture]; rfl
  · rfl
@[simp] theorem Part.startDrain_report (p : Part) (u : Purpose) (n : Continuation) : (p.startDrain u n).report = p.report := by 
  unfold Part.startDrain; dsimp only; split
  · rw [Part.enterDraining_report]; rfl
  · rfl
@[simp] theorem Part.startDrain_mode (p : Part) (u : Purpose) (n : Continuation) : (p.startDrain u n).mode = p.mode := by 
  unfold Part.startDrain; dsimp only; split
  · rw [Part.enterDraining_mode]; rfl
  · rfl
@[simp] theorem Part.startDrain_ring (p : Part) (u : Purpose) (n : Continuation) : (p.startDrain u n).ring = p.ring := by 
  unfold Part.startDrain; dsimp only; split
  · rw [Part.enterDraining_ring]; rfl
  · rfl
@[simp] theorem Part.startDrain_climate (p : Part) (u : Purpose) (n : Continuation) : (p.startDrain u n).climate = p.climate := by 
  unfold Part.startDrain; dsimp only; split
  · rw [Part.enterDraining_climate]; rfl
  · rfl
@[simp] theorem Part.startDrain_scale (p : Part) (u : Purpose) (n : Continuation) : (p.startDrain u n).scale = p.scale := by 
  unfold Part.startDrain; dsimp only; split
  · rw [Part.enterDraining_scale]; rfl
  · rfl
@[simp] theorem Part.startDrain_descale (p : Part) (u : Purpose) (n : Continuation) : (p.startDrain u n).descale = p.descale := by 
  unfold Part.startDrain; dsimp only; split
  · rw [Part.enterDraining_descale]; rfl
  · rfl
@[simp] theorem Part.startDrain_program (p : Part) (u : Purpose) (n : Continuation) : (p.startDrain u n).program = p.program := by 
  unfold Part.startDrain; dsimp only; split
  · rw [Part.enterDraining_program]; rfl
  · rfl

/-! ### What an operation with a choice in it leaves -/

@[simp] theorem Part.setMode_mode_mode (p : Part) (m : OpMode) : (p.setMode m).mode.mode = m := by
  unfold Part.setMode; dsimp only; repeat' split
  all_goals rfl
@[simp] theorem Part.setMode_faults (p : Part) (m : OpMode) : (p.setMode m).mode.faults = p.mode.faults := by
  unfold Part.setMode; dsimp only; repeat' split
  all_goals rfl
@[simp] theorem Part.setVent_state (p : Part) (t : VentTarget) : (p.setVent t).climate.state = p.climate.state := by
  unfold Part.setVent; repeat' split
  all_goals rfl
@[simp] theorem Part.setVent_params (p : Part) (t : VentTarget) : (p.setVent t).climate.params = p.climate.params := by
  unfold Part.setVent; repeat' split
  all_goals rfl
@[simp] theorem Part.clearClimate_state (p : Part) (n : ClimateState) : (p.clearClimate n).climate.state = n := by
  simp [Part.clearClimate]
@[simp] theorem Part.clearClimate_params (p : Part) (n : ClimateState) : (p.clearClimate n).climate.params = none := by
  simp [Part.clearClimate]
/-- R6: forced off leaves OFF. -/
@[simp] theorem Part.forcedOff_state (p : Part) : p.forcedOff.climate.state = .off := by
  unfold Part.forcedOff; split
  · assumption
  · simp
/-- R37: a withdrawal leaves the boiler relay open. -/
@[simp] theorem Part.withdrawBoiler_relay (p : Part) : p.withdrawBoiler.power.relay = false := by
  unfold Part.withdrawBoiler Power.openRelay
  split <;> simp_all
/-- R73: a drain starts in COOL_WAIT or in DRAINING. -/
theorem Part.startDrain_state (p : Part) (u : Purpose) (n : Continuation) :
    (p.startDrain u n).boiler.state = .coolWait ∨ (p.startDrain u n).boiler.state = .draining := by
  unfold Part.startDrain; dsimp only; split
  · right; unfold Part.enterDraining; dsimp only; split <;> rfl
  · left; rfl

/-! ### Scans due at once -/

/-- Where no scan is due, a command's reactions are followed by none. -/
theorem Part.advance_of_not_due (n : Nat) (p : Part) (h : p.ring.phase = .idle → p.ring.startAtOnce = false) :
    Part.advance n p = p := by
  cases n with
  | zero => rfl
  | succ n =>
    rw [Part.advance, if_neg]
    intro k
    simp only [Bool.and_eq_true, decide_eq_true_eq] at k
    rw [h k.1] at k
    exact absurd k.2 (by decide)

end Sys2Proof.Machine
end

