-- ==== Sys2Proof/Tests/Slice0.lean ====
section
/-! SUPPORT. Tests on fixed values: what WellFormed refuses, one command at a time against the words of spec/, and for each
statement with hypotheses a state and operands that meet them. -/

namespace Sys2Proof.Tests
open Sys2Proof.Machine

set_option Elab.async false

/-! ### Helpers -/

/-- The state that a command leaves. -/
def after (c : Instr) (s : State) : State :=
  match exec c s with
  | .next t => t
  | .fault _ => s
  | .refused _ => s

/-- The payload of the reply being sent. -/
def reply (s : State) : List Byte :=
  match s.link.sending with
  | .reply f => f.payload
  | .report _ => []
  | .idle => []

/-- A LINKED entry of a kind. -/
def linked (k : NodeKind) : NodeEntry := { NodeEntry.reset k with link := .linked }

/-- The default node map (R41), every node LINKED. -/
def table : List NodeEntry :=
  [linked .cavityTemp, linked .boiler, linked .waterTank, linked .door, linked .humidity, linked .coreProbe,
    linked .vent] ++ List.replicate 5 (.reset .none)

/-- A closed door, a full tank and a cold cavity. -/
def room : Image :=
  { Image.reset with
    tc := some 200, boilerTemp := some 250, tankPresent := true, tankLow := false, doorClosed := true }

/-- The part in ACTIVE after its start-up, with nothing in hand. -/
def awake : State :=
  { State.reset with
    part.mode.mode := .active, part.mode.startup := .done
    part.ring.nodes := table, part.ring.image := room, part.ring.imageValid := true
    part.ring.eligible := true, part.ring.derived := true, part.scale.lock := false
    part.power.freq := .hz50, part.power.counting := true }

/-- HOT_AIR at 180.0 °C with fan level 2. -/
def hotAir : ClimateBlock := ⟨2, 1800, 2, 0, 0, 0, 0, 0, 0, 0⟩

/-- COMBI at 90.0 °C with steam for 20 s of every 60 s. -/
def pulsed : ClimateParams := ⟨.combi, 900, 1, none, some ⟨60, 20⟩, none⟩

/-- HOT_AIR at 180.0 °C, as checked. -/
def hotAirParams : ClimateParams := ⟨.hotAir, 1800, 2, none, none, none⟩

/-- A stage of HOT_AIR for 10 s. -/
def tenSeconds : StageBlock := ⟨hotAir, 0, 10, 200, 0, 0, 0⟩

/-- The same stage, as checked. -/
def stageOf : Stage := ⟨hotAirParams, .time, 10, 200, .none, 0, false, false, false, false⟩

/-- The part cooking in REGULATE. -/
def regulating : State :=
  { awake with
    part.climate.state := .regulate, part.climate.params := some hotAirParams, part.climate.ts := some 1800
    part.climate.tsExpiry := some 1800, part.climate.integral := 600, part.climate.periodTimer := .running 1000
    part.ring.image.tc := some 1780 }

/-- A program of one stage in the executor. -/
def loaded : State := { awake with part.program.stages := [stageOf], part.program.state := .loaded }

/-- The program runs its stage. -/
def running : State :=
  { loaded with part.program.state := .running, part.program.step := .counting, part.program.written := some hotAirParams }

/-- The boiler rests hot and full. -/
def ready : State :=
  { awake with part.boiler.state := .ready, part.ring.image.lowWet := true, part.ring.image.highWet := true
               part.ring.image.boilerTemp := some 950 }

/-- A scan in progress, polling an address for MAIN. -/
def polling (a : Nat) : State :=
  { awake with part.ring.phase := .scanning, part.ring.poll := some ⟨a, .main, 1, false⟩, part.ring.scan := 7 }

/-- A whole ring frame with its check. -/
def frame (a : Nat) (f : Fetch) (value : Half) (status : Byte) (k : NodeKind) : RingReply :=
  ⟨[byteOf a, status], crc8 [byteOf a, status], a, f, value, status, k, .standard, 0x1234⟩

/-- Item 21 waits in the write queue and is being written. -/
def writing : State :=
  { awake with part.store.queue := [⟨21, .number 700⟩], part.store.writing := some (.number 700) }

/-! ### WellFormed refuses each ill-formed part -/

theorem test_wellFormed_accepts : Instr.wellFormed (.nodeReply (frame 1 .main 200 0 .cavityTemp)) = true := by decide
theorem test_wellFormed_address_low : Instr.wellFormed (.nodeReply (frame 0 .main 200 0 .cavityTemp)) = false := by decide
theorem test_wellFormed_address_high : Instr.wellFormed (.nodeReply (frame 13 .main 200 0 .cavityTemp)) = false := by decide
theorem test_wellFormed_kind : Instr.wellFormed (.nodeReply (frame 1 .main 200 0 .none)) = false := by decide
theorem test_wellFormed_probe_variant : Instr.wellFormed (.nodeReply (frame 6 .main 200 0 .coreProbe)) = false := by decide
theorem test_wellFormed_variant :
    Instr.wellFormed (.nodeReply { frame 1 .main 200 0 .cavityTemp with variant := .multi }) = false := by decide
theorem test_wellFormed_gap : Instr.wellFormed (.zeroCrossing 0) = false := by decide
theorem test_wellFormed_boundary_gap : Instr.wellFormed (.windowBoundary 0) = false := by decide
theorem test_wellFormed_measured_gap : Instr.wellFormed (.frequencyMeasured 0) = false := by decide
theorem test_wellFormed_return_gap : Instr.wellFormed (.mainsReturn 0) = false := by decide

/-! ### No row of the table gives bits; the flash of the first reset -/

theorem test_decode_none : decodeTableWord 8 0 = none := by decide
theorem test_withFetchWord : State.reset.withFetchWord 8 0 = State.reset := by decide +kernel
/-- Log entry 2: the forms written out are those of the defaults. -/
theorem test_factory_flash :
    State.reset.flash = (List.range 34).map (fun i => storedForm i (defaultValue i)) := by decide +kernel
theorem test_idle : (match step State.reset with
    | .next t => decide (t = State.reset)
    | .fault _ => false
    | .refused _ => false) = true := by decide +kernel

/-! ### Reset, link, notices -/

theorem test_powerOnReset : let t := (after .powerOnReset State.reset).part
    t.mode.startup = .frequency ∧ t.power.measure = .waiting ∧ t.report.timer = .running 1000 := by decide +kernel
theorem test_resetWaitEnd : let t := after .resetWaitEnd { awake with link.resetWait := true }
    t.link.resetWait = false ∧ t.part.mode.mode = .starting := by decide +kernel
theorem test_rxByte_start : (after (.rxByte 0xA5 true) awake).link.receiver = .assemble [] := by decide +kernel
theorem test_rxByte_badStop :
    (after (.rxByte 0x00 false) { awake with link.receiver := .assemble [] }).link.framingErrors = 1 := by decide +kernel
theorem test_rxGapTimeout : let t := after .rxGapTimeout { awake with link.receiver := .assemble [1] }
    t.link.receiver = .hunt ∧ t.link.framingErrors = 1 := by decide +kernel
theorem test_requestTake_unknown : let t := after .requestTake { awake with link.queue := [⟨0x7F, []⟩] }
    reply t = [0x10] ∧ t.link.queue = [] := by decide +kernel
theorem test_requestTake_length : reply (after .requestTake { awake with link.queue := [⟨0x01, [0]⟩] }) = [0x11] := by
  decide +kernel
theorem test_transmitEnd : let t := after .transmitEnd (after .ping awake)
    t.link.sending = .idle ∧ t.link.inHand = none := by decide +kernel
theorem test_reportTimerExpiry :
    let t := after .reportTimerExpiry { awake with part.report.timer := .running 1000 };
    t.link.sending = .report ⟨0x60, awake.part.statusBytes 1⟩ ∧ t.part.report = ⟨.running 1000, false, 1⟩ := by decide +kernel
theorem test_attnReassertEnd :
    (after .attnReassertEnd { awake with part.notice.pulse := true }).part.notice.pulse = false := by decide +kernel
theorem test_ping : reply (after .ping awake) = [0x00, 0x04, 0x20, 0x03, 0, 0, 0, 0, 0] := by decide +kernel
theorem test_reset : let t := after .reset awake
    reply t = [0x00] ∧ (after .transmitEnd t).link.resetWait = true := by decide +kernel
theorem test_statusGet : (reply (after .statusGet awake)).length = 68 := by decide +kernel
theorem test_linkStats : let t := after .linkStats { awake with link.crcErrors := 9, link.overruns := 255 }
    reply t = [0x00, 9, 0, 255] ∧ t.link.crcErrors = 0 := by decide +kernel
theorem test_noticeGet : let t := after (.noticeGet 0x0001) { awake with part.notice.pending := 0x0003 }
    reply t = [0x00, 0x00, 0x03, 0xB7, 0xFF] ∧ t.part.notice.pending = 0x0002 ∧ t.part.notice.owed = true := by
  decide +kernel
theorem test_noticeEnable : let t := after (.noticeEnable 0x0800) awake
    reply t = [0x00, 0x08, 0x00, 0x00, 0x00] ∧ t.part.notice.enable = 0x0800 := by decide +kernel
theorem test_captureGet : (reply (after .captureGet awake)).length = 58 := by decide +kernel
theorem test_captureArm : let t := after (.captureArm 0x0800 1) awake
    t.part.capture.armed = true ∧ t.part.capture.trigger = 0x0800 := by decide +kernel
theorem test_captureArm_badTrigger : (after (.captureArm 0x1000 0) awake).part.capture.armed = false := by decide +kernel
theorem test_captureRelease : let t := after (.captureRelease 1) { awake with
      part.capture.armed := true, part.capture.snapshot := some ⟨3, 1, []⟩, part.capture.missed := 4 }
    t.part.capture.snapshot = none ∧ t.part.capture.missed = 0 ∧ t.part.capture.armed = false := by decide +kernel

/-! ### Settings -/

theorem test_settingGet : reply (after (.settingGet 0) awake) = [0x00, 0, 0, 0, 0x0E, 0x10, 0, 0, 0] := by decide +kernel
/-- R177: 2345 W lies between two steps of 10 W and is lowered to 2340 W. -/
theorem test_settingPut_step : let t := after (.settingPut 0 ⟨0x09, 0x29, 0, 0, 0⟩) awake
    reply t = [0x01] ∧ t.part.store.num 0 = 2340 := by decide +kernel
theorem test_settingPut_internal : (after (.settingPut 14 ⟨0, 0, 0, 0, 0⟩) awake).part.store.queue = [] := by
  decide +kernel
/-- R179: the queue takes 5 entries, the rest of the 19 items stay in the run. -/
theorem test_storeDefaults : let t := (after .storeDefaults awake).part.store
    t.queue.map QueueEntry.item = [0, 1, 2, 3, 4] ∧ t.run.length = 14 := by decide +kernel
theorem test_storeWriteComplete : let t := after .storeWriteComplete writing
    t.part.store.queue = [] ∧ t.part.store.num 21 = 700 ∧ loadForm 21 (getAt ⟨[], 0⟩ t.flash 21) = some (.number 700) := by
  decide +kernel

/-! ### Climate -/

theorem test_climateSet : let t := after (.climateSet hotAir) awake
    reply t = [0x00] ∧ t.part.climate.state = .preheat ∧ t.part.power.demands = ⟨0, 0, 2000, 0⟩ := by decide +kernel
/-- R2, R182: a humidity setpoint is signed, so that the byte 0x80 lies below its range. -/
theorem test_climateSet_humidity :
    (checkClimate ⟨7, 1000, 1, 1, 0x80, 0, 0, 0, 0, 0⟩).map (fun x => (x.1.humidity, x.2)) = some (some 0, true) := by
  decide +kernel

/-- R2: a humidity in HOT_AIR is refused. -/
theorem test_climateSet_bad :
    (after (.climateSet { hotAir with humidityPresence := 1 }) awake).part.climate.state = .off := by decide +kernel
theorem test_climateOff_hot : (after .climateOff regulating).part.climate.state = .coolRun := by decide +kernel
/-- R11: at 2.0 °C below, P is 80 W and the integral rises by 4 W. -/
theorem test_climatePeriodExpiry : let t := (after .climatePeriodExpiry regulating).part
    t.climate.integral = 604 ∧ t.climate.demand = 684 ∧ t.power.demands = ⟨0, 0, 684, 0⟩ := by decide +kernel
theorem test_pulseTimerTick :
    let t := (after .pulseTimerTick { regulating with
      part.climate.params := some pulsed, part.climate.pulseTimer := .running 60, part.climate.pulseCount := 59 }).part
    t.climate.pulseCount = 0 ∧ t.climate.steamWanted = true := by decide +kernel
theorem test_ventDriveTimeout :
    (after .ventDriveTimeout { awake with part.climate.ventDrive := some .closed }).part.climate.ventDrive = none := by
  decide +kernel
theorem test_tachPulse :
    (after .tachPulse { awake with part.climate.tachCount := 65535 }).part.climate.tachCount = 65535 := by decide +kernel

/-! ### Power and mains -/

theorem test_zeroCrossing : (after (.zeroCrossing 10000) awake).part.power.crossing = 1 := by decide +kernel
theorem test_windowBoundary :
    (after (.windowBoundary 10000) { awake with part.power.crossing := 99 }).part.power.crossing = 0 := by decide +kernel
/-- R24: ten half-cycles in 100 ms are 50 Hz. -/
theorem test_frequencyMeasured : let t := (after (.frequencyMeasured 10000)
      { State.reset with part.power.measure := .timing 9 90000, part.mode.startup := .frequency }).part
    t.power.freq = .hz50 ∧ t.ring.phase = .discovery := by decide +kernel
theorem test_freqMeasureTimeout : let t := (after .freqMeasureTimeout
      { State.reset with part.power.measure := .timing 3 30000, part.mode.startup := .frequency }).part
    t.power.freq = .unknown ∧ t.mode.mainsLoss = true := by decide +kernel
theorem test_mainsLossOnset : let t := (after .mainsLossOnset regulating).part
    t.mode.mainsLoss = true ∧ t.climate.integral = 0 ∧ t.power.demands = .all 0 := by decide +kernel
theorem test_mainsReturn : let t := (after (.mainsReturn 10000)
      { awake with part.mode.mainsLoss := true, part.power.counting := false, part.power.returnRun := 49
                   part.power.returnTime := 480000 }).part
    t.mode.mainsLoss = false ∧ t.power.counting = true := by decide +kernel

/-! ### Ring -/

theorem test_scanTimerExpiry : let t := (after .scanTimerExpiry { awake with part.ring.timer := .running 50 }).part.ring
    t.phase = .scanning ∧ t.scan = 1 ∧ t.poll.map Poll.address = some 1 := by decide +kernel
theorem test_nodeReply : let t := (after (.nodeReply (frame 1 .main 215 0 .cavityTemp)) (polling 1)).part.ring
    (t.entry 1).main = some ⟨215, 0, true⟩ ∧ t.poll.map Poll.address = some 2 := by decide +kernel
theorem test_replyWindowExpiry_third :
    let s := polling 5
    let t := (after .replyWindowExpiry { s with part.ring := s.part.ring.putEntry 5 { linked .humidity with misses := 2 } }).part
    (t.ring.entry 5).link = .lost ∧ t.notice.pending.getLsbD (noticePosition .nodeChange) = true := by decide +kernel
theorem test_nodeGet_bad : reply (after (.nodeGet 13) awake) = [0x12] := by decide +kernel
theorem test_nodeSet : let t := after (.nodeSet 5 0 1 0x03 1001) awake
    reply t = [0x01] ∧ (t.part.ring.entry 5).threshold = 1000 ∧ (t.part.ring.entry 5).selector = .alt := by decide +kernel
theorem test_counterGet : let t := after (.counterGet 1) { awake with part.ring.overruns := 3 }
    (reply t).length = 57 ∧ t.part.ring.overruns = 0 := by decide +kernel

/-! ### Boiler, scale and descaling -/

theorem test_boilerDrain : (after .boilerDrain ready).part.boiler.state = .coolWait := by decide +kernel
theorem test_flowPulse :
    (after .flowPulse { awake with part.boiler.state := .filling }).part.boiler.flow = 1 := by decide +kernel
theorem test_fillTimeout : let t := (after .fillTimeout { awake with
      part.boiler.state := .filling, part.boiler.purpose := some .normal, part.boiler.fillTimer := .running 60 }).part
    hasFault t.mode.faults .fillFault = true ∧ t.boiler.state = .fault := by decide +kernel
theorem test_drainTimerExpiry : hasFault (after .drainTimerExpiry { ready with
      part.boiler.state := .draining, part.boiler.drainTimer := .running 90 }).part.mode.faults .drainTimeout = true := by
  decide +kernel
theorem test_runOnExpiry : (after .runOnExpiry { awake with
      part.boiler.state := .draining, part.boiler.purpose := some .normal
      part.boiler.runOnTimer := .running 10 }).part.boiler.state = .empty := by decide +kernel
theorem test_coolWaitExpiry : (after .coolWaitExpiry { ready with
      part.boiler.state := .coolWait, part.boiler.coolWaitTimer := .running 1200 }).part.boiler.state = .draining := by
  decide +kernel
theorem test_idleDrainExpiry : (after .idleDrainExpiry { ready with
      part.boiler.idleDrainTimer := .running 1200 }).part.boiler.purpose = some .normal := by decide +kernel
theorem test_levelDelayExpiry : (after .levelDelayExpiry { ready with
      part.boiler.owner := .cooking, part.ring.image.highWet := false, part.climate.state := .regulate
      part.climate.params := some pulsed, part.climate.ts := some 900
      part.boiler.levelTimer := .running 10 }).part.boiler.state = .topping := by decide +kernel
theorem test_lullTimerExpiry : (after .lullTimerExpiry { ready with
      part.scale.lull := .running, part.boiler.owner := .cooking, part.climate.state := .regulate
      part.climate.params := some ⟨.combi, 900, 1, some 40, none, none⟩
      part.climate.ts := some 900 }).part.scale.lull = .reached := by
  decide +kernel
theorem test_scaleGet : (reply (after .scaleGet awake)).length = 16 := by decide +kernel
theorem test_descaleStart : let t := after (.descaleStart 1 5) awake
    reply t = [0x01] ∧ t.part.descale.phase = .awaitSolution ∧ t.part.descale.soakMinutes = 10 := by decide +kernel
theorem test_descaleConfirm : let t := (after .descaleConfirm { awake with
      part.descale.phase := .awaitSolution, part.descale.prompt := some .start
      part.descale.record.phase := .awaitSolution }).part
    t.descale.phase = .dose ∧ t.boiler.owner = .descale ∧ t.boiler.purpose = some .dose := by decide +kernel
theorem test_descaleAbort : let t := (after .descaleAbort { ready with
      part.boiler.owner := .descale, part.descale.phase := .soak, part.descale.record.phase := .soak
      part.descale.soakTimer := .running 600 }).part
    t.descale.phase = .soakDrain ∧ t.descale.record.rinseOwed = true ∧ t.scale.lock = true := by decide +kernel
theorem test_descaleGet : (reply (after .descaleGet awake)).length = 12 := by decide +kernel
theorem test_soakTimerExpiry : (after .soakTimerExpiry { ready with
      part.boiler.owner := .descale, part.descale.phase := .soak, part.descale.record.phase := .soak
      part.descale.soakTimer := .running 600 }).part.descale.phase = .soakDrain := by decide +kernel

/-! ### Programs -/

theorem test_programClear : let t := after (.programClear 1 599 1) loaded
    reply t = [0x01] ∧ t.part.program.header = ⟨.hold, 600, true⟩ ∧ t.part.program.state = .empty := by decide +kernel
theorem test_stageAppend : let t := after (.stageAppend tenSeconds) awake
    reply t = [0x00] ∧ t.part.program.stages = [stageOf] ∧ t.part.program.state = .loaded := by decide +kernel
theorem test_stageGet : (reply (after (.stageGet 0) loaded)).length = 27 ∧ reply (after (.stageGet 1) loaded) = [0x12] := by
  decide +kernel
theorem test_programStart : let t := (after (.programStart 0 0) loaded).part
    t.program.state = .running ∧ t.program.step = .counting ∧ t.climate.state = .preheat := by decide +kernel
theorem test_programPause : let t := (after .programPause running).part
    t.program.state = .paused ∧ t.program.reason = some .host ∧ t.climate.state = .off := by decide +kernel
theorem test_programResume : let t := (after .programResume (after .transmitEnd (after .programPause running))).part
    t.program.state = .running ∧ t.climate.params = some hotAirParams := by decide +kernel
theorem test_programAbort : (after .programAbort running).part.program.state = .aborted := by decide +kernel
theorem test_stageConfirm : (after .stageConfirm { running with
      part.program.stages := [{ stageOf with endCondition := .confirm }] }).part.program.state = .ended := by decide +kernel
theorem test_stageSkip : (after .stageSkip { running with
      part.program.stages := [stageOf, stageOf] }).part.program.index = 1 := by decide +kernel
theorem test_stageTimerTick : (after .stageTimerTick { running with
      part.program.elapsed := 9 }).part.program.state = .ended := by decide +kernel

/-! ### Modes and faults -/

theorem test_holdEnter : let t := after (.holdEnter 1000 1) awake
    reply t = [0x01] ∧ t.part.mode.mode = .hold ∧ t.part.mode.holdSetpoint = some 900
      ∧ t.part.mode.holdTimer = .running 7200 := by decide +kernel
theorem test_holdExit : reply (after (.holdExit 0) awake) = [0x14]
    ∧ (after (.holdExit 0) { awake with part.mode.mode := .hold }).part.mode.mode = .active := by decide +kernel
theorem test_holdTimerExpiry : let t := (after .holdTimerExpiry { awake with
      part.mode.mode := .hold, part.mode.holdTimer := .running 7200 }).part
    t.mode.mode = .active ∧ t.notice.pending.getLsbD (noticePosition .holdEnd) = true := by decide +kernel
theorem test_standbyEnter : (after .standbyEnter awake).part.mode.mode = .standby
    ∧ (after .standbyEnter ready).part.mode.mode = .standbyPending := by decide +kernel
theorem test_stop : let t := (after .stop running).part
    t.program.state = .aborted ∧ t.climate.state = .off := by decide +kernel
theorem test_faultGet : (reply (after .faultGet awake)).length = 8 := by decide +kernel
theorem test_faultClear : let t := after (.faultClear 9) { awake with
      part.mode.faults := faultFlag .drainTimeout, part.mode.first := some .drainTimeout, part.boiler.state := .fault }
    reply t = [0x00] ∧ t.part.mode.first = none ∧ t.part.boiler.state = .empty := by decide +kernel
theorem test_faultClear_bad : reply (after (.faultClear 11) awake) = [0x12] := by decide +kernel

/-! ### For each statement with hypotheses, states and operands that meet them, clause by clause -/

theorem exec_after (c : Instr) (s : State) : exec c s = .next (after c s) := by cases c <;> rfl

/-- The part in a mode, listening. -/
def inMode (m : OpMode) : State := { awake with part.mode.mode := m }

theorem inMode_listening (m : OpMode) (h : m ≠ .standby) : (inMode m).listening := by
  cases m <;> first | exact absurd rfl h | (unfold State.listening; decide +kernel)

theorem witness_EveryCommandAnswersNext : awake.pending = [] := by decide +kernel

theorem witness_PowerOnLoadsItems :
    State.reset.part.store.writing = none ∧ State.reset.flash[0]? = some (storedForm 0 (.number 3600))
      ∧ State.reset.flash[33]? = some (storedForm 33 (.kind .none)) ∧ loadForm 0 ⟨[0, 0], 0⟩ = none := by decide +kernel

/-- Stored forms with a given blowdown record, and with the scale and descale records damaged or not. -/
def storedForms (damaged : Bool) (blowdown : StoredForm) : List StoredForm :=
  let f := setAt factoryFlash 15 blowdown
  if damaged then setAt (setAt f 14 ⟨[0, 0, 0], 1⟩) 16 ⟨[9, 0, 0], 0⟩ else f

theorem witness_PowerOnLoadsItems_records :
    let loaded (f : List StoredForm) (i : Nat) := f[i]?.bind (loadForm i);
    let sound := storedForms false (storedForm 15 (.blowdown 2000 4 0 true));
    let bad := storedForms true ⟨[0, 0, 0, 0, 0], 1⟩;
    let full := storedForms false (storedForm 15 (.blowdown 4000 4 0 false));
    ({ State.reset with flash := sound } : State).part.store.writing = none ∧ sound.length = 34 ∧ bad.length = 34
      ∧ full.length = 34 ∧ loaded sound 14 = some (.scale 0 0) ∧ loaded sound 15 = some (.blowdown 2000 4 0 true)
      ∧ loaded sound 16 = some (.descale ⟨.idle, 0, false⟩) ∧ 2000 / 2000 ≤ 0 + (5 - 4)
      ∧ loaded full 15 = some (.blowdown 4000 4 0 false) ∧ 0 + (5 - 4) < 4000 / 2000
      ∧ loaded bad 14 = none ∧ loaded bad 15 = none ∧ loaded bad 16 = none := by decide +kernel

/-- R98: a damaged scale record starts at the due threshold, with DESCALE_DUE and the lock clear. -/
theorem test_powerOn_damaged : let t := (after .powerOnReset
    { State.reset with flash := storedForms true ⟨[0, 0, 0, 0, 0], 1⟩ }).part
    t.scale.load = 30000 ∧ t.scale.lock = false ∧ t.notice.pending = 0x8240 := by decide +kernel

theorem witness_ReceiverActsOnBytes :
    awake.link.resetWait = false ∧ awake.link.receiver = .hunt
      ∧ ({ awake with link.receiver := .assemble [] } : State).link.receiver = .assemble []
      ∧ ¬120 < (120 : Byte).toNat ∧ 120 < (121 : Byte).toNat
      ∧ ({ awake with link.receiver := .assemble [0, 1] } : State).link.receiver = .assemble (0 :: [1])
      ∧ [(1 : Byte)].length + 1 < (0 : Byte).toNat + 3 := by decide +kernel

theorem witness_FrameIsReceivedWhole :
    awake.link.resetWait = false ∧ awake.link.receiver = .hunt ∧ (List.replicate 120 (0 : Byte)).length ≤ 120
      ∧ awake.part.mode.mode ≠ .standby ∧ awake.link.queue.length < 4
      ∧ 4 ≤ ({ awake with link.queue := List.replicate 4 ⟨0x01, []⟩ } : State).link.queue.length := by decide +kernel

theorem witness_FrameIsReceivedWhole_sent :
    let f : Frame := ⟨0x81, List.replicate 120 0⟩;
    ({ awake.link with sending := .reply f } : Link).sending = .reply f
      ∧ ({ awake.link with sending := .report f } : Link).sending = .report f ∧ f.payload.length ≤ 120 := by decide +kernel

theorem witness_WakeFromStandby :
    awake.part.mode.mode ≠ .standby ∧ (inMode .standby).part.mode.mode = .standby := by decide +kernel

theorem witness_WakeFromStandby_entry :
    let p := (inMode .standbyPending).part;
    let r := { ready.part with mode.mode := .standbyPending, power.relay := true };
    let full := { inMode .standby with link.queue := List.replicate 4 ⟨0x01, []⟩ };
    (p.mode.mode = .standbyPending ∧ p.climate.state = .off ∧ p.boiler.state = .empty ∧ p.store.queue = [])
    ∧ (r.mode.mode = .standbyPending ∧ r.boiler.state = .ready ∧ r.boiler.owner = .none ∧ r.power.relay = true)
    ∧ (awake.listening ∧ awake.noScanDue ∧ awake.part.mode.mode = .active ∧ awake.part.descale.phase = .idle
      ∧ awake.part.program.state ∉ [ProgramState.running, .waiting, .paused, .boundaryWait]
      ∧ awake.part.store.served 16 = .descale awake.part.descale.record)
    ∧ ((inMode .standby).link.queue.length < 4 ∧ (inMode .standby).link.receiver = .hunt
      ∧ (inMode .standby).link.resetWait = false)
    ∧ full.part.mode.mode = .standby ∧ 4 ≤ full.link.queue.length
      ∧ full.link.queue = ⟨0x01, []⟩ :: List.replicate 3 ⟨0x01, []⟩ ∧ full.link.inHand = none ∧ full.link.reply = none := by
  unfold State.listening State.noScanDue; decide +kernel

theorem witness_EveryStepKeepsLinkInvariant :
    awake.link.Inv ∧ awake.reportsQuiet ∧ step { awake with pending := [.ping] } = .next (after .ping awake) :=
  ⟨⟨by decide +kernel, by decide +kernel, by decide +kernel, by decide +kernel, by decide +kernel,
    fun _ h => Sending.noConfusion h, by decide +kernel, by decide +kernel⟩,
    by unfold State.reportsQuiet; decide +kernel, rfl⟩

theorem witness_EveryStepKeepsLinkInvariant_resetWait :
    let s := { awake with link.resetWait := true };
    s.link.Inv ∧ s.reportsQuiet ∧ s.link.resetWait = true
      ∧ step { s with pending := [.reportTimerExpiry] } = .next (after .reportTimerExpiry s) :=
  ⟨⟨by decide +kernel, by decide +kernel, by decide +kernel, by decide +kernel, by decide +kernel,
    fun _ h => Sending.noConfusion h, by decide +kernel, by decide +kernel⟩,
    by unfold State.reportsQuiet; decide +kernel, rfl, rfl⟩

theorem witness_RequestRoundTrip : decodeRequest ⟨0x10, climateBytes hotAir⟩ = some (.climateSet hotAir) := by
  decide +kernel

theorem witness_RequestTakeAnswersHead :
    let s := { awake with link.queue := [⟨0x01, []⟩] };
    let t := { s with link.sending := .report ⟨0x60, []⟩ };
    (s.link.queue = ⟨0x01, []⟩ :: [] ∧ s.link.inHand = none ∧ s.link.reply = none ∧ s.link.resetWait = false
      ∧ s.link.sending = .idle)
    ∧ (t.link.queue = ⟨0x01, []⟩ :: [] ∧ t.link.inHand = none ∧ t.link.reply = none ∧ t.link.resetWait = false
      ∧ t.link.sending ≠ .idle) ∧ awake.link.queue = [] := by decide +kernel

theorem witness_RequestTakeAnswersHead_owner :
    let s := { inMode .standby with link.queue := [encodeRequest .climateOff] };
    (s.link.queue = encodeRequest .climateOff :: [] ∧ s.link.inHand = none ∧ s.part.mode.mode = .standby)
      ∧ ReqKind.ofCode 0x7F = none ∧ ReqKind.ofCode 0x01 = some .ping ∧ [(0 : Byte)].length ≠ ReqKind.ping.length
      ∧ ([] : List Byte).length = ReqKind.ping.length ∧ admission (inMode .starting).part.mode .stop = some .notReady
      ∧ decodeRequest ⟨0x01, []⟩ = some .ping ∧ admission awake.part.mode .ping = none
      ∧ ({ awake with link.inHand := some ⟨0x01, []⟩ } : State).link.inHand ≠ none
      ∧ ({ awake with link.reply := some ⟨0x81, []⟩ } : State).link.reply ≠ none
      ∧ ({ awake with link.resetWait := true } : State).link.resetWait = true := by decide +kernel

theorem witness_GeneralChecksComeFirst :
    let s := { awake with link.queue := [⟨0x7F, []⟩, ⟨0x01, [0]⟩] };
    let t := { awake with link.queue := [⟨0x01, [0]⟩] };
    (s.link.queue = ⟨0x7F, []⟩ :: [⟨0x01, [0]⟩] ∧ s.link.inHand = none ∧ s.link.reply = none
      ∧ s.link.resetWait = false ∧ s.link.sending = .idle ∧ s.part.mode.mode ≠ .standby ∧ ReqKind.ofCode 0x7F = none)
    ∧ t.link.queue = ⟨0x01, [0]⟩ :: [] ∧ ReqKind.ofCode 0x01 = some .ping ∧ [(0 : Byte)].length ≠ ReqKind.ping.length := by
  decide +kernel

theorem witness_AdmissionTable :
    (inMode .starting).listening ∧ (inMode .active).listening ∧ (inMode .hold).listening
      ∧ (inMode .standbyPending).listening ∧ (inMode .safeStop).listening
      ∧ ({ awake with part.mode.wakeWindow := true } : State).listening := by
  refine ⟨inMode_listening _ (by decide), inMode_listening _ (by decide), inMode_listening _ (by decide),
    inMode_listening _ (by decide), inMode_listening _ (by decide), ?_⟩
  unfold State.listening; decide +kernel

theorem witness_RefusedRequestChangesNothing :
    awake.listening ∧ exec (Request.nodeGet 0).command awake = .next (after (.nodeGet 0) awake)
      ∧ (after (.nodeGet 0) awake).link.sending = .reply ⟨0xC0, [0x12]⟩ ∧ (0x12 : Byte) ≠ 0x00 ∧ (0x12 : Byte) ≠ 0x01 :=
  ⟨inMode_listening .active (by decide), exec_after _ _, by decide +kernel, by decide, by decide⟩

theorem witness_ReplyLengths :
    awake.listening ∧ awake.part.ring.nodes.length = 12 ∧ awake.part.capture.snapshot = none
      ∧ exec Request.captureGet.command awake = .next (after .captureGet awake)
      ∧ (after .captureGet awake).link.sending = .reply (replyFrame 0x4A ⟨.ok, awake.part.capture.bytes⟩) :=
  ⟨inMode_listening .active (by decide), by decide +kernel, by decide +kernel, exec_after _ _, by decide +kernel⟩

theorem witness_ReadingRequestsAnswer :
    awake.listening ∧ awake.admits .scaleGet ∧ awake.admits .faultGet ∧ awake.admits .captureGet
      ∧ awake.admits (.settingGet 33) ∧ awake.admits (.settingGet 34) ∧ awake.admits (.nodeGet 12)
      ∧ awake.admits (.nodeGet 13) ∧ awake.admits (.stageGet 0) ∧ awake.part.program.stages = [] := by
  refine ⟨inMode_listening .active (by decide), ?_⟩
  unfold State.admits; decide +kernel

/-- The CAVITY_TEMP node has reported its identity. -/
def identified : State :=
  { awake with part.ring.nodes :=
      { linked .cavityTemp with identity := some ⟨.cavityTemp, .standard, 0x1234⟩ } :: table.drop 1 }

theorem witness_PingAndLinkStats :
    awake.listening ∧ identified.listening
      ∧ identified.part.ring.nodes.find? (fun e => e.kind = .cavityTemp)
        = some { linked .cavityTemp with identity := some ⟨.cavityTemp, .standard, 0x1234⟩ }
      ∧ awake.part.ring.nodes.find? (fun e => e.kind = .cavityTemp) = some (linked .cavityTemp)
      ∧ (linked .cavityTemp).identity = none
      ∧ State.reset.part.ring.nodes.find? (fun e => e.kind = .cavityTemp) = none := by
  unfold State.listening; decide +kernel

theorem witness_StatusReportLayout :
    let p := { running.part with program.state := .waiting, program.reason := some .prompt };
    awake.part.program.reason ≠ some .prompt
      ∧ p.program.state = .waiting ∧ p.program.reason = some .prompt
      ∧ p.program.stages[p.program.index]? = some stageOf := by decide +kernel

theorem witness_CounterGetCopiesThenZeroes :
    awake.listening ∧ awake.admits (.counterGet 0) ∧ awake.admits (.counterGet 1) ∧ awake.admits (.counterGet 2)
      ∧ (2 : Byte) ≠ 0 ∧ (2 : Byte) ≠ 1 := by
  unfold State.listening State.admits; decide +kernel

theorem witness_DescaleGetAnswers :
    let s := { ready with part.descale.phase := .soak };
    awake.listening ∧ awake.admits .descaleGet ∧ awake.part.descale.phase ≠ .soak
      ∧ s.listening ∧ s.admits .descaleGet ∧ s.part.descale.phase = .soak := by
  unfold State.listening State.admits; decide +kernel

theorem witness_HeldStageReadsBack : checkStage tenSeconds = some (stageOf, false) := by decide +kernel

theorem witness_TransmitterOrder :
    let s := { awake with link.sending := .report ⟨0x60, []⟩, link.reply := some ⟨0x81, []⟩ };
    let t := { awake with link.sending := .reply ⟨0x81, []⟩, link.inHand := some ⟨0x01, []⟩ };
    awake.link.sending = .idle ∧ s.link.sending = .report ⟨0x60, []⟩ ∧ s.link.reply = some ⟨0x81, []⟩
      ∧ ({ s with link.reply := none } : State).link.reply = none
      ∧ t.link.sending = .reply ⟨0x81, []⟩ ∧ t.part.notice.inHand = false ∧ t.link.resetAnswered = false := by
  decide +kernel

theorem witness_ReportTimerExpires :
    let s := { awake with part.report.timer := .running 1000 };
    s.part.report.timer = .running 1000 ∧ s.part.mode.mode ∈ [OpMode.starting, .active, .standbyPending, .safeStop]
      ∧ s.part.store.num 19 ≠ 0 ∧ s.link.sending = .idle
      ∧ ({ s with link.sending := .report ⟨0x60, []⟩ } : State).link.sending ≠ .idle
      ∧ ({ s with part.mode.mode := .hold } : State).part.mode.mode
        ∉ [OpMode.starting, .active, .standbyPending, .safeStop]
      ∧ ({ s with part.store.base := setAt s.part.store.base 19 (.number 0) } : State).part.store.num 19 = 0 := by
  decide +kernel

theorem witness_ResetWait :
    let t := { awake with link.sending := .reply ⟨0x82, [0]⟩, link.resetAnswered := true };
    let u := { awake with link.resetWait := true };
    let v := { writing with link.resetWait := true };
    awake.listening ∧ awake.admits .reset
      ∧ t.link.sending = .reply ⟨0x82, [0]⟩ ∧ t.link.resetAnswered = true ∧ t.part.notice.inHand = false
      ∧ u.link.resetWait = true ∧ u.part.store.queue = [] ∧ v.link.resetWait = true ∧ v.part.store.queue ≠ [] := by
  unfold State.listening State.admits; decide +kernel

theorem witness_NoticeRequests :
    awake.listening ∧ awake.admits (.noticeGet 0xFFFF) ∧ awake.admits (.noticeEnable 0xFFFF) := by
  unfold State.listening State.admits; decide +kernel

theorem witness_AttnAndReassertion :
    let s := { awake with link.sending := .reply ⟨0xC8, []⟩, part.notice.inHand := true };
    NoticeUnit.reset.pending.getLsbD (noticePosition .storeDefaulted) = false
      ∧ (NoticeUnit.reset.raise .storeDefaulted).pending.getLsbD (noticePosition .storeDefaulted) = true
      ∧ s.link.sending = .reply ⟨0xC8, []⟩ ∧ s.part.notice.inHand = true ∧ s.link.resetAnswered = false
      ∧ s.part.report.pending = false
      ∧ ({ s with part.report.pending := true } : State).part.report.pending = true := by decide +kernel

theorem witness_OnlyNoticeRequestsChangeTheSets :
    let s := { awake with part.notice.pending := 0x8001 };
    exec (.noticeGet 0x8000) s = .next (after (.noticeGet 0x8000) s)
      ∧ s.part.notice.pending.getLsbD 15 = true ∧ (after (.noticeGet 0x8000) s).part.notice.pending.getLsbD 15 = false
      ∧ (after (.noticeEnable 0) s).part.notice.enable ≠ s.part.notice.enable :=
  ⟨exec_after _ _, by decide +kernel⟩

theorem witness_CaptureKeepsFirstTrigger :
    let q := { awake.part with ring.changedSet := 0x0800, capture.armed := true };
    awake.listening ∧ awake.admits (.captureArm 0x0800 1) ∧ awake.admits (.captureArm 0x1000 2)
      ∧ awake.admits (.captureRelease 1) ∧ awake.admits (.captureRelease 2)
      ∧ ¬(awake.part.ring.changedSet &&& awake.part.capture.trigger ≠ 0)
      ∧ (q.ring.changedSet &&& q.capture.trigger ≠ 0 ∧ q.capture.snapshot = none ∧ q.capture.armed = true)
      ∧ ({ q with capture.armed := false } : Part).capture.armed = false
      ∧ ({ q with capture.snapshot := some ⟨0, 1, []⟩ } : Part).capture.snapshot.isSome := by
  unfold State.listening State.admits; decide +kernel

/-- The last poll of a scan, its entry masked meanwhile. -/
def masked : State := { polling 7 with part.ring.poll := some ⟨7, .main, 1, true⟩ }

theorem witness_CaptureKeepsFirstTrigger_completion :
    masked.part.ring.phase = .scanning ∧ masked.part.ring.poll = some ⟨7, .main, 1, true⟩
      ∧ masked.part.ring.nextAddress 12 8 = none ∧ masked.part.ring.startAtOnce = false
      ∧ masked.part.mode.mode ≠ .standby := by decide +kernel

theorem witness_MissIsJudged :
    let s := polling 5;
    let n : Poll := ⟨5, .main, 1, false⟩;
    let r := frame 5 .main 40 0 .humidity;
    let t := { s with part.ring.poll := some { n with discard := true } };
    s.part.ring.phase = .scanning ∧ s.part.ring.poll = some n ∧ s.part.ring.nodes.length = 12 ∧ 1 ≤ n.address
      ∧ n.address ≤ 12 ∧ s.part.ring.nextAddress 12 (n.address + 1) = some 6 ∧ n.discard = false
      ∧ crc8 r.body ≠ ({ r with crc := r.crc + 1 } : RingReply).crc
      ∧ (crc8 r.body = r.crc ∧ ({ r with address := 4 } : RingReply).address ≠ n.address)
      ∧ ({ r with fetch := .alt } : RingReply).fetch ≠ n.fetch
      ∧ t.part.ring.poll = some { n with discard := true } := by decide +kernel

theorem witness_GoodReplyIsStored :
    let s := polling 1;
    let n : Poll := ⟨1, .main, 1, false⟩;
    let r := frame 1 .main 215 0 .cavityTemp;
    (s.part.ring.phase = .scanning ∧ s.part.ring.poll = some n ∧ n.discard = false ∧ s.part.ring.nodes.length = 12
      ∧ 1 ≤ n.address ∧ n.address ≤ 12 ∧ s.part.ring.nextAddress 12 (n.address + 1) = some 2 ∧ crc8 r.body = r.crc
      ∧ r.address = n.address ∧ r.fetch = n.fetch)
    ∧ (let t := { s with part.ring.poll := some { n with fetch := .ident } };
      t.part.ring.poll = some ⟨1, .ident, 1, false⟩ ∧ (frame 1 .ident 0 0x80 .door).fetch = .ident
        ∧ (linked .cavityTemp).kind ≠ .none ∧ (frame 1 .ident 0 0x80 .door).kind ≠ (linked .cavityTemp).kind)
    ∧ (frame 1 .alt 0 0 .cavityTemp).fetch = .alt ∧ (frame 1 .stats 0 0 .cavityTemp).fetch = .stats := by
  decide +kernel

theorem witness_ScanTimerExpires :
    let s := { awake with part.ring.timer := .running 50 };
    let t := { polling 1 with part.ring.timer := .running 50 };
    s.part.ring.timer = .running 50 ∧ s.part.ring.phase = .idle ∧ s.part.ring.nextAddress 12 1 = some 1
      ∧ t.part.ring.timer = .running 50 ∧ t.part.ring.phase = .scanning := by decide +kernel

/-- The discovery scan polls an address with an attempt. -/
def discovering (a n : Nat) : State :=
  { awake with part.ring.phase := .discovery, part.ring.poll := some ⟨a, .ident, n, false⟩ }

theorem witness_ScanTimerExpires_discovery :
    let d := discovering 12 3;
    let r := frame 12 .ident 0 0x80 .vent;
    (∀ n, awake.part.ring.timer ≠ .running n)
      ∧ ((discovering 1 2).part.ring.phase = .discovery
        ∧ (discovering 1 2).part.ring.poll = some ⟨1, .ident, 2, false⟩)
      ∧ (d.part.ring.phase = .discovery ∧ d.part.ring.poll = some ⟨12, .ident, 3, false⟩)
      ∧ crc8 r.body = r.crc ∧ r.address = 12 ∧ r.fetch = .ident
      ∧ crc8 r.body ≠ ({ r with crc := r.crc + 1 } : RingReply).crc ∧ (frame 11 .ident 0 0 .vent).address ≠ 12
      ∧ (State.reset.part.ring.nodes.filter (fun n => n.kind = .door)).length ≠ 1
      ∧ (∀ k ∈ [NodeKind.cavityTemp, .boiler, .waterTank, .door],
        (awake.part.ring.nodes.filter (fun n => n.kind = k)).length = 1)
      ∧ (∀ n ∈ awake.part.ring.nodes, n.kind ∈ [NodeKind.cavityTemp, .boiler, .waterTank, .door] → n.link ≠ .absent)
      ∧ ∀ n ∈ awake.part.ring.nodes, n.mismatch ≠ true := by
  refine ⟨fun n h => Timer.noConfusion h, ?_⟩
  decide +kernel

theorem witness_LastPollCompletesScan :
    let s := polling 7;
    s.part.ring.phase = .scanning ∧ s.part.ring.poll = some ⟨7, .main, 1, false⟩
      ∧ s.part.ring.nextAddress 12 8 = none ∧ s.part.ring.startAtOnce = false ∧ s.part.mode.mode ≠ .standby
      ∧ s.part.ring.derived = true ∧ s.part.ring.image.doorClosed ≠ s.part.ring.deriveImage.doorClosed := by
  decide +kernel

theorem witness_LastPollCompletesScan_others :
    let s := { masked with part.ring.startAtOnce := true };
    let r := frame 7 .main 0 0 .vent;
    let p := ready.part;
    (s.part.ring.phase = .scanning ∧ s.part.ring.poll = some ⟨7, .main, 1, true⟩
      ∧ s.part.ring.nextAddress 12 8 = none ∧ s.part.ring.startAtOnce = true ∧ s.part.ring.nextAddress 12 1 = some 1)
    ∧ (crc8 r.body = r.crc ∧ r.address = 7 ∧ r.fetch = .main) ∧ (frame 6 .main 0 0 .vent).address ≠ 7
      ∧ crc8 r.body ≠ ({ r with crc := r.crc + 1 } : RingReply).crc
    ∧ p.ring.image.boilerUnsafe = false ∧ awake.part.ring.image.boilerUnsafe = true ∧ p.power.relay = false
      ∧ ({ p with power.relay := true } : Part).power.relay = true := by decide +kernel

theorem witness_ImageTakesLowestUsableNode :
    let usable : NodeEntry := { linked .cavityTemp with main := some ⟨215, 0, true⟩ };
    let r := { awake.part.ring with nodes := usable :: table.drop 1 };
    r.nodes.find? (fun e => e.kind = .cavityTemp) = some usable ∧ usable.link = .linked ∧ usable.mismatch = false
      ∧ usable.main = some ⟨215, 0, true⟩
      ∧ awake.part.ring.nodes.find? (fun e => e.kind = .cavityTemp) = some (linked .cavityTemp)
      ∧ (linked .cavityTemp).main = none
      ∧ State.reset.part.ring.nodes.find? (fun e => e.kind = .cavityTemp) = none
      ∧ ((linked .cavityTemp).good (frame 1 .main 215 0 .cavityTemp)).main = some ⟨215, 0, true⟩ := by decide +kernel

theorem witness_NodeSetWritesEntry :
    awake.listening ∧ awake.admits (.nodeSet 5 1 2 0xFF 1001) ∧ awake.noScanDue
      ∧ (5 : Byte).toNat ≤ 12 ∧ (1 : Byte).toNat ≤ 1 ∧ (2 : Byte).toNat ≤ 2
      ∧ (awake.part.ring.entry 5).kind = .humidity ∧ (awake.part.ring.entry 5).masked = false
      ∧ (awake.part.ring.entry 1).kind = .cavityTemp ∧ (awake.part.ring.entry 12).kind = .none
      ∧ awake.admits (.nodeSet 13 0 0 0 0) ∧ ¬(13 : Byte).toNat ≤ 12 := by
  unfold State.listening State.admits State.noScanDue; decide +kernel

/-- The write queue of the host is full. -/
def fullQueue : State :=
  { awake with part.store.queue := [⟨0, .number 3600⟩, ⟨1, .number 1800⟩, ⟨2, .number 1200⟩, ⟨3, .number 1000⟩,
      ⟨4, .number 2000⟩], part.store.writing := some (.number 3600) }

theorem witness_SettingPutChecksAndAccepts :
    let v : ValueField := ⟨0x09, 0x29, 0, 0, 0⟩;
    let stopped := inMode .safeStop;
    awake.listening ∧ awake.admits (.settingPut 34 v) ∧ awake.admits (.settingPut 14 v)
      ∧ (stopped.listening ∧ stopped.admits (.settingPut 21 v) ∧ stopped.part.mode.mode = .safeStop)
      ∧ (fullQueue.listening ∧ fullQueue.admits (.settingPut 21 v) ∧ fullQueue.part.mode.mode ≠ .safeStop
        ∧ (∀ e ∈ fullQueue.part.store.queue, e.item ≠ 21) ∧ 5 ≤ fullQueue.part.store.queue.length)
      ∧ ¬5 ≤ awake.part.store.queue.length ∧ clampItem 0 2345 ≠ 2345 ∧ (halfOf 0x09 0x29).toNat = 2345
      ∧ clampItem 0 3680 = 3680 ∧ ¬(7 : Byte).toNat > 7 ∧ nodeKindOf 7 = some .vent ∧ 7 < (8 : Byte).toNat := by
  unfold State.listening State.admits; decide +kernel

theorem witness_StoreDefaultsServesDefaults :
    let s := { fullQueue with part.store.run := [5, 6] };
    awake.listening ∧ awake.admits .storeDefaults ∧ awake.part.store.run = []
      ∧ s.listening ∧ s.admits .storeDefaults ∧ s.part.store.run ≠ [] := by
  unfold State.listening State.admits; decide +kernel

theorem writing_ok : writing.part.store.Ok :=
  ⟨by decide +kernel, by decide +kernel, by decide +kernel, by decide +kernel, by decide +kernel, by decide +kernel,
    by decide +kernel⟩

theorem witness_WriteCompletes :
    awake.part.store.writing = none
      ∧ writing.part.store.writing = some (.number 700) ∧ writing.part.store.queue = ⟨21, .number 700⟩ :: []
      ∧ writing.part.store.Ok ∧ 21 < writing.part.store.base.length ∧ writing.part.store.replaced = false :=
  ⟨by decide +kernel, by decide +kernel, by decide +kernel, writing_ok, by decide +kernel, by decide +kernel⟩

theorem witness_FlashChangesOnlyByWrites :
    exec .storeWriteComplete writing = .next (after .storeWriteComplete writing)
      ∧ (after .storeWriteComplete writing).flash ≠ writing.flash := ⟨exec_after _ _, by decide +kernel⟩

theorem witness_StoredFormsRoundTrip :
    clampItem 0 3680 = 3680 ∧ clampItem 21 1000 = 1000 ∧ loadForm 33 (storedForm 33 (.kind .vent)) = some (.kind .vent)
      ∧ (0 : Byte) ≠ (storedForm 0 (.number 3600)).check := by decide +kernel

theorem witness_EveryStepKeepsWriteQueue :
    writing.part.store.Ok
      ∧ step { writing with pending := [.storeWriteComplete] } = .next (after .storeWriteComplete writing) :=
  ⟨writing_ok, rfl⟩

theorem witness_ClimateRecordsAreChecked :
    checkClimate hotAir = some (hotAirParams, false)
      ∧ (checkClimate ⟨7, 2301, 5, 0, 0, 1, 60, 56, 1, 1501⟩).isSome ∧ checkClimate { hotAir with mode := 8 } = none
      ∧ heatModeOf 7 = some .combi ∧ awake.part.climateRefusal hotAirParams = none := by decide +kernel

theorem witness_ClimateSetAndOff :
    let steam : ClimateBlock := ⟨6, 1000, 1, 0, 0, 0, 0, 0, 0, 0⟩;
    let locked := { awake with part.scale.lock := true };
    awake.listening ∧ awake.admits (.climateSet hotAir) ∧ awake.admits .climateOff
      ∧ checkClimate { hotAir with mode := 8 } = none ∧ checkClimate hotAir = some (hotAirParams, false)
      ∧ awake.part.program.state ∉ [ProgramState.running, .waiting, .paused, .boundaryWait]
      ∧ awake.part.descale.phase = .idle ∧ awake.part.store.groupMax .hotAir ≠ 0
      ∧ (running.listening ∧ running.admits (.climateSet hotAir)
        ∧ running.part.program.state ∈ [ProgramState.running, .waiting, .paused, .boundaryWait])
      ∧ locked.listening ∧ locked.admits (.climateSet steam) ∧ locked.part.scale.lock = true
      ∧ (checkClimate steam).map (fun x => x.1.mode) = some .steam := by
  unfold State.listening State.admits; decide +kernel

theorem witness_CookingStartsAndEnds :
    let opened := { awake.part with ring.image.doorClosed := false };
    awake.part.climate.state = .off ∧ awake.part.mode.mainsLoss = false
      ∧ hasFault awake.part.mode.faults .fanStall = false ∧ awake.part.ring.image.doorClosed = true
      ∧ opened.ring.image.doorClosed = false
      ∧ regulating.part.climate.state ∈ [ClimateState.preheat, .regulate, .doorPause] := by decide +kernel

/-- The regulator in DOOR_PAUSE, to return to a state. -/
def doorPaused (back : ClimateState) (owed : Bool) : Part :=
  { regulating.part with climate.state := .doorPause, climate.returnTo := some back, climate.reachedOwed := owed }

theorem witness_CookingStartsAndEnds_others :
    let p := regulating.part;
    let hot : Int → Part := fun t => { p with ring.image.tc := some t, climate.state := .coolRun };
    (p.climate.state = .regulate ∧ p.mode.mainsLoss = false ∧ hasFault p.mode.faults .fanStall = false
      ∧ p.climate.ts = some 1800 ∧ (1800 : Int) + 200 < 2001 ∧ ¬(1800 : Int) + 200 < 2000)
    ∧ ({ p with climate.state := .preheat } : Part).climate.state = .preheat
    ∧ ((doorPaused .regulate true).climate.state = .doorPause
      ∧ (doorPaused .regulate true).climate.returnTo = some .regulate
      ∧ (doorPaused .preheat false).climate.returnTo ≠ some .regulate
      ∧ (doorPaused .regulate true).climate.params = some hotAirParams)
    ∧ ((hot 3000).ring.image.tc = some 3000 ∧ (hot 3000).climate.overtemp = false)
    ∧ ((hot 600).climate.state = .coolRun ∧ (600 : Int) ≤ (hot 600).store.num 21)
    ∧ ((hot 601).store.num 21 : Int) < 601 ∧ ({ p with ring.image.tc := none } : Part).ring.image.tc = none := by
  decide +kernel

theorem witness_ClimatePeriodRegulates :
    let c := regulating.part.climate;
    c.periodTimer = .running 1000 ∧ c.params = some hotAirParams ∧ hotAirParams.delta = none
      ∧ (∀ b, c.tsExpiry = some b → hotAirParams.setpoint ≤ b + 200)
      ∧ regulating.part.mode.mainsLoss = false ∧ c.state = .regulate ∧ regulating.part.ring.image.tc = some 1780
      ∧ hasFault regulating.part.mode.faults .fanStall = false ∧ c.grantFresh = false := by
  refine ⟨by decide +kernel, by decide +kernel, by decide +kernel, ?_, by decide +kernel, by decide +kernel,
    by decide +kernel, by decide +kernel, by decide +kernel⟩
  rintro b hb
  cases hb
  decide +kernel

theorem witness_ClimatePeriodRegulates_others :
    let c : ClimateState → State := fun x => { regulating with part.climate.state := x };
    (c .preheat).part.climate.state = .preheat ∧ (1749 : Int) < 1800 - 50
      ∧ (c .doorPause).part.climate.state = .doorPause
      ∧ ({ regulating with part.mode.mainsLoss := true } : State).part.mode.mainsLoss = true := by decide +kernel

theorem witness_ClimatePeriodRegulates_raise :
    let s := { regulating with part.climate.tsExpiry := some 1599 };
    let f := { regulating with part.mode.faults := faultFlag .fanStall };
    (s.part.climate.tsExpiry = some 1599 ∧ (1599 : Int) + 200 < hotAirParams.setpoint)
    ∧ (hasFault f.part.mode.faults .fanStall = true
      ∧ HeatMode.hotAir ∈ [HeatMode.hotAir, .hotAirBottom, .grillFan, .steam, .combi])
    ∧ ((1800 : Int) - 50 ≤ 1780 ∧ regulating.part.ring.image.tc = some 1780)
    ∧ ({ regulating with part.ring.image.tc := none } : State).part.ring.image.tc = none
    ∧ (doorPaused .regulate false).climate.returnTo = some .regulate
    ∧ ({ hotAirParams with delta := some 200 } : ClimateParams).delta = some 200
    ∧ regulating.part.ring.image.tcore = none := by decide +kernel

theorem witness_TicksAndPulses :
    let s := { regulating with part.climate.params := some pulsed, part.climate.pulseTimer := .running 60 };
    s.part.climate.pulseTimer = .running 60 ∧ s.part.climate.params = some pulsed ∧ pulsed.mode = .combi
      ∧ pulsed.humidity = none ∧ pulsed.pulse = some ⟨60, 20⟩ ∧ s.part.scale.lock = false
      ∧ s.part.mode.mainsLoss = false ∧ s.part.program.state ≠ .boundaryWait ∧ s.part.climate.state = .regulate
      ∧ ({ s with part.scale.lull := .running } : State).part.scale.lull = .running := by decide +kernel

theorem witness_GrantsStayWithinBudget :
    awake.part.auxLoad ≤ awake.part.store.num 0 ∧ regulating.part.climate.params = some hotAirParams
      ∧ (Element.ring, 100) ∈ modeGroup .hotAir ∧ regulating.part.ring.image.doorClosed = true
      ∧ regulating.part.ring.linked .cavityTemp = true ∧ regulating.part.critical = false
      ∧ ({ ready.part with power.boilerRequest := true } : Part).grantWindow.power.relay = true := by decide +kernel

theorem witness_GrantsStayWithinBudget_order :
    let p := { ready.part with climate := regulating.part.climate, power.boilerRequest := true };
    let first := { p with power.deferral := 10 };
    (modeGroup .hotAir).map Prod.fst = [Element.ring] ∧ p.climate.params = some hotAirParams
      ∧ p.ring.image.doorClosed = true ∧ p.power.boilerRequest = true ∧ p.ring.image.lowWet = true
      ∧ p.ring.image.boilerTemp = some 950 ∧ p.power.relay = false ∧ 3 ≤ p.power.offDwell
      ∧ 10 ≤ first.power.deferral ∧ first.store.num 1 ≤ first.store.num 0 - first.auxLoad
      ∧ first.power.counting = true ∧ first.power.withdrawn = false
      ∧ ({ p with power.relay := true, power.boilerRequest := false } : Part).grantWindow.power.relay = false := by
  decide +kernel

theorem witness_CrossingsCountWindows :
    let s := { awake with part.power.crossing := 99, part.climate.windowFan := true, part.climate.stallCount := 2 };
    awake.noScanDue ∧ awake.part.power.measure = .none ∧ awake.part.mode.mainsLoss = false
      ∧ awake.part.power.freq ≠ .unknown ∧ awake.part.power.counting = true ∧ awake.part.power.crossing ≠ 99
      ∧ s.noScanDue ∧ s.part.power.crossing = 99 ∧ s.part.climate.stallCount ≠ 3
      ∧ s.part.climate.windowFan = true ∧ s.part.climate.tachCount * 30 < 300 ∧ min 3 (s.part.climate.stallCount + 1) = 3
      ∧ 1 ≤ ({ s with part.climate := { regulating.part.climate with windowFan := true } } : State).part.fanLevel := by
  unfold State.noScanDue; decide +kernel

theorem witness_MainsFrequencyAndLoss :
    let m : Measurement → State := fun x => { State.reset with part.power.measure := x };
    let lost := { awake with part.mode.mainsLoss := true, part.power.returnRun := 49 };
    (m .waiting).noScanDue ∧ (m .waiting).part.power.measure = .waiting
      ∧ (m (.timing 8 80000)).part.power.measure = .timing 8 80000
      ∧ (m (.timing 9 90000)).noScanDue ∧ (m (.timing 9 90000)).part.power.measure = .timing 9 90000
      ∧ (94300 ≤ 84300 + 10000 ∧ 84300 + 10000 ≤ 106400) ∧ (79400 ≤ 79399 + 1 ∧ 79399 + 1 ≤ 87700)
      ∧ ¬(94300 ≤ 84299 + 10000) ∧ ¬(84299 + 10000 ≤ 87700)
      ∧ awake.noScanDue ∧ awake.part.power.measure = .none ∧ awake.part.power.freq ≠ .unknown
      ∧ awake.part.mode.mainsLoss = false
      ∧ lost.noScanDue ∧ lost.part.power.measure = .none ∧ lost.part.mode.mainsLoss = true
      ∧ lost.part.power.returnRun = 49
      ∧ ({ lost with part.power.returnRun := 9 } : State).part.power.returnRun < 10 := by
  unfold State.noScanDue; decide +kernel

theorem witness_MainsFrequencyAndLoss_run :
    let lost : Nat → State := fun n => { awake with part.mode.mainsLoss := true, part.power.returnRun := n };
    ((lost 10).noScanDue ∧ (lost 10).part.power.measure = .none ∧ (lost 10).part.mode.mainsLoss = true
      ∧ (lost 10).part.power.returnRun = 10 ∧ (lost 10).part.power.freq ≠ .hz60 ∧ (lost 10).part.power.freq = .hz50)
    ∧ (11 ≤ (lost 11).part.power.returnRun ∧ (lost 48).part.power.returnRun < 49)
    ∧ (94300 ≤ 94299 + 1 ∧ 79400 ≤ 79399 + 1 ∧ ¬94300 ≤ 94299 ∧ ¬106401 ≤ 106400 ∧ ¬87701 ≤ 87700 ∧ 25000 < 25001)
    ∧ ({ awake.part with power.relay := true } : Part).power.relay = true ∧ awake.part.power.relay = false := by
  unfold State.noScanDue; decide +kernel

theorem witness_FillsAndDrainsStart :
    awake.part.mode.mainsLoss = false ∧ awake.part.ring.image.highWet = false
      ∧ awake.part.ring.image.tankPresent = true
      ∧ ({ awake.part with ring.image.tankPresent := false } : Part).ring.image.tankPresent = false
      ∧ awake.part.ring.image.lowWet = false ∧ ready.part.ring.image.lowWet = true
      ∧ ¬(∃ t, ready.part.ring.image.boilerTemp = some t ∧ t ≤ 850) := by
  refine ⟨by decide +kernel, by decide +kernel, by decide +kernel, by decide +kernel, by decide +kernel,
    by decide +kernel, ?_⟩
  rintro ⟨t, ht, h⟩
  cases ht
  exact absurd h (by decide +kernel)

theorem witness_FillsAndDrainsStart_scan :
    let st : BoilerState → Part := fun b => { ready.part with boiler.state := b };
    let low := { ready.part with ring.image.highWet := false };
    let dry := { (st .fillPaused) with ring.image := room, boiler.tankSeenOut := true };
    ((st .filling).overheatWatch.boiler.state = .filling ∧ (st .filling).overheatWatch.ring.image.highWet = true)
    ∧ (low.ring.image.highWet = false ∧ low.ring.image.tankPresent = true)
    ∧ (dry.overheatWatch.boiler.state = .fillPaused ∧ dry.boiler.tankSeenOut = true ∧ dry.ring.image.tankPresent = true)
    ∧ ((st .heating).overheatWatch.boiler.state = .heating ∧ (st .heating).ring.image.boilerTemp = some 950
      ∧ (950 : Int) < (st .heating).boiler.target)
    ∧ ({ (st .heating) with boiler.owner := .descale, boiler.target := 950 } : Part).boiler.owner = .descale
    ∧ ((st .coolWait).overheatWatch.boiler.state = .coolWait ∧ (st .draining).boiler.runOnTimer = .stopped)
    ∧ ({ awake.part with ring.image.boilerTemp := some 1500 } : Part).boiler.overheat = false := by decide +kernel

/-- The boiler in a state, with a purpose. -/
def boilerIn (b : BoilerState) (u : Purpose) : State :=
  { awake with part.boiler.state := b, part.boiler.purpose := some u }

theorem witness_BoilerTimersExpire :
    let f := { boilerIn .filling .normal with part.boiler.fillTimer := .running 60 };
    let g := { boilerIn .topping .topup with part.boiler.fillTimer := .running 20, part.boiler.flow := 1 };
    let h := { boilerIn .filling .dose with part.boiler.fillTimer := .running 60, part.boiler.flow := 1 };
    let d := { boilerIn .draining .normal with
      part.boiler.drainTimer := .running 90, part.boiler.runOnTimer := .running 10 };
    let c := { boilerIn .coolWait .normal with part.boiler.coolWaitTimer := .running 1200 };
    let r := { ready with part.boiler.idleDrainTimer := .running 1200, part.boiler.levelTimer := .running 10 };
    (f.part.boiler.fillTimer = .running 60 ∧ f.part.boiler.state = .filling ∧ f.part.boiler.flow = 0
      ∧ f.part.ring.image.tankPresent = true ∧ f.part.ring.image.tankLow = false)
    ∧ (g.part.boiler.fillTimer = .running 20 ∧ g.part.boiler.state = .topping ∧ g.part.boiler.flow ≠ 0
      ∧ g.part.boiler.purpose ≠ some .dose)
    ∧ (h.part.boiler.fillTimer = .running 60 ∧ h.part.boiler.state = .filling ∧ h.part.boiler.flow ≠ 0
      ∧ h.part.boiler.purpose = some .dose)
    ∧ (d.part.boiler.drainTimer = .running 90 ∧ d.part.boiler.runOnTimer = .running 10
      ∧ d.part.boiler.state = .draining ∧ d.part.boiler.purpose = some .normal ∧ d.part.boiler.owner = .none)
    ∧ (c.part.boiler.coolWaitTimer = .running 1200 ∧ c.part.boiler.state = .coolWait)
    ∧ r.part.boiler.idleDrainTimer = .running 1200 ∧ r.part.boiler.levelTimer = .running 10
      ∧ r.part.boiler.state = .ready := by decide +kernel

theorem witness_BoilerTimersExpire_blowdown :
    let b := { boilerIn .draining .blowdown with
      part.boiler.runOnTimer := .running 10, part.boiler.inFlight := true, part.boiler.continuation := .refill
      part.boiler.owner := .cooking, part.climate.state := .regulate, part.climate.params := some pulsed
      part.scale.inHand := true };
    b.part.boiler.runOnTimer = .running 10 ∧ b.part.boiler.state = .draining ∧ b.part.boiler.purpose = some .blowdown
      ∧ b.part.boiler.continuation = .refill ∧ b.part.boiler.owner = .cooking ∧ b.part.climate.usesSteam = true
      ∧ b.part.program.state ≠ .boundaryWait ∧ b.part.ring.image.highWet = false := by decide +kernel

theorem witness_ScaleAccrual :
    let p := awake.part;
    let q := { p with scale.owed := 5, scale.progress := 1999 };
    let r := { p with scale.credit := 2 };
    (p.scale.owed ≤ 5 ∧ p.scale.credit ≤ 2 ∧ 0 < p.store.num 17 ∧ (p.scale.progress + 2000) / p.store.num 17 = 1)
    ∧ (q.scale.owed ≤ 5 ∧ q.scale.credit + (5 - q.scale.owed) < (q.scale.progress + 1) / q.store.num 17)
    ∧ ({ p with scale.progress := 1000 } : Part).store.num 17 / 2 ≤ 1000 ∧ r.scale.credit = 2 ∧ r.scale.owed = 0 := by
  decide +kernel

theorem witness_ProgramRequests :
    let paused := { running with part.program.state := .paused, part.program.reason := some .host
                                 part.program.resume := some (.running, none) };
    let full := { loaded with part.program.stages := List.replicate 16 stageOf };
    (awake.listening ∧ awake.admits (.programClear 1 600 1) ∧ awake.admits (.programClear 2 600 0)
      ∧ awake.admits (.stageAppend tenSeconds) ∧ checkStage tenSeconds = some (stageOf, false)
      ∧ checkStage { tenSeconds with endCondition := 4 } = none ∧ awake.part.program.state = .empty)
    ∧ (loaded.listening ∧ loaded.admits (.programStart 0 0) ∧ loaded.part.program.state = .loaded
      ∧ loaded.part.program.stages.length = 1 ∧ loaded.part.descale.phase = .idle)
    ∧ (running.listening ∧ running.admits .programPause ∧ running.admits .programAbort
      ∧ running.part.program.state = .running)
    ∧ (paused.listening ∧ paused.admits .programResume ∧ paused.part.program.state = .paused
      ∧ paused.part.program.reason = some .host)
    ∧ full.listening ∧ full.admits (.stageAppend tenSeconds) ∧ 16 ≤ full.part.program.stages.length := by
  unfold State.listening State.admits; decide +kernel

/-- The program waits on its stage for a reason, at a step. -/
def waits (r : WaitReason) (x : StageStep) : State :=
  { running with part.program.state := .waiting, part.program.reason := some r, part.program.step := x }

theorem witness_StageControl :
    let confirm := { stageOf with endCondition := .confirm };
    let c := { running with part.program.stages := [confirm] };
    let o := { running with part.scale.owed := 4 };
    (loaded.part.program.stages[0]? = some stageOf ∧ loaded.part.mode.mainsLoss = false ∧ stageOf.promptPoint ≠ .atStart)
    ∧ (running.part.program.stages[running.part.program.index]?.isSome ∧ running.part.scale.owed < 4)
    ∧ (o.part.program.stages[o.part.program.index]?.isSome ∧ 4 ≤ o.part.scale.owed)
    ∧ (running.listening ∧ running.admits .stageSkip ∧ running.part.program.state = .running)
    ∧ ((waits .prompt .notBegun).listening ∧ (waits .prompt .notBegun).admits .stageConfirm
      ∧ (waits .prompt .notBegun).part.program.reason = some .prompt)
    ∧ ((waits .steamFault .counting).listening ∧ (waits .steamFault .counting).admits .stageConfirm
      ∧ (waits .steamFault .counting).part.scale.lock = false ∧ (waits .steamFault .counting).part.steamFault = false)
    ∧ ((waits .probeLost .counting).listening ∧ (waits .probeLost .counting).admits .stageConfirm
      ∧ (waits .probeLost .counting).part.ring.image.tcore = none)
    ∧ (c.listening ∧ c.admits .stageConfirm ∧ c.part.program.stages[c.part.program.index]? = some confirm
      ∧ confirm.endCondition = .confirm ∧ c.part.program.step = .counting)
    ∧ running.part.climate.state ≠ .doorPause ∧ stageOf.endCondition ∈ [EndCondition.time, .timeOrCore]
      ∧ stageOf.duration ≤ min 86400 (9 + 1) := by
  unfold State.listening State.admits; decide +kernel

theorem witness_StageControl_scan :
    let core := { stageOf with endCondition := .core, coreTarget := 600 };
    let p := { running.part with program.stages := [core], ring.image.tcore := some 600 };
    let q := p.testDegraded false;
    let steam := { stageOf with params.mode := .steam };
    (q.program.state = .running ∧ q.program.step = .counting ∧ q.program.stages[q.program.index]? = some core
      ∧ q.ring.image.tcore = some 600 ∧ core.coreTarget ≤ 600)
    ∧ (({ running.part with program.stages := [steam], scale.lock := true } : Part).scale.lock = true
      ∧ steam.params.mode = .steam)
    ∧ (p.program.step = .counting ∧ core.endCondition = .core ∧ awake.part.ring.image.tcore = none)
    ∧ (awake.listening ∧ awake.admits .stageConfirm ∧ awake.part.program.state ≠ .running
      ∧ awake.part.program.state ≠ .waiting)
    ∧ ((waits .prompt .counting).listening ∧ (waits .prompt .counting).part.program.step = .counting)
    ∧ stageOf.doorContinue = false
      ∧ ({ running with part.climate.state := .doorPause } : State).part.climate.state = .doorPause := by
  unfold State.listening State.admits; decide +kernel

/-- The last stage waits at its boundary, and a HOLD end action follows. -/
def bounding (moist : Bool) (humidity : Int) : Part :=
  { running.part with
    program.state := .boundaryWait, program.step := .finished
    program.header := ⟨.hold, 700, moist⟩
    climate := regulating.part.climate
    ring.image.humidity := some humidity }

theorem witness_StageControl_leaves :
    let p := bounding true 113;
    let next := { p with program.stages := [stageOf, stageOf] };
    let stop := { p with program.header.endAction := .stop };
    (p.program.state = .boundaryWait ∧ p.program.stages.length ≤ p.program.index + 1
      ∧ p.program.header.endAction = .hold ∧ p.store.groupMax .hotAir ≠ 0 ∧ p.program.header.moist = true
      ∧ (p.climate.state = .preheat ∨ p.climate.state = .regulate) ∧ p.scale.lock = false ∧ p.mode.mainsLoss = false
      ∧ p.ring.image.humidity = some 113 ∧ (113 : Int) < 114)
    ∧ ((bounding true 120).ring.image.humidity = some 120 ∧ (120 : Int) ≤ 120)
    ∧ ((bounding true 117).ring.image.humidity = some 117 ∧ (114 : Int) ≤ 117 ∧ (117 : Int) < 120)
    ∧ (next.program.state = .boundaryWait ∧ ¬next.program.stages.length ≤ next.program.index + 1)
    ∧ (stop.program.state = .boundaryWait ∧ ¬stop.program.header.endAction = .hold) := by decide +kernel

/-- A preheat stage is to begin with the cavity and the door as given. -/
def preheating (tc : Int) (closed : Bool) : Part :=
  { loaded.part with
    program.stages := [{ stageOf with preheat := true }], ring.image.tc := some tc, ring.image.doorClosed := closed }

theorem witness_StageControl_gate :
    let st := { stageOf with preheat := true };
    let wrote := fun (tc : Int) (closed : Bool) => ((preheating tc closed).writeClimate st.params).climate;
    (preheating 2500 true).program.stages[(preheating 2500 true).program.index]? = some st
      ∧ st.params.mode ≠ .steam ∧ st.endCondition ≠ .core ∧ st.params.delta = none ∧ st.promptPoint ≠ .afterPreheat
      ∧ (wrote 2500 true).state = .regulate
      ∧ ((wrote 2500 false).state = .doorPause ∧ (wrote 2500 false).returnTo = some .regulate)
      ∧ ((wrote 200 true).state = .preheat ∧ (preheating 200 true).program.preheatReached = false) := by decide +kernel

/-- R124: a stage whose write starts cooking with the door open in a hot cavity passes its gate at its beginning. -/
theorem test_stage_gateDoorOpen : let q := (preheating 2500 false).startProgram 0
    q.climate.state = .doorPause ∧ q.program.step = .counting ∧ q.program.preheatReached = true
      ∧ q.notice.pending.getLsbD (noticePosition .preheatReached) = true := by decide +kernel

/-- R14, R128: the moist HOLD that the end action writes is tested outside BOUNDARY_WAIT. -/
theorem test_endAction_moistHold : let q := (bounding true 100).tellExecutor .completed
    q.mode.mode = .hold ∧ q.climate.steamWanted = true ∧ q.program.state = .ended := by decide +kernel

/-- R62, R175: a boiler rating accepted within a window leaves the steam-delivered indication of that window. -/
theorem test_steamDelivered_rating : let t := after (.settingPut 1 ⟨0x03, 0xE8, 0, 0, 0⟩) { ready with
    part.boiler.state := .steaming, part.boiler.owner := .cooking, part.power.grants.boiler := 1800
    part.climate.state := .regulate, part.climate.params := some pulsed, part.climate.steamWanted := true
    part.scale.lock := false }
    t.part.store.num 1 = 1000 ∧ t.part.power.grants.boiler = 1800 ∧ t.part.steamDelivered = true := by decide +kernel

/-- The descale procedure in a phase with a prompt. -/
def descaling (f : DescalePhase) (r : Option PromptReason) : State :=
  { ready with part.descale.phase := f, part.descale.record.phase := f, part.descale.prompt := r }

theorem witness_WaterRequests :
    let a := descaling .awaitSolution (some .start);
    let b := descaling .awaitSolution (some .tankEmpty);
    let r := descaling .awaitRinseWater (some .rinseWater);
    let k := { descaling .soak none with part.descale.soakTimer := .running 1800 };
    (ready.listening ∧ ready.admits .boilerDrain ∧ ready.part.boiler.owner = .none ∧ ready.part.boiler.state = .ready)
    ∧ (ready.admits (.descaleStart 1 61) ∧ ready.admits (.descaleStart 2 0) ∧ ready.part.descale.phase = .idle
      ∧ ready.part.climate.state = .off ∧ ready.part.program.state = .empty)
    ∧ (a.listening ∧ a.admits .descaleConfirm ∧ a.admits .descaleAbort ∧ a.part.descale.phase = .awaitSolution
      ∧ a.part.descale.prompt = some .start)
    ∧ (b.listening ∧ b.admits .descaleConfirm ∧ b.admits .descaleAbort ∧ b.part.descale.prompt ≠ some .start)
    ∧ (r.listening ∧ r.admits .descaleConfirm ∧ r.part.descale.phase = .awaitRinseWater)
    ∧ (descaling .soakDrain none).part.descale.record.rinseOwed = false
    ∧ k.part.descale.soakTimer = .running 1800 ∧ k.part.descale.phase = .soak := by
  unfold State.listening State.admits; decide +kernel

theorem witness_WaterRequests_start :
    let w := { awake.part with mode.mode := .starting, mode.startup := .water };
    let r := { w with descale.record := ⟨.rinse, 2, false⟩ };
    ((descaling .drainFirst none).listening ∧ (descaling .drainFirst none).admits .descaleAbort
      ∧ (descaling .drainFirst none).part.descale.phase = .drainFirst)
    ∧ (w.mode.startup = .water ∧ w.descale.record.phase = .idle ∧ w.boiler.state ≠ .fault
      ∧ w.ring.image.lowWet = false ∧ w.ring.image.highWet = false)
    ∧ (r.descale.record.phase ∉ [DescalePhase.idle, .awaitSolution, .drainFirst] ∧ r.boiler.state = .empty)
    ∧ ({ r with boiler.state := .fault } : Part).boiler.state = .fault ∧ awake.part.mode.startup ≠ .water := by
  unfold State.listening State.admits; decide +kernel

theorem witness_ModeRequests :
    let h := { inMode .hold with part.mode.holdTimer := .running 7200 };
    (awake.listening ∧ awake.admits (.holdEnter 599 1) ∧ awake.admits (.holdEnter 901 2) ∧ awake.part.store.num 4 ≠ 0
      ∧ awake.part.program.state = .empty ∧ awake.part.descale.phase = .idle)
    ∧ (h.listening ∧ h.admits (.holdExit 1) ∧ h.part.mode.mode = .hold ∧ h.part.mode.holdTimer = .running 7200)
    ∧ (awake.admits (.holdExit 0) ∧ awake.part.mode.mode ≠ .hold)
    ∧ (awake.admits .standbyEnter ∧ awake.part.climate.state = .off ∧ awake.part.boiler.state = .empty
      ∧ awake.part.mode.mode = .active)
    ∧ awake.admits .stop ∧ h.admits .stop ∧ (inMode .standbyPending).listening ∧ (inMode .standbyPending).admits .stop
    ∧ (inMode .safeStop).listening ∧ (inMode .safeStop).admits .stop := by
  unfold State.listening State.admits; decide +kernel

theorem witness_ModeRequests_blowdown :
    let h := { inMode .hold with part.boiler.inFlight := true, part.boiler.state := .draining };
    let b : BoilerState → State := fun x => { awake with part.boiler.state := x };
    (h.listening ∧ h.admits (.holdExit 1) ∧ h.part.boiler.inFlight = true ∧ h.part.mode.mode = .hold)
    ∧ ((b .filling).listening ∧ (b .filling).part.boiler.state ∈ [BoilerState.filling, .topping])
    ∧ (b .fault).part.boiler.state ∈ [BoilerState.fillPaused, .heating, .steaming, .fault]
    ∧ regulating.listening ∧ regulating.admits .standbyEnter
      ∧ regulating.part.climate.state ∈ [ClimateState.preheat, .regulate, .doorPause] := by
  unfold State.listening State.admits; decide +kernel

/-- A moist HOLD in which a blowdown's refill is in hand. -/
def refilling : State :=
  { inMode .hold with
    part.climate.state := .regulate, part.climate.params := some (holdClimate 700 true)
    part.boiler.state := .filling, part.boiler.purpose := some .normal, part.boiler.owner := .cooking
    part.boiler.continuation := .reheat, part.boiler.fillTimer := .running 60 }

theorem witness_ModeRequests_refill :
    refilling.listening ∧ refilling.admits (.holdExit 1) ∧ refilling.part.mode.mode = .hold
      ∧ refilling.part.boiler.inFlight = false ∧ refilling.part.boiler.state ∈ [BoilerState.filling, .fillPaused]
      ∧ refilling.part.boiler.owner = .cooking ∧ refilling.part.boiler.continuation = .reheat
      ∧ refilling.part.boiler.waiting = false := by
  unfold State.listening State.admits; decide +kernel

/-- R77, R95: the refill runs on after HOLD_EXIT, and ends where the hold ends by its timer. -/
theorem test_holdExit_refill : let t := (after (.holdExit 1) refilling).part
    t.boiler.state = .filling ∧ t.boiler.owner = .none ∧ t.boiler.fillTimer = .running 60 ∧ t.mode.mode = .active
      ∧ (after .holdTimerExpiry { refilling with part.mode.holdTimer := .running 7200 }).part.boiler.state = .empty := by
  decide +kernel

theorem witness_FaultsLatchAndClear :
    let p := { awake.part with mode.faults := faultFlag .fanStall };
    let s := { awake with part.mode.faults := faultFlag .fillFault, part.mode.first := some .fillFault
                          part.boiler.state := .fault };
    let k := { inMode .safeStop with part.mode.faults := faultFlag .cavityOvertemp, part.climate.overtemp := true };
    let l := { k with part.climate.overtemp := false };
    hasFault p.mode.faults .fanStall = true ∧ hasFault p.mode.faults .cavityOvertemp = false ∧ p.critical = false
      ∧ hasFault p.mode.faults .drainTimeout = false
      ∧ (s.listening ∧ s.admits (.faultClear 11) ∧ 10 < (11 : Byte).toNat ∧ s.admits (.faultClear 8)
        ∧ faultOf 8 = some .fillFault ∧ hasFault s.part.mode.faults .fillFault = true
        ∧ s.part.causePresent .fillFault = false ∧ s.part.steamFault = true
        ∧ (s.part.clearFault .fillFault).steamFault = false ∧ hasFault s.part.mode.faults .drainTimeout = false)
      ∧ (k.listening ∧ k.admits (.faultClear 0) ∧ faultOf 0 = some .cavityOvertemp
        ∧ k.part.causePresent .cavityOvertemp = true)
      ∧ l.part.causePresent .cavityOvertemp = false ∧ l.part.critical = true
        ∧ (l.part.clearFault .cavityOvertemp).critical = false := by
  unfold State.listening State.admits; decide +kernel

theorem witness_FaultsLatchAndClear_classes :
    let p := regulating.part;
    let s := { ready.part with mode.faults := faultFlag .fillFault, boiler.state := .fault };
    (hasFault p.mode.faults .fanStall = false ∧ p.climate.state ∈ [ClimateState.preheat, .regulate]
      ∧ p.climate.params = some hotAirParams ∧ hasFault p.mode.faults .storeDefaulted = false)
    ∧ (p.critical = false ∧ p.climate.state ≠ .off ∧ p.mode.mode ≠ .standby ∧ p.mode.mode ≠ .starting
      ∧ p.program.state ≠ .boundaryWait)
    ∧ (s.steamFault = true ∧ (s.clearFault .fillFault).steamFault = false ∧ s.ring.image.lowWet = true
      ∧ s.boiler.state = .fault ∧ s.boiler.owner ≠ .descale)
    ∧ (s.clearFault .fillFault).critical = s.critical ∧ p.steamFault = (p.clearFault .fanStall).steamFault := by
  decide +kernel

theorem running_bounded : running.part.Bounded :=
  ⟨by decide +kernel, by decide +kernel, by decide +kernel, by decide +kernel, by decide +kernel⟩

theorem witness_EveryStepKeepsBounds :
    running.part.Bounded ∧ step { running with pending := [.stageSkip] } = .next (after .stageSkip running) :=
  ⟨running_bounded, rfl⟩

end Sys2Proof.Tests
end

section
/-! SUPPORT. The states that the model's Boolean tests name, and what an event that reaches the blocks answers. -/

namespace Sys2Proof

theorem ProgramState.runs_iff (g : ProgramState) : g.runs = true ↔ g ∈ [.running, .waiting, .paused, .boundaryWait] := by
  cases g <;> decide

theorem ClimateState.cooking_iff (c : ClimateState) : c.cooking = true ↔ c ∈ [.preheat, .regulate, .doorPause] := by
  cases c <;> decide

theorem ClimateState.active_iff (c : ClimateState) : c.active = true ↔ c = .preheat ∨ c = .regulate := by
  cases c <;> decide

theorem HeatMode.fanMode_iff (m : HeatMode) :
    m.fanMode = true ↔ m ∈ [.hotAir, .hotAirBottom, .grillFan, .steam, .combi] := by
  cases m <;> decide

end Sys2Proof

namespace Sys2Proof.Machine

/-- R103: the span of a descaling procedure. -/
theorem Descale.inSpan_iff (d : Descale) :
    d.inSpan = true ↔ d.phase ≠ .idle ∧ ¬(d.phase = .awaitSolution ∧ d.prompt = some .start) := by
  cases hp : d.phase
  case awaitSolution => cases hr : d.prompt with
    | none => simp [Descale.inSpan, hp, hr]
    | some r => cases r <;> simp [Descale.inSpan, hp, hr]
  all_goals simp [Descale.inSpan, hp]

/-- An event leaves the blocks settled from the value that it makes of them. -/
theorem next_settled {s : State} {f : Part → Part} {p : Part} (h : f s.part = p) :
    (.next (s.onBlocks f) : Host.Outcome State Fault Refusal) = .next (s.settled p) := by
  subst h; rfl

end Sys2Proof.Machine
end

section
/-! SUPPORT. Climate parameter records (R2): when a block is refused, and the record that every other block gives. -/

namespace Sys2Proof.Machine

/-- R182: the presence bytes of a climate block are 0 or 1. -/
def presenceFormed (b : ClimateBlock) : Prop :=
  b.humidityPresence.toNat ≤ 1 ∧ b.pulsePresence.toNat ≤ 1 ∧ b.deltaPresence.toNat ≤ 1

/-- R2: the optional fields of a climate block are those that a mode calls for. -/
def presenceAllowed (b : ClimateBlock) (m : HeatMode) : Prop :=
  if m = .combi then (b.humidityPresence = 1 ↔ b.pulsePresence = 0)
  else b.humidityPresence = 0 ∧ b.pulsePresence = 0

/-- The record that a climate block sends, in a mode, before clamping. -/
def sentParams (b : ClimateBlock) (m : HeatMode) : ClimateParams :=
  ⟨m, b.setpoint.toInt, b.fan.toNat, if b.humidityPresence = 1 then some b.humidity.toInt else none,
    if b.pulsePresence = 1 then some ⟨b.pulsePeriod.toNat, b.pulseOnTime.toNat⟩ else none,
    if b.deltaPresence = 1 then some b.delta.toInt else none⟩

/-- The record that a climate block gives, in a mode, with each field at the nearest value of its range. -/
def writtenParams (b : ClimateBlock) (m : HeatMode) : ClimateParams :=
  let period := max 30 (min 600 b.pulsePeriod.toNat)
  ⟨m, max (modeSetpoint m).1 (min (modeSetpoint m).2 b.setpoint.toInt),
    max (modeFan m).1 (min (modeFan m).2 b.fan.toNat),
    if b.humidityPresence = 1 then some (max 0 (min 100 b.humidity.toInt)) else none,
    if b.pulsePresence = 1 then some ⟨period, max 5 (min (period - 5) b.pulseOnTime.toNat)⟩ else none,
    if b.deltaPresence = 1 then some (max 10 (min 1500 b.delta.toInt)) else none⟩

/-- The fields of a record, as a record before clamping holds them. -/
def rawOf (c : ClimateParams) : RawClimate := ⟨c.mode, c.setpoint, c.fan, c.humidity, c.pulse, c.delta⟩

theorem rawOf_inj {c d : ClimateParams} : rawOf c = rawOf d ↔ c = d := by
  cases c; cases d; simp [rawOf]

theorem byte_le_one_iff (b : Byte) : b.toNat ≤ 1 ↔ b = 0 ∨ b = 1 := by
  constructor
  · intro h
    rcases Nat.le_one_iff_eq_zero_or_eq_one.1 h with h | h
    · exact .inl (BitVec.eq_of_toNat_eq h)
    · exact .inr (BitVec.eq_of_toNat_eq h)
  · rintro (rfl | rfl) <;> decide

/-- R182: an optional field with a presence byte of 0 or 1. -/
theorem optional_formed {α : Type} {b : Byte} (a : α) (h : b.toNat ≤ 1) :
    optional b a = some (if b = 1 then some a else none) := by
  rcases (byte_le_one_iff b).1 h with rfl | rfl <;> rfl

/-- R182: a field is read only with a presence byte of 0 or 1. -/
theorem presence_of_optional {α : Type} {b : Byte} {a : α} {x : Option α} (h : optional b a = some x) : b.toNat ≤ 1 := by
  rw [byte_le_one_iff]
  unfold optional flagOf at h
  by_contra k
  rw [not_or] at k
  rw [if_neg k.1, if_neg k.2] at h
  exact absurd h (by simp)

/-- Section 12.3: a mode's code is the number that it was read from. -/
theorem heatModeCode_of {n : Nat} {m : HeatMode} (h : heatModeOf n = some m) : heatModeCode m = n := by
  unfold heatModeOf at h
  split at h
  case h_9 => exact absurd h (by simp)
  all_goals cases h; rfl

/-- R2: the record before clamping, where the presence bytes are formed and the mode is known. -/
theorem readClimate_formed {b : ClimateBlock} {m : HeatMode} (hf : presenceFormed b)
    (hm : heatModeOf b.mode.toNat = some m) :
    readClimate b = if (rawOf (sentParams b m)).presenceOk then some (rawOf (sentParams b m)) else none := by
  obtain ⟨hh, hp, hd⟩ := hf
  simp only [readClimate, hm, optional_formed _ hh, optional_formed _ hp, optional_formed _ hd]
  rfl

/-- R2: the presence rules, on the presence bytes. -/
theorem presenceOk_sent {b : ClimateBlock} (m : HeatMode) (hf : presenceFormed b) :
    (rawOf (sentParams b m)).presenceOk = true ↔ presenceAllowed b m := by
  obtain ⟨hh, hp, -⟩ := hf
  rw [byte_le_one_iff] at hh hp
  by_cases hm : m = .combi <;> rcases hh with hh | hh <;> rcases hp with hp | hp <;>
    simp [rawOf, sentParams, RawClimate.presenceOk, presenceAllowed, hm, hh, hp]

theorem modeSetpoint_range (m : HeatMode) : (modeSetpoint m).1 ≤ (modeSetpoint m).2 := by cases m <;> decide

theorem modeFan_range (m : HeatMode) : (modeFan m).1 ≤ (modeFan m).2 := by cases m <;> decide

theorem SteamPulse.clamp_eq (u : SteamPulse) :
    u.clamp = ⟨max 30 (min 600 u.period), max 5 (min (max 30 (min 600 u.period) - 5) u.onTime)⟩ := by
  simp only [SteamPulse.clamp, clampNat_eq 30 600 _ (by decide)]
  rw [clampNat_eq _ _ _ (by omega)]

/-- R2: the fields of a record are clamped to the nearest values of their ranges. -/
theorem clamp_sent (b : ClimateBlock) (m : HeatMode) : (rawOf (sentParams b m)).clamp = writtenParams b m := by
  simp only [rawOf, sentParams, writtenParams, RawClimate.clamp, clampInt_eq _ _ _ (modeSetpoint_range m),
    clampNat_eq _ _ _ (modeFan_range m), ClimateParams.mk.injEq, true_and]
  refine ⟨?_, ?_, ?_⟩
  · split <;> simp [clampInt_eq]
  · split <;> simp [SteamPulse.clamp_eq]
  · split <;> simp [clampInt_eq]

/-- R2: a block that passes the checks is written with every field clamped, and the mark says whether one was. -/
theorem checkClimate_accepted {b : ClimateBlock} {m : HeatMode} (hf : presenceFormed b)
    (hm : heatModeOf b.mode.toNat = some m) (ha : presenceAllowed b m) :
    checkClimate b = some (writtenParams b m, decide (writtenParams b m ≠ sentParams b m)) := by
  rw [checkClimate, readClimate_formed hf hm, if_pos ((presenceOk_sent m hf).2 ha), Option.map_some]
  simp only [clamp_sent]
  exact congrArg (fun x => some (writtenParams b m, x)) (decide_eq_decide.2 (not_congr rawOf_inj))

/-- R2: a block is refused exactly where its mode is unknown, a presence byte is neither 0 nor 1, or its optional fields
are not those of its mode. -/
theorem checkClimate_eq_none_iff (b : ClimateBlock) : checkClimate b = none ↔
    ¬(presenceFormed b ∧ ∃ m, heatModeOf b.mode.toNat = some m ∧ presenceAllowed b m) := by
  constructor
  · rintro h ⟨hf, m, hm, ha⟩
    simp [checkClimate_accepted hf hm ha] at h
  · intro h
    rw [checkClimate, Option.map_eq_none_iff]
    unfold readClimate
    split
    · next m hu pu de hm hh hp hd =>
      have hf : presenceFormed b := ⟨presence_of_optional hh, presence_of_optional hp, presence_of_optional hd⟩
      have hok := (presenceOk_sent m hf).not.2 fun ha => h ⟨hf, m, hm, ha⟩
      have hr := readClimate_formed hf hm
      rw [if_neg hok] at hr
      simpa only [readClimate, hm, hh, hp, hd] using hr
    · rfl

/-- R2: a block that is not refused names a mode and gives that mode's written record. -/
theorem checkClimate_eq_some {b : ClimateBlock} {c : ClimateParams} {clamped : Bool}
    (h : checkClimate b = some (c, clamped)) :
    presenceFormed b ∧ heatModeOf b.mode.toNat = some c.mode ∧ presenceAllowed b c.mode
      ∧ c = writtenParams b c.mode ∧ clamped = decide (c ≠ sentParams b c.mode) := by
  have hn : checkClimate b ≠ none := by simp [h]
  rw [Ne, checkClimate_eq_none_iff, not_not] at hn
  obtain ⟨hf, m, hm, ha⟩ := hn
  rw [checkClimate_accepted hf hm ha, Option.some.injEq, Prod.mk.injEq] at h
  obtain ⟨rfl, rfl⟩ := h
  exact ⟨hf, hm, ha, rfl, rfl⟩

/-- The fields of a block's record before clamping. -/
theorem sentParams_fields (b : ClimateBlock) (m : HeatMode) :
    let c := sentParams b m
    c.setpoint = b.setpoint.toInt ∧ c.fan = b.fan.toNat ∧ (∀ h, c.humidity = some h → h = b.humidity.toInt)
      ∧ (∀ u, c.pulse = some u → u = ⟨b.pulsePeriod.toNat, b.pulseOnTime.toNat⟩)
      ∧ ∀ d, c.delta = some d → d = b.delta.toInt := by
  simp +contextual [sentParams]

/-- R2: every field of a written record is in its range. -/
theorem writtenParams_bounds (b : ClimateBlock) (m : HeatMode) :
    let c := writtenParams b m
    (modeSetpoint m).1 ≤ c.setpoint ∧ c.setpoint ≤ (modeSetpoint m).2
      ∧ (modeFan m).1 ≤ c.fan ∧ c.fan ≤ (modeFan m).2
      ∧ (∀ h, c.humidity = some h → 0 ≤ h ∧ h ≤ 100)
      ∧ (∀ u, c.pulse = some u → 30 ≤ u.period ∧ u.period ≤ 600 ∧ 5 ≤ u.onTime ∧ u.onTime + 5 ≤ u.period)
      ∧ ∀ d, c.delta = some d → 10 ≤ d ∧ d ≤ 1500 := by
  have hs := modeSetpoint_range m
  have hfan := modeFan_range m
  simp only [writtenParams]
  refine ⟨by omega, by omega, by omega, by omega, ?_, ?_, ?_⟩
  · intro h hh
    split at hh <;> cases hh
    omega
  · intro u hu
    split at hu <;> cases hu
    dsimp only
    omega
  · intro d hd
    split at hd <;> cases hd
    omega

/-- R2: the optional fields of a written record are those that its mode calls for. -/
theorem writtenParams_presence {b : ClimateBlock} {m : HeatMode} (hf : presenceFormed b) (ha : presenceAllowed b m) :
    (m = .combi → ((writtenParams b m).humidity.isSome ↔ (writtenParams b m).pulse = none))
      ∧ (m ≠ .combi → (writtenParams b m).humidity = none ∧ (writtenParams b m).pulse = none) := by
  obtain ⟨-, hp, -⟩ := hf
  rw [byte_le_one_iff] at hp
  unfold presenceAllowed at ha
  constructor
  · intro hm
    rw [if_pos hm] at ha
    rcases hp with hp | hp <;> simp_all [writtenParams]
  · intro hm
    rw [if_neg hm] at ha
    simp [writtenParams, ha]

/-- R3: CLIMATE_SET with a code that its checks give. -/
theorem Part.climateSet_refused {p : Part} {b : ClimateBlock} {c : ClimateParams} {clamped : Bool} {code : ResultCode}
    (hc : checkClimate b = some (c, clamped)) (h : p.climateRefusal c = some code) :
    p.climateSet b = (p, ⟨code, []⟩) := by
  simp [Part.climateSet, hc, h, Part.refuse, Reply.bare]

theorem Part.climateSet_accepted {p : Part} {b : ClimateBlock} {c : ClimateParams} {clamped : Bool}
    (hc : checkClimate b = some (c, clamped)) (h : p.climateRefusal c = none) :
    p.climateSet b = (p.writeClimate c, ⟨if clamped then .clamped else .ok, []⟩) := by
  simp [Part.climateSet, hc, h, okOrClamped, Reply.bare]

theorem Part.climateSet_badValue {p : Part} {b : ClimateBlock} (h : checkClimate b = none) :
    p.climateSet b = (p, ⟨.badValue, []⟩) := by
  simp [Part.climateSet, h, Part.refuse, Reply.bare]

/-- Settles O43: a block's record is `writtenParams`, whose bounds and presence are said once for every mode. -/
theorem climateRecordsAreChecked : Obligations.ClimateRecordsAreChecked := by
  refine ⟨fun b c clamped h => ?_, fun b => ⟨checkClimate_eq_none_iff b, fun m hm hf ha => ?_⟩, fun p b =>
    ⟨Part.climateSet_badValue, fun c clamped hc => Part.climateSet_accepted hc⟩⟩
  · obtain ⟨hf, hm, ha, hc, hclamped⟩ := checkClimate_eq_some h
    obtain ⟨hs1, hs2, hf1, hf2, hh, hp, hd⟩ := writtenParams_bounds b c.mode
    obtain ⟨hcombi, hother⟩ := writtenParams_presence hf ha
    rw [← hc] at hs1 hs2 hf1 hf2 hh hp hd hcombi hother
    have hmode : b.mode = byteOf (heatModeCode c.mode) := by simp [heatModeCode_of hm, byteOf]
    refine ⟨hmode, hs1, hs2, hf1, hf2, hcombi, hother, hh, hp, hd, fun hk => ?_⟩
    have hsent : c = sentParams b c.mode := by simpa [hclamped] using hk
    have hfields := sentParams_fields b c.mode
    rwa [← hsent] at hfields
  · exact checkClimate_accepted hf hm ha

end Sys2Proof.Machine
end

section
/-! SUPPORT. The climate requests (R3, R5): the checks of CLIMATE_SET, and what CLIMATE_OFF ends. -/

namespace Sys2Proof.Machine

/-- R3 checks 2 to 5: the conditions that refuse a climate record with REFUSED_STATE. -/
def Part.climateBarred (p : Part) (c : ClimateParams) : Prop :=
  p.program.state ∈ [.running, .waiting, .paused, .boundaryWait]
    ∨ (p.descale.phase ≠ .idle ∧ ¬(p.descale.phase = .awaitSolution ∧ p.descale.prompt = some .start))
    ∨ (c.mode ≠ .steam ∧ p.store.groupMax c.mode = 0) ∨ (c.delta.isSome ∧ p.ring.image.tcore = none)

/-- R3 checks 2 to 5. -/
theorem Part.climateRefusal_barred {p : Part} {c : ClimateParams} (h : p.climateBarred c) :
    p.climateRefusal c = some .refusedState := by
  simp only [Part.climateBarred, ← ProgramState.runs_iff, ← Descale.inSpan_iff] at h
  rcases h with h | h | h | ⟨hd, ht⟩
  · simp [Part.climateRefusal, h]
  · simp [Part.climateRefusal, h]
  · simp [Part.climateRefusal, h]
  · simp [Part.climateRefusal, hd, ht]

/-- R3 check 6. -/
theorem Part.climateRefusal_open {p : Part} {c : ClimateParams} (h : ¬p.climateBarred c) :
    p.climateRefusal c = if c.mode = .steam ∧ p.scale.lock = true then some .locked else none := by
  simp only [Part.climateBarred, ← ProgramState.runs_iff, ← Descale.inSpan_iff, not_or] at h
  obtain ⟨hr, hs, hm, hd⟩ := h
  have hd' : (c.delta.isSome && p.ring.image.tcore.isNone) = false := by
    rw [Bool.eq_false_iff]
    simpa using hd
  simp [Part.climateRefusal, hr, hs, hm, hd']

/-- R6: outside the cooking states the end of cooking changes nothing. -/
theorem Part.endCooking_eq (p : Part) :
    p.endCooking = if p.climate.state ∈ [.preheat, .regulate, .doorPause] then p.endCooking else p := by
  split
  · rfl
  · next h =>
    rw [Part.endCooking, if_neg]
    rwa [ClimateState.cooking_iff]

/-- Settles O44: an admitted request answers what its owner answers, so the checks in their order decide it. -/
theorem climateSetAndOff : Obligations.ClimateSetAndOff := by
  intro s hl
  refine ⟨fun b ha => ?_, fun ha => ⟨fun hr => ?_, fun hr => ?_⟩⟩
  · have declined {p : Part} {code : ResultCode} (hs : s.part.climateSet b = (p, ⟨code, []⟩))
        (hc : carriedOut code = false) :
        exec (.climateSet b) s = .next (s.replied (.climateSet b) ⟨code, []⟩) :=
      exec_declined (q := .climateSet b) (p := p) hl ha (congrArg (s.taken (.climateSet b)).acting hs) hc
    refine ⟨fun hn => declined (Part.climateSet_badValue hn) rfl, fun c clamped hc => ⟨fun h => ?_, fun h hm hk => ?_,
      fun h hm => ?_⟩⟩
    · exact declined (Part.climateSet_refused hc (Part.climateRefusal_barred h)) rfl
    · exact declined (Part.climateSet_refused hc ((Part.climateRefusal_open h).trans (if_pos ⟨hm, hk⟩))) rfl
    · have hopen : ¬(c.mode = .steam ∧ s.part.scale.lock = true) := by
        rintro ⟨hs, hk⟩
        simp [hs, hk] at hm
      have hs := Part.climateSet_accepted hc ((Part.climateRefusal_open h).trans (if_neg hopen))
      refine exec_carried (q := .climateSet b) hl ha (congrArg (s.taken (.climateSet b)).acting hs) ?_
      cases clamped <;> rfl
  · have hs : s.part.climateOff = (s.part, ⟨.refusedState, []⟩) := by
      simp [Part.climateOff, (ProgramState.runs_iff _).2 hr, Part.refuse, Reply.bare]
    exact exec_declined (q := .climateOff) hl ha (congrArg (s.taken .climateOff).acting hs) rfl
  · have hs : s.part.climateOff = (s.part.endCooking, ⟨.ok, []⟩) := by
      simp [Part.climateOff, (ProgramState.runs_iff _).not.2 hr, Reply.bare]
    rw [← Part.endCooking_eq]
    exact exec_carried (q := .climateOff) hl ha (congrArg (s.taken .climateOff).acting hs) rfl

end Sys2Proof.Machine
end

section
/-! SUPPORT. Ticks and pulses that are counted (R14 to R18, R66, R92). -/

namespace Sys2Proof.Machine

/-- R14: where no rule forces the flag clear, the climate's own rule gives its value. -/
theorem Part.steamHeldClear_eq_false {p : Part} (hl : p.scale.lock = false) (hm : p.mode.mainsLoss = false)
    (hb : p.program.state ≠ .boundaryWait) (hs : p.climate.state = .preheat ∨ p.climate.state = .regulate) :
    p.steamHeldClear = false := by
  have ha := (ClimateState.active_iff _).2 hs
  simp [Part.steamHeldClear, hl, hm, hb, ha]

/-- R15: in a pulsed COMBI the flag is set below the on-time. -/
theorem Part.steamTestValue_pulsed {p : Part} {c : ClimateParams} {u : SteamPulse} (hf : p.steamHeldClear = false)
    (hp : p.climate.params = some c) (hm : c.mode = .combi) (hh : c.humidity = none) (hu : c.pulse = some u) :
    p.steamTestValue = decide (p.climate.pulseCount < u.onTime) := by
  simp [Part.steamTestValue, hf, hp, hm, hh, hu]

/-- R62: the fill pump runs in FILLING and TOPPING, with the mains present and outside STANDBY. -/
theorem Part.fillPump_iff (p : Part) : p.fillPump = true ↔
    p.boiler.state ∈ [.filling, .topping] ∧ p.mode.mainsLoss = false ∧ p.mode.mode ≠ .standby := by
  simp [Part.fillPump, and_assoc]

/-- Settles O47, event by event: each counts with the model's saturating counter or moves one field. -/
theorem ticksAndPulses : Obligations.TicksAndPulses := by
  intro s
  refine ⟨fun period h => ?_, fun p c u hp hm hh hu hl hml hb hs => ?_, rfl, ?_, ?_, fun h => ?_⟩
  · have hf : s.part.pulseTick = Part.steamTest { s.part with
        climate.pulseCount :=
          if s.part.climate.pulseCount + 1 < period then s.part.climate.pulseCount + 1 else 0 } := by
      simp [Part.pulseTick, h]
    exact next_settled hf
  · rw [Part.steamTest, Part.steamTestValue_pulsed (Part.steamHeldClear_eq_false hl hml hb hs) hp hm hh hu]
  · have hf : s.part.flowPulse = if s.part.boiler.state ∈ [.filling, .topping] ∧ s.part.mode.mainsLoss = false
        ∧ s.part.mode.mode ≠ .standby then { s.part with boiler.flow := min 65535 (s.part.boiler.flow + 1) }
        else s.part := by
      rw [Part.flowPulse, bump_eq]
      exact if_congr s.part.fillPump_iff rfl rfl
    show Host.Outcome.next { s with part := s.part.flowPulse } = _
    rw [hf]
    split <;> rfl
  · show Host.Outcome.next { s with part := s.part.tachPulse } = _
    rw [Part.tachPulse, bump_eq]
    split <;> rfl
  · have hf : s.part.lullReached = { s.part with scale.lull := .reached } := by simp [Part.lullReached, h]
    exact next_settled hf

end Sys2Proof.Machine
end

section
/-! SUPPORT. What the load step (R180) leaves alone, and the blocks after POWER_ON_RESET. -/

namespace Sys2Proof.Machine

/-- The part with everything blanked out that the load step's operations may write: the store, the scale tracker, the report
timer, the faults, the pending notices and the descale record. A re-assertion counts as owed where a NOTICE_GET in hand may
make one owed. -/
def Part.outsideLoad (p : Part) : Part :=
  { p with
    store := .reset
    scale := .reset
    report := .reset
    notice := { p.notice with pending := 0, owed := p.notice.owed || p.notice.inHand }
    mode.faults := 0
    mode.first := none
    descale.record := .initial }

@[simp] theorem Part.outsideLoad_queueItem (p : Part) (i : Nat) (v : ItemValue) :
    (p.queueItem i v).outsideLoad = p.outsideLoad := rfl

@[simp] theorem Part.outsideLoad_raiseNotice (p : Part) (n : Notice) : (p.raiseNotice n).outsideLoad = p.outsideLoad := by
  have ho : ((p.notice.raise n).owed || p.notice.inHand) = (p.notice.owed || p.notice.inHand) := by
    unfold NoticeUnit.raise
    split
    · rfl
    · cases p.notice.inHand <;> simp
  simp [Part.outsideLoad, Part.raiseNotice, NoticeUnit.raise_enable, NoticeUnit.raise_inHand, NoticeUnit.raise_pulse, ho]

@[simp] theorem Part.outsideLoad_latch (p : Part) (k : FaultKind) : (p.latch k).outsideLoad = p.outsideLoad := by
  rw [Part.latch, Part.outsideLoad_raiseNotice]; rfl

@[simp] theorem Part.outsideLoad_queueDamaged (p : Part) (i : Nat) : (p.queueDamaged i).outsideLoad = p.outsideLoad := by
  unfold Part.queueDamaged; split <;> simp

/-- R146: a warning is latched and has no other effect. -/
theorem Part.raiseFault_storeDefaulted (p : Part) : p.raiseFault .storeDefaulted =
    if hasFault p.mode.faults .storeDefaulted then p else p.latch .storeDefaulted := rfl

@[simp] theorem Part.outsideLoad_reportDamage (p : Part) : p.reportDamage.outsideLoad = p.outsideLoad := by
  rw [Part.reportDamage, Part.raiseFault_storeDefaulted]; repeat' split
  all_goals simp

@[simp] theorem Part.outsideLoad_descaleLoaded (p : Part) : p.descaleLoaded.outsideLoad = p.outsideLoad := by
  unfold Part.descaleLoaded; split <;> rfl

@[simp] theorem Part.outsideLoad_queueIfOwing (p q : Part) : (p.queueIfOwing q).outsideLoad = q.outsideLoad := by
  unfold Part.queueIfOwing; split <;> rfl

@[simp] theorem Part.outsideLoad_scaleLoaded (p : Part) : p.scaleLoaded.outsideLoad = p.outsideLoad := by
  have hrecord (q : Part) : q.recordLoaded.outsideLoad = q.outsideLoad := by unfold Part.recordLoaded; split <;> rfl
  have hblowdown (q : Part) : q.blowdownLoaded.outsideLoad = q.outsideLoad := by
    unfold Part.blowdownLoaded; split <;> rfl
  have hprogress (q : Part) : q.progressLoaded.outsideLoad = q.outsideLoad := Part.outsideLoad_queueIfOwing _ _
  have hdue (q : Part) : q.dueLoaded.outsideLoad = q.outsideLoad := by
    unfold Part.dueLoaded; dsimp only; split
    · rfl
    · exact Part.outsideLoad_raiseNotice _ _
  calc p.scaleLoaded.outsideLoad
      = (p.recordLoaded.blowdownLoaded.progressLoaded.dueLoaded).outsideLoad := rfl
    _ = p.outsideLoad := by rw [hdue, hprogress, hblowdown, hrecord]

/-- R180, R181: outside the store, the records and what the load step raises, it starts the frequency measurement alone. -/
theorem Part.outsideLoad_loadStep (p : Part) (flash : List StoredForm) : (p.loadStep flash).outsideLoad =
    { p.outsideLoad with mode.startup := .frequency, power.measure := .waiting } := by
  have hreports (q : Part) : q.startReports.outsideLoad = q.outsideLoad := rfl
  have hmark (q : Part) : Part.outsideLoad { q with mode.startup := .frequency, power.measure := .waiting }
      = { q.outsideLoad with mode.startup := .frequency, power.measure := .waiting } := rfl
  rw [Part.loadStep, hmark, hreports]
  simp only [outsideLoad_scaleLoaded, outsideLoad_descaleLoaded, outsideLoad_reportDamage, outsideLoad_queueDamaged]
  rfl

/-- R181: POWER_ON_RESET gives the blocks their values after reset and then does the load step. -/
theorem exec_powerOnReset (s : State) : exec .powerOnReset s = .next s.powerOn := rfl

/-- A part that agrees with the values after reset outside what the load step writes. -/
theorem Part.reset_of_outsideLoad {q : Part}
    (h : q.outsideLoad = { Part.reset.outsideLoad with mode.startup := .frequency, power.measure := .waiting }) :
    q.climate = Climate.reset ∧ q.power = { Power.reset with measure := .waiting } ∧ q.ring = Ring.reset
      ∧ q.boiler = Boiler.reset ∧ { q.descale with record := .initial } = Descale.reset ∧ q.program = Program.reset
      ∧ { q.mode with faults := 0, first := none } = { ModeControl.reset with startup := .frequency }
      ∧ q.notice.enable = 0xB7FF ∧ (q.notice.owed || q.notice.inHand) = false ∧ q.capture = Capture.reset :=
  ⟨congrArg Part.climate h, congrArg Part.power h, congrArg Part.ring h, congrArg Part.boiler h, congrArg Part.descale h,
    congrArg Part.program h, congrArg Part.mode h, congrArg (fun p => p.notice.enable) h,
    congrArg (fun p => p.notice.owed) h, congrArg Part.capture h⟩

theorem State.powerOn_part (s : State) : s.powerOn.part = Part.reset.loadStep s.cutWrite.flash := by
  simp only [State.powerOn, State.startUp, State.afterReset]

/-- Settles O4: outside what the load step writes, the blocks hold their values after reset. -/
theorem powerOnResetsBlocks : Obligations.PowerOnResetsBlocks := by
  intro s
  refine ⟨s.powerOn, exec_powerOnReset s, ?_⟩
  have h := Part.outsideLoad_loadStep Part.reset s.cutWrite.flash
  rw [← State.powerOn_part] at h
  obtain ⟨hclimate, hpower, hring, hboiler, hdescale, hprogram, hmode, henable, howed, hcapture⟩ :=
    Part.reset_of_outsideLoad h
  simp only [Descale.reset, ModeControl.reset, Descale.mk.injEq, ModeControl.mk.injEq] at hdescale hmode
  obtain ⟨-, hphase, hprompt, hsoak, -, -, -, -, houtcome⟩ := hdescale
  obtain ⟨hm, -, -, hloss, -, -, hhold, -, -⟩ := hmode
  rw [Bool.or_eq_false_iff] at howed
  simp [hclimate, hpower, hring, hboiler, hphase, hprompt, hsoak, houtcome, hprogram, hm, hloss, hhold, henable, howed,
    hcapture, Climate.reset, Power.reset, Ring.reset, Image.reset, Boiler.reset, Program.reset, Capture.reset]

end Sys2Proof.Machine
end

section
/-! SUPPORT. Crossings within a window and the boundary that closes one (R18, R23, R28). -/

namespace Sys2Proof.Machine

/-! ### What an event leaves behind the reactions -/

/-- Where no scan is due, the reactions after an event keep the fixed values of what it has made of the blocks. -/
theorem State.settled_fixed {s : State} {p : Part} (h : p.ring.phase = .idle → p.ring.startAtOnce = false) :
    (s.settled p).part.fixed = p.fixed := by
  have hk := Part.settle_keeps (Part.Keeps.refl p)
  have hq (q : Part) (b : Bool) : (q.quietReports b).fixed = q.fixed := by cases b <;> rfl
  rw [State.settled, State.onBlocks_part, hq, Part.advance_of_not_due 3 _ (by rw [hk.ring]; exact h), hk.fixed]

/-! ### FAN_STALL (R18, R146) -/

/-- R146: a latched fault is in the fault set. -/
theorem hasFault_latch (p : Part) (k : FaultKind) : hasFault (p.latch k).mode.faults k = true := by
  have hk : faultCode k < 16 := by cases k <;> decide
  simp [Part.latch, hasFault, faultFlag, hk]

/-- FAN_STALL is of the class that removes the cavity demand. -/
theorem Part.raiseFault_fanStall (p : Part) :
    p.raiseFault .fanStall = if hasFault p.mode.faults .fanStall then p else (p.latch .fanStall).stallEffects := rfl

/-- The loss of the cavity demand leaves everything but the demand. -/
theorem Part.stallEffects_eq (p : Part) : p.stallEffects = p ∨ p.stallEffects = p.noDemand := by
  unfold Part.stallEffects
  repeat' split
  all_goals simp

/-- R18, R146: a raised FAN_STALL is latched, and leaves the window, its tach counts and the ring alone. -/
theorem Part.raiseFault_fanStall_leaves (p : Part) :
    let q := p.raiseFault .fanStall
    hasFault q.mode.faults .fanStall = true ∧ q.mode.mainsLoss = p.mode.mainsLoss ∧ q.ring = p.ring
      ∧ q.power.freq = p.power.freq ∧ q.power.counting = p.power.counting ∧ q.climate.tachLatch = p.climate.tachLatch
      ∧ q.climate.tachCount = p.climate.tachCount ∧ q.climate.stallCount = p.climate.stallCount := by
  rw [Part.raiseFault_fanStall]
  split
  · next h => exact ⟨h, rfl, rfl, rfl, rfl, rfl, rfl, rfl⟩
  · rcases (p.latch .fanStall).stallEffects_eq with h | h <;> rw [h] <;>
      exact ⟨hasFault_latch p .fanStall, rfl, rfl, rfl, rfl, rfl, rfl, rfl⟩

/-! ### The window boundary (R18, R23, R28) -/

/-- R28: step 1 of a boundary, field by field. -/
theorem Power.updateDwell_eq (w : Power) : w.updateDwell = { w with
    onDwell := if w.relay then min 255 (w.onDwell + 1) else w.onDwell
    offDwell := if w.relay then w.offDwell else min 255 (w.offDwell + 1) } := by
  unfold Power.updateDwell
  simp only [bump_eq]
  split <;> rfl

/-- R18: the measured speed, by the frequency class. -/
theorem tachSpeed_eq (f : FreqClass) (n : Nat) : tachSpeed f n = n * (if f = .hz60 then 36 else 30) := by
  cases f <;> rfl

/-- R18: the stall count after a boundary: the window counts where the fan was commanded at both its ends and has turned
below 300 rpm. -/
def Part.stallCountAfter (p : Part) : Nat :=
  if p.climate.windowFan = true ∧ 1 ≤ p.fanLevel
      ∧ p.climate.tachCount * (if p.power.freq = .hz60 then 36 else 30) < 300 then min 3 (p.climate.stallCount + 1)
  else 0

/-- R18, R28: the blocks after the tach latch and the dwell counts of a boundary. -/
def Part.countedWindow (p : Part) : Part := { p with
  climate := { p.climate with
    tachLatch := p.climate.tachCount, tachCount := 0, stallCount := p.stallCountAfter
    windowFan := decide (1 ≤ p.fanLevel) }
  power := { p.power with
    onDwell := if p.power.relay then min 255 (p.power.onDwell + 1) else p.power.onDwell
    offDwell := if p.power.relay then p.power.offDwell else min 255 (p.power.offDwell + 1) } }

/-- R18: the blocks after the stall count has been judged: FAN_STALL is raised where it reaches 3. -/
def Part.judgedWindow (p : Part) : Part :=
  if p.stallCountAfter = 3 ∧ p.climate.stallCount ≠ 3 then p.countedWindow.raiseFault .fanStall else p.countedWindow

theorem Part.latchTach_stallCount (p : Part) : p.latchTach.climate.stallCount = p.stallCountAfter := by
  simp [Part.latchTach, Part.stallCountAfter, tachSpeed_eq, bump_eq, and_assoc]

theorem Part.latchTach_updateDwell (p : Part) :
    { p.latchTach with power := p.latchTach.power.updateDwell } = p.countedWindow := by
  rw [Power.updateDwell_eq, Part.countedWindow, ← Part.latchTach_stallCount]
  rfl

/-- R18, R23: what the window boundary makes of the blocks. -/
theorem Part.windowBoundary_eq (p : Part) :
    p.windowBoundary = { p.judgedWindow.grantWindow with climate.grantFresh := true } := by
  rw [Part.windowBoundary, Part.judgedWindow]
  simp only [Part.latchTach_updateDwell, Part.latchTach_stallCount]

/-- R28, R32: the relay moves without the frequency class or the counting. -/
theorem Power.relay_keeps (w : Power) (granted : Bool) :
    (if granted then w.closeRelay else w.openRelay).freq = w.freq
      ∧ (if granted then w.closeRelay else w.openRelay).counting = w.counting := by
  unfold Power.closeRelay Power.openRelay
  repeat' split
  all_goals exact ⟨rfl, rfl⟩

/-- R23, R32: the grants of a window keep the frequency class and the counting, and open it at crossing 0. -/
theorem Part.grantWindow_power (p : Part) : p.grantWindow.power.freq = p.power.freq
    ∧ p.grantWindow.power.counting = p.power.counting ∧ p.grantWindow.power.crossing = 0 :=
  ⟨(p.power.relay_keeps _).1, (p.power.relay_keeps _).2, rfl⟩

/-- R18, R23: what a boundary leaves in the fixed values. -/
theorem Part.windowBoundary_leaves (p : Part) :
    let q := p.windowBoundary
    q.ring = p.ring ∧ q.mode.mainsLoss = p.mode.mainsLoss ∧ q.power.crossing = 0 ∧ q.power.counting = p.power.counting
      ∧ q.power.freq = p.power.freq ∧ q.climate.tachLatch = p.climate.tachCount ∧ q.climate.tachCount = 0
      ∧ q.climate.stallCount = p.stallCountAfter
      ∧ (p.stallCountAfter = 3 → p.climate.stallCount ≠ 3 → hasFault q.mode.faults .fanStall = true) := by
  obtain ⟨hfreq, hcounting, hcrossing⟩ := p.judgedWindow.grantWindow_power
  obtain ⟨hfault, hloss, hring, hjf, hjc, hlatch, hcount, hstall⟩ := p.countedWindow.raiseFault_fanStall_leaves
  rw [Part.windowBoundary_eq]
  unfold Part.judgedWindow at hfreq hcounting hcrossing ⊢
  split
  · next h =>
    rw [if_pos h] at hfreq hcounting hcrossing
    exact ⟨hring, hloss, hcrossing, hcounting.trans hjc, hfreq.trans hjf, hlatch, hcount, hstall, fun _ _ => hfault⟩
  · next h =>
    rw [if_neg h] at hfreq hcounting hcrossing
    exact ⟨rfl, rfl, hcrossing, hcounting, hfreq, rfl, rfl, rfl, fun h3 hn => absurd ⟨h3, hn⟩ h⟩

/-- R23: a crossing within 25 ms of the one before, with windows counted. -/
theorem Part.zeroCrossing_counting {p : Part} {gap : Nat} (hg : gap ≤ 25000) (hm : p.power.measure = .none)
    (hl : p.mode.mainsLoss = false) (hf : p.power.freq ≠ .unknown) (hc : p.power.counting = true) :
    p.zeroCrossing gap = p.windowCrossing := by
  have hgap : ¬lossGap < gap := Nat.not_lt.2 hg
  simp [Part.zeroCrossing, hm, hl, hf, hgap, hc]

/-- R23: the crossing numbered 99 closes the window. -/
theorem Power.closesWindow_iff {w : Power} {gap : Nat} (hg : gap ≤ 25000) (hc : w.counting = true) :
    w.closesWindow gap = true ↔ w.crossing = 99 := by
  simp [Power.closesWindow, hc, lossGap, hg]

/-- Settles O49: a crossing is the next one of its window, or the boundary, whose fixed values outlast the reactions. -/
theorem crossingsCountWindows : Obligations.CrossingsCountWindows := by
  intro s gap hg hdue hm hl hf hc
  have hz := Part.zeroCrossing_counting hg hm hl hf hc
  have hw := Power.closesWindow_iff hg hc
  refine ⟨fun hn => ⟨?_, ?_⟩, fun h99 c hcmd => ?_⟩
  · exact next_settled (hz.trans (if_neg hn))
  · show Host.Outcome.next (if s.part.power.closesWindow gap then _ else s) = _
    rw [if_neg (hw.not.2 hn)]
  · have hb : s.part.zeroCrossing gap = s.part.windowBoundary := hz.trans (if_pos h99)
    have hexec : exec c s = .next (s.settled s.part.windowBoundary) := by
      rcases hcmd with rfl | rfl
      · exact next_settled hb
      · show Host.Outcome.next (if s.part.power.closesWindow gap then _ else s) = _
        rw [if_pos (hw.2 h99)]
        exact next_settled hb
    obtain ⟨hring, hloss, hcrossing, hcounting, hfreq, hlatch, hcount, hstall, hfault⟩ := s.part.windowBoundary_leaves
    have hfixed := State.settled_fixed (s := s) (p := s.part.windowBoundary) (by rw [hring]; exact hdue)
    refine ⟨hexec.trans (by rw [Part.windowBoundary_eq]; rfl), _, hexec, ?_⟩
    have keeps (α : Type) (f : Fixed → α) := congrArg f hfixed
    exact ⟨(keeps _ Fixed.crossing).trans hcrossing, (keeps _ Fixed.counting).trans (hcounting.trans hc),
      (keeps _ Fixed.tachLatch).trans hlatch, (keeps _ Fixed.tachCount).trans hcount,
      (keeps _ Fixed.stallCount).trans hstall,
      fun h3 hn => (congrArg (hasFault · .fanStall) (keeps _ Fixed.faults)).trans (hfault h3 hn),
      (keeps _ Fixed.freq).trans hfreq, (keeps _ Fixed.mainsLoss).trans (hloss.trans hl)⟩

end Sys2Proof.Machine
end

section
/-! SUPPORT. Standby (R142, R143), the wake from it (R60, R139), and a part at rest, which the reactions leave alone. -/

namespace Sys2Proof.Machine

/-! ### The wake (R22, R60, R139) -/

/-- R139: outside STANDBY there is nothing to wake. -/
theorem Part.wake_of_ne {p : Part} (h : p.mode.mode ≠ .standby) : p.wake = p := if_neg h

/-- R22, R60, R139, R160: what a wake leaves. -/
theorem Part.wake_of_standby {p : Part} (h : p.mode.mode = .standby) : p.wake = { p with
    mode.mode := .active
    mode.wakeWindow := true
    ring.imageValid := false
    ring.eligible := false
    ring.startAtOnce := true
    climate := p.climate.wake
    report.timer := if p.store.num 19 = 0 then .stopped else .running (p.store.num 19) } := by
  rw [Part.wake, if_pos h, Part.setMode]
  simp only [h]
  rfl

/-- R139: at a scan completion in STANDBY a door-open change wakes the part. -/
theorem Part.scanMode_standby {p : Part} (h : p.mode.mode = .standby) (d : DoorChange) :
    p.scanMode d = if d = .opened then p.wake else p := if_pos h

/-! ### Entry to STANDBY (R142, R143) -/

/-- R142: the three conditions of a pending standby. -/
theorem Part.standbyReady_iff (p : Part) : p.standbyReady = true ↔
    p.climate.state = .off ∧ p.boiler.state = .empty ∧ p.store.queue = [] := by
  simp [Part.standbyReady, and_assoc]

/-- R142: a pending standby whose conditions hold is entered. -/
theorem Part.followStandby_ready {p : Part} (h : p.mode.mode = .standbyPending)
    (hr : p.climate.state = .off ∧ p.boiler.state = .empty ∧ p.store.queue = []) : p.followStandby = p.enterStandby := by
  rw [Part.followStandby, if_pos h, if_pos (p.standbyReady_iff.2 hr)]

/-- R142: a pending standby drains a READY boiler, and else waits. -/
theorem Part.followStandby_waiting {p : Part} (h : p.mode.mode = .standbyPending)
    (hr : ¬(p.climate.state = .off ∧ p.boiler.state = .empty ∧ p.store.queue = [])) :
    p.followStandby = if p.boiler.state = .ready ∧ p.boiler.owner = .none then p.startDrain .normal .none else p := by
  rw [Part.followStandby, if_pos h, if_neg (p.standbyReady_iff.not.2 hr)]

theorem Part.followStandby_of_ne {p : Part} (h : p.mode.mode ≠ .standbyPending) : p.followStandby = p := if_neg h

/-- R37: a closed relay opens, and the boiler's grant goes with it. -/
theorem Part.withdrawBoiler_closed {p : Part} (h : p.power.relay = true) : p.withdrawBoiler =
    { p with power := { p.power with relay := false, onDwell := 0, offDwell := 0, grants.boiler := 0 } } := by
  simp [Part.withdrawBoiler, Power.openRelay, h]

/-- R37: an open relay has nothing to withdraw. -/
theorem Part.withdrawBoiler_open {p : Part} (h : p.power.relay = false) : p.withdrawBoiler = p := by
  simp [Part.withdrawBoiler, h]

/-- R16: a vent drive that is stopped touches the vent alone. -/
theorem Part.stopVentDrive_eq (p : Part) : p.stopVentDrive = { p with
    climate.ventDrive := none
    climate.ventRedrive := p.climate.ventDrive.isSome || p.climate.ventRedrive } := by
  unfold Part.stopVentDrive
  split
  · next h => simp [h]
  · next h =>
    have hn : p.climate.ventDrive = none := by simpa using h
    simp only [hn, Option.isSome_none, Bool.false_or]
    rw [← hn]

/-- R160: STANDBY stops the report timer and drops a pending report. -/
theorem Part.setMode_standby (p : Part) :
    p.setMode .standby = { p with mode.mode := .standby, report.timer := .stopped, report.pending := false } := rfl

/-- R143: entry to STANDBY, block by block. -/
theorem Part.enterStandby_eq (p : Part) : p.enterStandby = { p with
    mode.mode := .standby
    report.timer := .stopped
    report.pending := false
    climate.ventDrive := none
    climate.ventRedrive := p.climate.ventDrive.isSome || p.climate.ventRedrive
    power := p.withdrawCavity.withdrawBoiler.power } := by
  rw [Part.enterStandby, Part.setMode_standby, Part.stopVentDrive_eq]
  cases h : p.power.relay
  · rw [Part.withdrawBoiler_open (p := p.withdrawCavity) h]
    rfl
  · rw [Part.withdrawBoiler_closed (p := p.withdrawCavity) h]
    rfl

/-- R143: what entry to STANDBY leaves in the allocator. -/
theorem Part.enterStandby_power (p : Part) :
    let w := p.enterStandby.power
    w.withdrawn = true ∧ w.grants.watts = .all 0 ∧ w.relay = false
      ∧ (p.power.relay = true → w.grants.boiler = 0 ∧ w.onDwell = 0 ∧ w.offDwell = 0) := by
  rw [Part.enterStandby_eq]
  cases h : p.power.relay
  · rw [Part.withdrawBoiler_open (p := p.withdrawCavity) h]
    exact ⟨rfl, rfl, h, fun k => absurd k (by decide)⟩
  · rw [Part.withdrawBoiler_closed (p := p.withdrawCavity) h]
    exact ⟨rfl, rfl, rfl, fun _ => ⟨rfl, rfl, rfl⟩⟩

/-! ### A part at rest -/

/-- What decides whether the part is at rest, with its mode and its report timer. -/
structure RestView where
  climate : ClimateState
  boiler : BoilerState
  owner : Owner
  descale : Descale
  program : Program
  store : Store
  mode : ModeControl
  report : Report

/-- The rest view of a part. -/
def Part.restView (p : Part) : RestView where
  climate := p.climate.state
  boiler := p.boiler.state
  owner := p.boiler.owner
  descale := p.descale
  program := p.program
  store := p.store
  mode := p.mode
  report := p.report

theorem Part.restView_mode (p : Part) : p.restView.mode = p.mode := rfl
theorem Part.restView_report (p : Part) : p.restView.report = p.report := rfl

/-- The climate is OFF, the boiler EMPTY without an owner, no procedure and no program is in hand, and no write waits. -/
structure RestView.AtRest (v : RestView) : Prop where
  climate : v.climate = .off
  boiler : v.boiler = .empty
  owner : v.owner = .none
  phase : v.descale.phase = .idle
  program : v.program.state.runs = false
  queue : v.store.queue = []
  record : v.store.served 16 = .descale v.descale.record

/-- The part is at rest, and `v` is what it shows. -/
def Part.Rests (p : Part) (v : RestView) : Prop := p.restView = v ∧ v.AtRest

section
variable {p q : Part} {v : RestView}

/-- A change outside the rest view. -/
theorem Part.Rests.leaf (h : p.Rests v) (hq : q.restView = p.restView) : q.Rests v := ⟨hq.trans h.1, h.2⟩

theorem Part.Rests.climate (h : p.Rests v) : p.climate.state = .off := (congrArg RestView.climate h.1).trans h.2.climate
theorem Part.Rests.boiler (h : p.Rests v) : p.boiler.state = .empty := (congrArg RestView.boiler h.1).trans h.2.boiler
theorem Part.Rests.owner (h : p.Rests v) : p.boiler.owner = .none := (congrArg RestView.owner h.1).trans h.2.owner
theorem Part.Rests.phase (h : p.Rests v) : p.descale.phase = .idle :=
  (congrArg (fun w => w.descale.phase) h.1).trans h.2.phase
theorem Part.Rests.program (h : p.Rests v) : p.program.state.runs = false :=
  (congrArg (fun w => w.program.state.runs) h.1).trans h.2.program
theorem Part.Rests.queue (h : p.Rests v) : p.store.queue = [] := (congrArg (fun w => w.store.queue) h.1).trans h.2.queue
theorem Part.Rests.record (h : p.Rests v) : p.store.served 16 = .descale p.descale.record := by
  have hr := h.2.record
  rw [← h.1] at hr
  exact hr

@[simp] theorem Part.setVent_restView (p : Part) (t : VentTarget) : (p.setVent t).restView = p.restView := by
  simp [Part.restView]

theorem Part.Rests.followSteamWanted (h : p.Rests v) : p.followSteamWanted.Rests v := by
  have hvent (q : Part) (hq : q.restView = p.restView) :
      (if q.scale.lock then q.ventTest else q).restView = p.restView := by
    split
    · exact (Part.setVent_restView _ _).trans hq
    · exact hq
  exact h.leaf (hvent _ (by split <;> rfl))

theorem Part.Rests.followGiveUp (h : p.Rests v) : p.followGiveUp.Rests v := by
  rwa [Part.followGiveUp, if_neg (by simp [h.phase])]

theorem Part.Rests.followOwner (h : p.Rests v) : p.followOwner.Rests v := by
  rwa [Part.followOwner, if_pos (by simp [Part.ownerWanted, h.owner, Climate.usesSteam, h.climate, ClimateState.cooking])]

theorem Part.Rests.followSuspension (h : p.Rests v) : p.followSuspension.Rests v := h.leaf rfl

theorem Part.Rests.followSteaming (h : p.Rests v) : p.followSteaming.Rests v := by
  simpa [Part.followSteaming, h.boiler] using h

theorem Part.Rests.followWaiting (h : p.Rests v) : p.followWaiting.Rests v := by
  rwa [Part.followWaiting, if_neg (by simp [h.owner])]

theorem Part.Rests.followLull (h : p.Rests v) : p.followLull.Rests v := by
  refine h.leaf ?_
  unfold Part.followLull
  repeat' split
  all_goals rfl

theorem Part.Rests.tellExecutor (h : p.Rests v) (how : Settlement) : p.tellExecutor how = p := by
  have hb : p.program.state ≠ .boundaryWait := fun k => by simpa [k, ProgramState.runs] using h.program
  have hp : p.program.state ≠ .paused := fun k => by simpa [k, ProgramState.runs] using h.program
  simp [Part.tellExecutor, hb, Program.pausedAtBoundary, hp]

theorem Part.Rests.settleBlowdown (h : p.Rests v) (how : Settlement) : (p.settleBlowdown how).Rests v := by
  unfold Part.settleBlowdown
  split
  · have ht : Part.Rests { p with scale.inHand := false } v := h.leaf rfl
    rwa [ht.tellExecutor]
  · exact h

theorem Part.Rests.withdrawRequest (h : p.Rests v) : p.withdrawRequest.Rests v := by
  unfold Part.withdrawRequest
  split
  · exact (h.leaf (q := { p with boiler.waiting := false }) rfl).settleBlowdown _
  · exact h

theorem Part.Rests.testSituations (h : p.Rests v) : p.testSituations.Rests v := by
  rwa [Part.testSituations, if_neg (by simp [Part.lullSituation, Part.forcedSituation, h.owner])]

theorem Part.Rests.followDemand (h : p.Rests v) : p.followDemand.Rests v := by
  simpa [Part.followDemand, h.boiler, h.owner] using h

theorem Part.Rests.followBoiler (h : p.Rests v) : p.followBoiler.Rests v := h.leaf rfl

theorem Part.Rests.giveHeld (h : p.Rests v) : p.giveHeld.Rests v := by
  rwa [Part.giveHeld, if_neg (by simp [h.owner])]

theorem Part.Rests.followDegraded (h : p.Rests v) : p.followDegraded.Rests v := by
  have hg := h.program
  unfold Part.followDegraded
  split
  case h_4 => exact h
  all_goals simp_all [ProgramState.runs]

theorem Part.Rests.storeDescale (h : p.Rests v) : p.storeDescale.Rests v := by
  rwa [Part.storeDescale, if_pos h.record]

/-- A round of the reactions changes no more of a part at rest than its pending standby. -/
theorem Part.Rests.reactOnce (h : p.Rests v) : ∃ q : Part, q.Rests v ∧ p.reactOnce = q.followStandby :=
  ⟨_, h.followSteamWanted.followGiveUp.followOwner.followSuspension.followSteaming.followWaiting.followLull
    |>.withdrawRequest.testSituations.followDemand.followBoiler.giveHeld.followDegraded.storeDescale, rfl⟩

/-- The reactions leave a part at rest in STANDBY as it is. -/
theorem Part.Rests.react_standby (hm : v.mode.mode = .standby) :
    ∀ (n : Nat) {p : Part}, p.Rests v → (p.react n).Rests v
  | 0, _, h => h
  | n + 1, p, h => by
    obtain ⟨q, hq, hr⟩ := h.reactOnce
    have hqm : q.mode.mode ≠ .standbyPending := by
      rw [show q.mode = v.mode from congrArg RestView.mode hq.1, hm]
      decide
    rw [Part.react, hr, Part.followStandby_of_ne hqm]
    exact react_standby hm n hq

/-- R142, R143: a part at rest whose standby is pending is in STANDBY after the reactions, with the report timer stopped. -/
theorem Part.Rests.settle_pending (h : p.Rests v) (hm : v.mode.mode = .standbyPending) :
    p.settle.mode.mode = .standby ∧ p.settle.report.timer = .stopped := by
  obtain ⟨q, hq, hr⟩ := h.reactOnce
  have hqm : q.mode.mode = .standbyPending := by
    rw [show q.mode = v.mode from congrArg RestView.mode hq.1, hm]
  have he : p.reactOnce = q.enterStandby := by
    rw [hr, Part.followStandby_ready hqm ⟨hq.climate, hq.boiler, hq.queue⟩]
  have hrest : p.reactOnce.Rests p.reactOnce.restView := by
    rw [he, Part.enterStandby_eq]
    exact ⟨rfl, hq.climate, hq.boiler, hq.owner, hq.phase, hq.program, hq.queue, hq.record⟩
  have hv : p.reactOnce.restView.mode.mode = .standby ∧ p.reactOnce.restView.report.timer = .stopped := by
    rw [he, Part.enterStandby_eq]
    exact ⟨rfl, rfl⟩
  have hs := (Part.Rests.react_standby hv.1 4 hrest).1
  have hround : p.settle = p.reactOnce.react 4 := rfl
  rw [← hround] at hs
  rw [← Part.restView_mode, ← Part.restView_report, hs]
  exact hv

end

end Sys2Proof.Machine
end

section
/-! SUPPORT. The bytes of a frame into a receiver in HUNT (R152 to R155), and what wakes the part (R139). -/

namespace Sys2Proof.Machine

/-! ### A frame, byte by byte -/

/-- The part with its receiver in a state. -/
def State.receiving (s : State) (r : Receiver) : State := { s with link.receiver := r }

@[simp] theorem State.receiving_resetWait (s : State) (r : Receiver) :
    (s.receiving r).link.resetWait = s.link.resetWait := rfl
@[simp] theorem State.receiving_receiver (s : State) (r : Receiver) : (s.receiving r).link.receiver = r := rfl
@[simp] theorem State.receiving_receiving (s : State) (r t : Receiver) :
    (s.receiving r).receiving t = s.receiving t := rfl
theorem State.receiving_self {s : State} {r : Receiver} (h : s.link.receiver = r) : s.receiving r = s := by
  subst h; rfl

/-- R153: a byte with a good stop bit reaches the receiver. -/
theorem State.feed_cons (s : State) (b : Byte) (rest : List Byte) : s.feed (b :: rest) = (s.receive b true).feed rest := rfl

/-- R153: the bytes after the length byte are complete when kind, payload and check have come. -/
theorem frameComplete_iff (len : Byte) (got : List Byte) :
    frameComplete (len :: got) = true ↔ got.length = len.toNat + 3 := by
  simp [frameComplete]

/-- R153: a byte with a good stop bit in ASSEMBLE. -/
theorem State.receive_assemble {s : State} {got : List Byte} (b : Byte) (hw : s.link.resetWait = false)
    (hr : s.link.receiver = .assemble got) : s.receive b true =
      if got = [] ∧ 120 < b.toNat then { s with link := s.link.framingError }
      else if frameComplete (got ++ [b]) then State.judgeFrame (s.receiving .hunt) (got ++ [b])
      else s.receiving (.assemble (got ++ [b])) := by
  rw [State.receive, if_neg (by simp [hw])]
  simp only [hr]
  rfl

/-- R153: a byte that leaves the frame incomplete is added to it. -/
theorem State.receive_more {s : State} {len : Byte} {got : List Byte} (b : Byte) (hw : s.link.resetWait = false)
    (hr : s.link.receiver = .assemble (len :: got)) (hl : got.length + 1 < len.toNat + 3) :
    s.receive b true = s.receiving (.assemble (len :: (got ++ [b]))) := by
  have hc : ¬frameComplete (len :: (got ++ [b])) = true := by
    rw [frameComplete_iff, List.length_append, List.length_singleton]
    omega
  rw [State.receive_assemble b hw hr, if_neg (by simp), List.cons_append, if_neg hc]

/-- R154: the byte that completes a frame has it judged. -/
theorem State.receive_last {s : State} {len : Byte} {got : List Byte} (b : Byte) (hw : s.link.resetWait = false)
    (hr : s.link.receiver = .assemble (len :: got)) (hl : got.length + 1 = len.toNat + 3) :
    s.receive b true = State.judgeFrame (s.receiving .hunt) (len :: (got ++ [b])) := by
  have hc : frameComplete (len :: (got ++ [b])) = true := by
    rw [frameComplete_iff, List.length_append, List.length_singleton]
    omega
  rw [State.receive_assemble b hw hr, if_neg (by simp), List.cons_append, if_pos hc]

/-- R153, R154: after the length byte, the bytes that complete a frame have it judged. -/
theorem State.feed_assemble {len : Byte} : ∀ (todo got : List Byte) (s : State), s.link.resetWait = false →
    s.link.receiver = .assemble (len :: got) → todo ≠ [] → (got ++ todo).length = len.toNat + 3 →
    s.feed todo = .next (State.judgeFrame (s.receiving .hunt) (len :: (got ++ todo)))
  | [], _, _, _, _, h, _ => absurd rfl h
  | [b], got, s, hw, hr, _, hl => by
    rw [State.feed_cons, State.receive_last b hw hr (by simpa using hl)]
    rfl
  | b :: c :: rest, got, s, hw, hr, _, hl => by
    have hlen : got.length + 1 < len.toNat + 3 := by
      simp only [List.length_append, List.length_cons] at hl
      omega
    rw [State.feed_cons, State.receive_more b hw hr hlen,
      State.feed_assemble (c :: rest) (got ++ [b]) (s.receiving (.assemble _)) hw rfl (by simp) (by simpa using hl)]
    simp

/-- R154: a complete frame whose check is right is offered to the receive queue. -/
theorem State.judgeFrame_intact (s : State) (f : Frame) (h : f.payload.length ≤ 120) :
    s.judgeFrame (byteOf f.payload.length :: f.kind :: (f.payload ++ halfBytes f.check)) = s.offer f := by
  have hlen : (byteOf f.payload.length).toNat = f.payload.length := by
    rw [byteOf, BitVec.toNat_ofNat]
    omega
  simp [State.judgeFrame, hlen, Frame.check]

/-- R152 to R155: the bytes of an intact frame into a receiver in HUNT offer that frame to the receive queue. -/
theorem State.feed_frame {s : State} (hw : s.link.resetWait = false) (hr : s.link.receiver = .hunt) (f : Frame)
    (h : f.payload.length ≤ 120) : s.feed f.bytes = .next (s.offer f) := by
  have hlen : (byteOf f.payload.length).toNat = f.payload.length := by
    rw [byteOf, BitVec.toNat_ofNat]
    omega
  have hstart : s.receive 0xA5 true = s.receiving (.assemble []) := by simp [State.receive, hw, hr, State.receiving]
  have hlength : (s.receiving (.assemble [])).receive (byteOf f.payload.length) true
      = s.receiving (.assemble [byteOf f.payload.length]) := by
    rw [State.receive_assemble (s := s.receiving (.assemble [])) _ hw rfl, if_neg (by simp [hlen, h]), if_neg (by simp [frameComplete])]
    rfl
  rw [Frame.bytes, frameBytes, State.feed_cons, State.feed_cons, hstart, hlength,
    State.feed_assemble _ [] (s.receiving (.assemble _)) hw rfl (by simp) (by simp [hlen, halfBytes])]
  rw [State.receiving_receiving, State.receiving_self hr, List.nil_append, State.judgeFrame_intact s f h]

/-! ### What wakes the part (R139, R155, R156) -/

/-- R139: in STANDBY a frame wakes the part. -/
theorem State.woken_standby {s : State} (h : s.part.mode.mode = .standby) : s.woken = s.onBlocks Part.wake := if_pos h

/-- R139, R155: a frame that finds a place in the receive queue wakes the part. -/
theorem State.offer_standby {s : State} (hm : s.part.mode.mode = .standby) (hq : s.link.queue.length < 4) (f : Frame) :
    s.offer f = State.onBlocks { s with link.queue := s.link.queue ++ [f] } Part.wake := by
  rw [State.offer, if_pos hq]
  exact State.woken_standby hm

/-- R155: a frame that finds none is dropped and counted. -/
theorem State.offer_full {s : State} (hq : 4 ≤ s.link.queue.length) (f : Frame) :
    s.offer f = { s with link.overruns := min 255 (s.link.overruns + 1) } := by
  rw [State.offer, if_neg (Nat.not_lt.2 hq), bump_eq]

/-- R139, R156: in STANDBY the frame taken from the queue wakes the part and is then settled. -/
theorem exec_requestTake_standby {s : State} {f : Frame} {rest : List Frame} (hm : s.part.mode.mode = .standby)
    (hq : s.link.queue = f :: rest) (hh : s.link.inHand = none) (hr : s.link.reply = none)
    (hw : s.link.resetWait = false) :
    exec .requestTake s = .next
      (let awake := State.onBlocks { s with link.inHand := some f, link.queue := rest } Part.wake
       let r := awake.answer f
       { r.1 with link := r.1.link.sendReply (replyFrame f.kind r.2) }) := by
  have hc : s.link.canTake = true := by simp [Link.canTake, hh, hr, hw]
  have ht : s.take = s.handle f rest := by simp [State.take, hq, hc]
  have hs : State.woken { s with link.inHand := some f, link.queue := rest }
      = State.onBlocks { s with link.inHand := some f, link.queue := rest } Part.wake := State.woken_standby hm
  show Host.Outcome.next s.take = _
  rw [ht, State.handle, hs]

/-- R142: the checks of STANDBY_ENTER pass for a part at rest. -/
theorem Part.standbyEnter_accepted {p : Part} (hc : p.climate.state = .off) (hb : p.boiler.state = .empty)
    (hd : p.descale.phase = .idle) (hg : p.program.state.runs = false) :
    p.standbyEnter = (p.setMode .standbyPending, ⟨.ok, []⟩) := by
  simp [Part.standbyEnter, Part.standbyRefusal, hc, hb, hd, hg, ClimateState.cooking, Reply.bare]

/-- R138: STANDBY_ENTER is admitted in ACTIVE. -/
theorem admits_standbyEnter {s : State} (h : s.part.mode.mode = .active) : s.admits .standbyEnter := by
  simp [State.admits, admission, h, requestKind, waitsForImage]

/-- R142, R143: STANDBY_ENTER on a part at rest ends in STANDBY. -/
theorem exec_standbyEnter_rests {s : State} (hl : s.listening) (hn : s.noScanDue) (hm : s.part.mode.mode = .active)
    (h : s.part.restView.AtRest) : ∃ t, exec .standbyEnter s = .next t ∧ t.part.mode.mode = .standby
      ∧ t.part.report.timer = .stopped ∧ t.link = (s.replied .standbyEnter ⟨.ok, []⟩).link := by
  have he := exec_carried (q := .standbyEnter) (p := s.part.setMode .standbyPending) hl (admits_standbyEnter hm)
    (congrArg (s.taken .standbyEnter).acting
      (Part.standbyEnter_accepted h.climate h.boiler h.phase h.program)) rfl
  have hset : s.part.setMode .standbyPending = { s.part with mode.mode := .standbyPending } := by
    simp [Part.setMode, hm, OpMode.reports]
  have hrest : (s.part.setMode .standbyPending).Rests (s.part.setMode .standbyPending).restView := by
    rw [hset]
    exact ⟨rfl, h.climate, h.boiler, h.owner, h.phase, h.program, h.queue, h.record⟩
  obtain ⟨hmode, htimer⟩ := hrest.settle_pending (by rw [hset]; rfl)
  have hadvance : Part.advance 3 (s.part.setMode .standbyPending).settle = (s.part.setMode .standbyPending).settle := by
    refine Part.advance_of_not_due 3 _ ?_
    rw [(Part.settle_keeps (Part.Keeps.refl _)).ring, hset]
    exact hn
  refine ⟨_, he, ?_⟩
  rw [State.carried_part, hadvance]
  exact ⟨hmode, htimer, rfl⟩

/-- Settles O8: a wake and an entry to STANDBY are said block by block, and STANDBY_ENTER enters it because the reactions
leave a part at rest alone. -/
theorem wakeFromStandby : Obligations.WakeFromStandby := by
  refine ⟨fun p => ⟨Part.wake_of_ne, fun h => ?_, Part.scanMode_standby, fun h => ⟨fun hold => ?_, fun hb ho => ?_,
    fun hold hd => ?_⟩⟩, fun s => ⟨fun hl hn hm hc hb ho hd hg hq hr => ?_, fun hm => ⟨State.offer_standby hm,
    State.offer_full, fun hw hr hq f hf => ?_, fun f rest hq hh hr hw => exec_requestTake_standby hm hq hh hr hw⟩⟩⟩
  · rw [Part.wake_of_standby h]
    exact ⟨rfl, rfl, rfl, rfl, rfl, rfl, rfl, rfl, rfl, rfl, rfl, rfl, rfl, rfl, rfl, rfl, rfl, rfl, rfl⟩
  · obtain ⟨hw, hwatts, hrelay, hboiler⟩ := p.enterStandby_power
    rw [Part.followStandby_ready h hold]
    refine ⟨?_, hw, hwatts, hrelay, hboiler, ?_⟩ <;> rw [Part.enterStandby_eq]
    exact ⟨rfl, hold.1, rfl, rfl, rfl, rfl, rfl, rfl, rfl⟩
  · rw [Part.followStandby_waiting h (by simp [hb]), if_pos ⟨hb, ho⟩]
  · rw [Part.followStandby_waiting h hold, if_neg hd]
  · exact exec_standbyEnter_rests hl hn hm
      ⟨hc, hb, ho, hd, by rw [← Bool.not_eq_true, ProgramState.runs_iff]; exact hg, hq, hr⟩
  · rw [State.feed_frame hw hr f hf, State.offer_standby hm hq]

end Sys2Proof.Machine
end

section
/-! SUPPORT. The climate period (R8, R11 to R13, R21): what an expiry leaves, whichever rule gives its demand. -/

namespace Sys2Proof.Machine

/-! ### Setpoint, raise test and split -/

/-- R13: the delta value is the core reading plus the delta, at most the setpoint and at least 30.0 °C. -/
theorem deltaValue_eq (cap core delta : Int) : deltaValue cap core delta = max 300 (min cap (core + delta)) := by
  unfold deltaValue
  dsimp only
  repeat' split
  all_goals omega

/-- R8: a setpoint in force has risen where there was one before and it is more than 20.0 °C below. -/
theorem raised_iff (before : Option Int) (after : Int) :
    raised before after = true ↔ ∃ b, before = some b ∧ b + 200 < after := by
  cases before <;> simp [raised]

/-- R11 step 6: an element's demand is its share, at most its rating. -/
theorem splitDemand_eq (r : PerElement Nat) (m : HeatMode) (d : Int) :
    splitDemand r m d = .of (fun e => min (r.get e) (d.toNat * modeShare m e / 100)) := by
  simp [splitDemand, clampNat_eq]

/-- No demand gives every element 0. -/
theorem splitDemand_zero (r : PerElement Nat) (m : HeatMode) : splitDemand r m 0 = .all 0 := by
  simp [splitDemand_eq]
  rfl

/-- R7, R8: the handover value. -/
theorem handover_eq (g : Nat) (ts : Int) : handover g ts = max 0 (min (g : Int) (g * ts / 5000)) :=
  clampInt_eq _ _ _ (Int.natCast_nonneg g)

/-- R11, R21: with the mains present the demand is held at 0 for a fan mode while FAN_STALL is latched. -/
theorem Part.demandHeld_iff {p : Part} (h : p.mode.mainsLoss = false) (m : HeatMode) : p.demandHeld m = true ↔
    hasFault p.mode.faults .fanStall = true ∧ m ∈ [.hotAir, .hotAirBottom, .grillFan, .steam, .combi] := by
  simp only [Part.demandHeld, h, Bool.false_or, Bool.and_eq_true, HeatMode.fanMode_iff]

/-! ### The blocks in the course of an expiry -/

/-- R11: the blocks in the course of an expiry: the ratings read, the setpoint in force, and the state and the integral so
far. -/
def Part.inPeriod (p : Part) (ts : Int) (st : ClimateState) (i : Int) : Part := { p.readRatings with
  climate.ts := some ts, climate.tsExpiry := some ts, climate.state := st, climate.integral := i }

/-- R11: the blocks after an expiry in a mode, with the state, the integral and the demand that it leaves. -/
def Part.expired (p : Part) (m : HeatMode) (ts : Int) (st : ClimateState) (i d : Int) : Part := { p with
  climate := { p.climate with
    ts := some ts, tsExpiry := some ts, ratings := p.store.ratings, state := st, integral := i, given := d, demand := d }
  power.demands := .of (fun e => min (p.store.rating e) (d.toNat * modeShare m e / 100)) }

theorem Part.split_ratings (p : Part) (m : HeatMode) (d : Int) : splitDemand p.store.ratings m d
    = .of (fun e => min (p.store.rating e) (d.toNat * modeShare m e / 100)) := by
  rw [splitDemand_eq, Store.ratings]
  simp only [PerElement.get_of]

/-- R11: an expiry that writes a demand. -/
theorem Part.inPeriod_giveDemand (p : Part) (ts : Int) (st : ClimateState) (i : Int) (m : HeatMode) (d : Int) :
    ((p.inPeriod ts st i).giveDemand m d).keepDemand = p.expired m ts st i (if p.demandHeld m then 0 else d) := by
  rw [Part.expired, ← Part.split_ratings]
  rfl

/-- R11: an expiry that writes none. -/
theorem Part.inPeriod_noDemand (p : Part) (ts : Int) (st : ClimateState) (i : Int) (m : HeatMode) :
    (p.inPeriod ts st i).noDemand.keepDemand = p.expired m ts st i 0 := by
  rw [Part.expired, ← Part.split_ratings, splitDemand_zero]
  rfl

section
variable {p : Part} {c : ClimateParams} {ts : Int} (hc : p.climate.params = some c)
  (hts : tsAtExpiry p.ring.image c p.climate.ts = ts)
include hc hts

/-- R8, R11: an expiry with the mains present. -/
theorem Part.climatePeriod_eq (hm : p.mode.mainsLoss = false) :
    p.climatePeriod = (((p.inPeriod ts p.climate.state p.climate.integral).raiseReturn
      (raised p.climate.tsExpiry ts)).periodDemand c ts).keepDemand := by
  subst hts
  simp only [Part.climatePeriod, hc, hm]
  rfl

/-- R11, R21: an expiry during mains loss. -/
theorem Part.climatePeriod_mainsLoss (hm : p.mode.mainsLoss = true) :
    p.climatePeriod = { p with
      climate := { p.climate with
        ts := some ts, ratings := p.store.ratings, integral := 0, given := 0, demand := 0 }
      power.demands := .all 0 } := by
  subst hts
  unfold Part.climatePeriod
  split
  · next h => exact absurd (hc.symm.trans h) (by simp)
  · next d h =>
    cases hc.symm.trans h
    exact if_pos hm

end

/-! ### The indication (R7, R8, R124) -/

/-- The indication reads and writes nothing of the regulator. -/
theorem Part.cavityReached_keepDemand (p : Part) : p.cavityReached.keepDemand = p.keepDemand.cavityReached := by
  have hgate (q : Part) : q.passGate.keepDemand = q.keepDemand.passGate := by
    unfold Part.passGate
    rw [Part.keepDemand_program]
    repeat' split
    all_goals rfl
  have htell (q : Part) : q.tellReached.keepDemand = q.keepDemand.tellReached := by
    unfold Part.tellReached
    rw [Part.keepDemand_program]
    dsimp only
    repeat' split
    all_goals first | rfl | exact hgate _
  exact htell _

/-- R7, R8: the indication raises PREHEAT_REACHED. -/
theorem Part.cavityReached_pending (p : Part) :
    p.cavityReached.notice.pending.getLsbD (noticePosition .preheatReached) = true :=
  (Part.tellReached_keeps (Part.Keeps.refl (p.raiseNotice .preheatReached))).adds.pending _
    (NoticeUnit.raise_self p.notice .preheatReached)

/-! ### Regulation (R11, R12) -/

/-- R12: the integral is frozen in a period with the error `e` and the proportional term `prop`. -/
def Part.FrozenAt (p : Part) (m : HeatMode) (e prop i : Int) : Prop :=
  (hasFault p.mode.faults .fanStall = true ∧ m ∈ [.hotAir, .hotAirBottom, .grillFan, .steam, .combi])
    ∨ (p.climate.grantFresh = true ∧ ∃ x ∈ modeGroup m, p.power.grants.curtailed.get x.1 = true)
    ∨ (0 < e ∧ (p.store.groupMax m : Int) ≤ prop + i) ∨ (e < 0 ∧ prop + i ≤ 0)

/-- R11 steps 2 to 6: the integral and the demand that a period in REGULATE leaves. -/
def Part.RegulatesTo (p : Part) (m : HeatMode) (ts tc i kept d : Int) : Prop :=
  let g : Int := p.store.groupMax m
  let e := max (-1000) (min 1000 (ts - tc))
  let prop := ((p.store.num 10 : Int) * e).tdiv 10
  let stalled := hasFault p.mode.faults .fanStall = true ∧ m ∈ [.hotAir, .hotAirBottom, .grillFan, .steam, .combi]
  (p.FrozenAt m e prop i → kept = max 0 (min g i))
    ∧ (¬p.FrozenAt m e prop i → kept = max 0 (min g (i + ((p.store.num 11 : Int) * e).tdiv 160)))
    ∧ (stalled → d = 0) ∧ (¬stalled → d = max 0 (min g (prop + kept)))

theorem Part.inPeriod_frozen_iff (p : Part) (ts : Int) (st : ClimateState) (j : Int) (m : HeatMode) (e prop i : Int) :
    (p.inPeriod ts st j).frozen m e (prop + i) = true ↔ p.FrozenAt m e prop i := by
  simp only [Part.frozen, Part.FrozenAt, Part.groupCurtailed, Bool.or_eq_true, Bool.and_eq_true, decide_eq_true_eq,
    List.any_eq_true, HeatMode.fanMode_iff, or_assoc]
  rfl

/-- R11: an expiry in REGULATE with the cavity temperature valid. -/
theorem Part.inPeriod_regulate {p : Part} {c : ClimateParams} {ts tc i kept d : Int} (st : ClimateState)
    (hm : p.mode.mainsLoss = false) (h : p.RegulatesTo c.mode ts tc i kept d) :
    ((p.inPeriod ts st i).regulate c ts tc).keepDemand = p.expired c.mode ts st kept d := by
  obtain ⟨hfrozen, hmoved, hstalled, hfree⟩ := h
  have hg : (0 : Int) ≤ p.store.groupMax c.mode := Int.natCast_nonneg _
  have hd : d = if p.demandHeld c.mode then 0 else
      clampInt 0 (p.store.groupMax c.mode)
        (((p.store.num 10 : Int) * max (-1000) (min 1000 (ts - tc))).tdiv 10 + kept) := by
    rw [clampInt_eq _ _ _ hg]
    split
    · next hk => exact hstalled ((Part.demandHeld_iff hm _).1 hk)
    · next hk => exact hfree ((Part.demandHeld_iff hm _).not.1 hk)
  have hkept : kept = clampInt 0 (p.store.groupMax c.mode)
      (if (p.inPeriod ts st i).frozen c.mode (max (-1000) (min 1000 (ts - tc)))
          (((p.store.num 10 : Int) * max (-1000) (min 1000 (ts - tc))).tdiv 10 + i) then i
        else i + ((p.store.num 11 : Int) * max (-1000) (min 1000 (ts - tc))).tdiv 160) := by
    rw [clampInt_eq _ _ _ hg]
    split
    · next hk => exact hfrozen ((p.inPeriod_frozen_iff _ _ _ _ _ _ _).1 hk)
    · next hk => exact hmoved ((p.inPeriod_frozen_iff _ _ _ _ _ _ _).not.1 hk)
  rw [hd, ← Part.inPeriod_giveDemand, Part.regulate, clampInt_eq _ _ _ (by decide : (-1000 : Int) ≤ 1000), hkept]
  rfl

/-- R8, R11: an expiry in PREHEAT that finds the cavity warm enough regulates from the handover value and indicates it. -/
theorem Part.inPeriod_preheatExit {p : Part} {c : ClimateParams} {ts tc j kept d : Int} (hm : p.mode.mainsLoss = false)
    (h : p.RegulatesTo c.mode ts tc (max 0 (min (p.store.groupMax c.mode : Int) (p.store.groupMax c.mode * ts / 5000)))
      kept d) :
    ((p.inPeriod ts .preheat j).preheatExit c ts tc).keepDemand = (p.expired c.mode ts .regulate kept d).cavityReached := by
  rw [← handover_eq] at h
  rw [Part.preheatExit, Part.cavityReached_keepDemand, ← Part.inPeriod_regulate .regulate hm h]
  rfl

/-! ### The raise test (R8) -/

/-- R8: a raise in REGULATE goes back to PREHEAT with the integral at 0. -/
theorem Part.raiseReturn_regulate {p : Part} (h : p.climate.state = .regulate) :
    p.raiseReturn true = { p with climate.state := .preheat, climate.integral := 0 } := by
  simp [Part.raiseReturn, h]

/-- R8: in PREHEAT a raise changes nothing. -/
theorem Part.raiseReturn_preheat {p : Part} (h : p.climate.state = .preheat) (rise : Bool) : p.raiseReturn rise = p := by
  cases rise <;> simp [Part.raiseReturn, h]

/-- R8: in DOOR_PAUSE a raise acts on a REGULATE to return to (log entry 16). -/
theorem Part.raiseReturn_doorPause {p : Part} (h : p.climate.state = .doorPause)
    (hr : p.climate.returnTo = some .regulate) : p.raiseReturn true =
      { p with climate.returnTo := some .preheat, climate.integral := 0, climate.reachedOwed := false } := by
  simp [Part.raiseReturn, h, hr]

theorem Part.raiseReturn_doorPause_other {p : Part} {rise : Bool} (h : p.climate.state = .doorPause)
    (hr : ¬(p.climate.returnTo = some .regulate ∧ rise = true)) : p.raiseReturn rise = p := by
  unfold Part.raiseReturn
  cases rise
  · rfl
  · split
    · rfl
    · split <;> simp_all

/-! ### An expiry in each state (R11) -/

@[simp] theorem Part.inPeriod_state (p : Part) (ts : Int) (st : ClimateState) (i : Int) :
    (p.inPeriod ts st i).climate.state = st := rfl
@[simp] theorem Part.inPeriod_ring (p : Part) (ts : Int) (st : ClimateState) (i : Int) :
    (p.inPeriod ts st i).ring = p.ring := rfl
@[simp] theorem Part.inPeriod_groupMax (p : Part) (ts : Int) (st : ClimateState) (i : Int) (m : HeatMode) :
    (p.inPeriod ts st i).climate.groupMax m = p.store.groupMax m := rfl

/-- The demand of an expiry in REGULATE. -/
theorem Part.periodDemand_regulate (p : Part) (c : ClimateParams) (ts i : Int) :
    (∀ tc, p.ring.image.tc = some tc →
      (p.inPeriod ts .regulate i).periodDemand c ts = (p.inPeriod ts .regulate i).regulate c ts tc)
    ∧ (p.ring.image.tc = none → (p.inPeriod ts .regulate i).periodDemand c ts
      = (p.inPeriod ts .regulate (max 0 (min (p.store.groupMax c.mode : Int) i))).noDemand) := by
  refine ⟨fun tc h => by simp [Part.periodDemand, h], fun h => ?_⟩
  rw [← clampInt_eq _ _ _ (Int.natCast_nonneg _)]
  simp [Part.periodDemand, h]
  rfl

/-- The demand of an expiry in PREHEAT. -/
theorem Part.periodDemand_preheat (p : Part) (c : ClimateParams) (ts i : Int) :
    (∀ tc, p.ring.image.tc = some tc → tc < ts - 50 → (p.inPeriod ts .preheat i).periodDemand c ts
      = (p.inPeriod ts .preheat i).giveDemand c.mode (p.store.groupMax c.mode))
    ∧ (∀ tc, p.ring.image.tc = some tc → ts - 50 ≤ tc → (p.inPeriod ts .preheat i).periodDemand c ts
      = (p.inPeriod ts .preheat i).preheatExit c ts tc)
    ∧ (p.ring.image.tc = none → (p.inPeriod ts .preheat i).periodDemand c ts = (p.inPeriod ts .preheat i).noDemand) := by
  refine ⟨fun tc h hk => ?_, fun tc h hk => ?_, fun h => ?_⟩
  · simp [Part.periodDemand, h, Int.not_le.2 hk]
  · simp [Part.periodDemand, h, hk]
  · simp [Part.periodDemand, h]

section
variable {p : Part} {c : ClimateParams} {ts : Int} (hc : p.climate.params = some c)
  (hts : tsAtExpiry p.ring.image c p.climate.ts = ts) (hm : p.mode.mainsLoss = false)
include hc hts hm

/-- R8, R11: in REGULATE without a raise the period is computed in REGULATE. -/
theorem Part.climatePeriod_regulate (hs : p.climate.state = .regulate) (hr : raised p.climate.tsExpiry ts = false) :
    p.climatePeriod = ((p.inPeriod ts .regulate p.climate.integral).periodDemand c ts).keepDemand := by
  rw [Part.climatePeriod_eq hc hts hm, hr, hs]
  rfl

/-- R8, R11: in PREHEAT, and after a raise in REGULATE, it is computed in PREHEAT. -/
theorem Part.climatePeriod_preheat
    (hs : p.climate.state = .preheat ∨ (p.climate.state = .regulate ∧ raised p.climate.tsExpiry ts = true)) :
    p.climatePeriod = ((p.inPeriod ts .preheat (if p.climate.state = .preheat then p.climate.integral else 0)).periodDemand
      c ts).keepDemand := by
  rw [Part.climatePeriod_eq hc hts hm]
  rcases hs with hs | ⟨hs, hr⟩
  · rw [hs, if_pos rfl, Part.raiseReturn_preheat (Part.inPeriod_state _ _ _ _)]
  · rw [hs, hr, if_neg (by decide), Part.raiseReturn_regulate (Part.inPeriod_state _ _ _ _)]
    rfl

/-- R8, R11: in DOOR_PAUSE it gives no demand. -/
theorem Part.climatePeriod_doorPause (hs : p.climate.state = .doorPause)
    (hr : ¬(p.climate.returnTo = some .regulate ∧ raised p.climate.tsExpiry ts = true)) :
    p.climatePeriod = p.expired c.mode ts .doorPause p.climate.integral 0 := by
  rw [Part.climatePeriod_eq hc hts hm, hs, Part.raiseReturn_doorPause_other (Part.inPeriod_state _ _ _ _) hr,
    ← Part.inPeriod_noDemand]
  rfl

/-- R8, R11: in DOOR_PAUSE a raise acts on a REGULATE to return to. -/
theorem Part.climatePeriod_doorPause_raised (hs : p.climate.state = .doorPause)
    (hb : p.climate.returnTo = some .regulate) (hr : raised p.climate.tsExpiry ts = true) :
    p.climatePeriod = { p.expired c.mode ts .doorPause p.climate.integral 0 with
      climate.returnTo := some .preheat, climate.integral := 0, climate.reachedOwed := false } := by
  rw [Part.climatePeriod_eq hc hts hm, hs, hr, Part.raiseReturn_doorPause (Part.inPeriod_state _ _ _ _) hb,
    ← Part.inPeriod_noDemand]
  rfl

end

/-- R11: an expiry of the climate period timer while it runs. -/
theorem exec_climatePeriodExpiry {s : State} {n : Nat} {q : Part} (h : s.part.climate.periodTimer = .running n)
    (hq : s.part.climatePeriod = q) : exec .climatePeriodExpiry s = .next (s.settled q) :=
  next_settled (by rw [Part.climateExpiry, h, hq]; rfl)

/-- R11, R13: the setpoint in force of an expiry, with the delta value written out. -/
theorem tsAtExpiry_eq (img : Image) (c : ClimateParams) (last : Option Int) :
    tsAtExpiry img c last = match c.delta, img.tcore with
      | none, _ => c.setpoint
      | some d, some core => max 300 (min c.setpoint (core + d))
      | some _, none => last.getD 300 := by
  unfold tsAtExpiry
  cases c.delta with
  | none => rfl
  | some d => cases img.tcore with
    | none => rfl
    | some core => exact deltaValue_eq _ _ _

/-- Settles O46: an expiry is the raise test and then the period of the state that it leaves. -/
theorem climatePeriodRegulates : Obligations.ClimatePeriodRegulates := by
  intro s n c htimer hc p ts g rise stalled split expired curtailed regulated
  have hts : tsAtExpiry p.ring.image c p.climate.ts = ts := tsAtExpiry_eq _ _ _
  clear_value ts
  have hstalled (hm : p.mode.mainsLoss = false) (d : Int) : (stalled → (if p.demandHeld c.mode then 0 else d) = 0)
      ∧ (¬stalled → (if p.demandHeld c.mode then 0 else d) = d) :=
    ⟨fun h => if_pos ((Part.demandHeld_iff hm _).2 h), fun h => if_neg ((Part.demandHeld_iff hm _).not.2 h)⟩
  refine ⟨fun hm hs hr => ?_, fun hm hs => ?_, fun hm hs => ?_, fun hm => ?_, Part.cavityReached_pending⟩
  · have hp := Part.climatePeriod_regulate hc hts hm hs (by rwa [← Bool.not_eq_true, raised_iff])
    obtain ⟨hvalid, hinvalid⟩ := p.periodDemand_regulate c _ p.climate.integral
    refine ⟨fun tc kept d htc h => ?_, fun htc => ?_⟩
    · exact exec_climatePeriodExpiry htimer (by rw [hp, hvalid tc htc, Part.inPeriod_regulate .regulate hm h]; rfl)
    · exact exec_climatePeriodExpiry htimer (by rw [hp, hinvalid htc, Part.inPeriod_noDemand p _ _ _ c.mode]; rfl)
  · have hp := Part.climatePeriod_preheat hc hts hm (hs.imp_right fun h => ⟨h.1, (raised_iff _ _).2 h.2⟩)
    obtain ⟨hcold, hwarm, hinvalid⟩ := p.periodDemand_preheat c ts
      (if p.climate.state = .preheat then p.climate.integral else 0)
    refine ⟨fun tc htc hk => ⟨fun h => ?_, fun h => ?_⟩, fun tc kept d htc hk h => ?_, fun htc => ?_⟩
    · refine exec_climatePeriodExpiry htimer ?_
      rw [hp, hcold tc htc hk, Part.inPeriod_giveDemand, (hstalled hm _).1 h]
      rfl
    · refine exec_climatePeriodExpiry htimer ?_
      rw [hp, hcold tc htc hk, Part.inPeriod_giveDemand, (hstalled hm _).2 h]
      rfl
    · exact exec_climatePeriodExpiry htimer (by rw [hp, hwarm tc htc hk, Part.inPeriod_preheatExit hm h]; rfl)
    · exact exec_climatePeriodExpiry htimer (by rw [hp, hinvalid htc, Part.inPeriod_noDemand p _ _ _ c.mode]; rfl)
  · refine ⟨fun h => exec_climatePeriodExpiry htimer (Part.climatePeriod_doorPause hc hts hm hs fun k => h ?_),
      fun h => exec_climatePeriodExpiry htimer
        (Part.climatePeriod_doorPause_raised hc hts hm hs h.1 ((raised_iff _ _).2 h.2))⟩
    exact ⟨k.1, (raised_iff _ _).1 k.2⟩
  · exact exec_climatePeriodExpiry htimer (Part.climatePeriod_mainsLoss hc hts hm)

end Sys2Proof.Machine
end

section
/-! SUPPORT. Parameter writes (R4, R7): what the pulse timer, the steam test and the vent leave of a write, the start of
cooking and a write in a cooking state. -/

namespace Sys2Proof.Machine

/-! ### The indication leaves the regulator alone (R124) -/

@[simp] theorem Part.passGate_climate (p : Part) : p.passGate.climate = p.climate := by
  unfold Part.passGate; repeat' split
  all_goals rfl
@[simp] theorem Part.passGate_power (p : Part) : p.passGate.power = p.power := by
  unfold Part.passGate; repeat' split
  all_goals rfl
@[simp] theorem Part.cavityReached_climate (p : Part) : p.cavityReached.climate = p.climate := by
  unfold Part.cavityReached Part.tellReached; dsimp only; repeat' split
  all_goals simp
@[simp] theorem Part.cavityReached_power (p : Part) : p.cavityReached.power = p.power := by
  unfold Part.cavityReached Part.tellReached; dsimp only; repeat' split
  all_goals simp

/-! ### What follows the demands of a write -/

/-- The part with the steam-wanted flag, the pulse timer and the vent blanked out: what the end of a write leaves alone. -/
def Part.heatView (p : Part) : Part := { p with climate := { p.climate with
  steamWanted := false, pulseTimer := .stopped, pulseCount := 0, ventTarget := .opened, ventDrive := none
  ventRedrive := false } }

@[simp] theorem Part.pulseAtWrite_heatView (p : Part) (c : ClimateParams) : (p.pulseAtWrite c).heatView = p.heatView := by
  unfold Part.pulseAtWrite; split <;> rfl
@[simp] theorem Part.steamTest_heatView (p : Part) : p.steamTest.heatView = p.heatView := rfl
@[simp] theorem Part.ventTest_heatView (p : Part) : p.ventTest.heatView = p.heatView := by
  unfold Part.ventTest Part.setVent; repeat' split
  all_goals rfl
@[simp] theorem Part.ventAtStart_heatView (p : Part) : p.ventAtStart.heatView = p.heatView := by
  unfold Part.ventAtStart; split <;> rfl

@[simp] theorem Part.ventTest_pulse (p : Part) :
    p.ventTest.climate.pulseTimer = p.climate.pulseTimer ∧ p.ventTest.climate.pulseCount = p.climate.pulseCount := by
  unfold Part.ventTest Part.setVent; repeat' split
  all_goals exact ⟨rfl, rfl⟩
@[simp] theorem Part.ventAtStart_pulse (p : Part) : p.ventAtStart.climate.pulseTimer = p.climate.pulseTimer
    ∧ p.ventAtStart.climate.pulseCount = p.climate.pulseCount := by
  unfold Part.ventAtStart; split <;> exact ⟨rfl, rfl⟩

/-- Parts with one heat view agree in what a write decides. -/
theorem Part.heatView_eq {p q : Part} (h : q.heatView = p.heatView) :
    q.climate.state = p.climate.state ∧ q.climate.params = p.climate.params ∧ q.climate.ts = p.climate.ts
      ∧ q.climate.integral = p.climate.integral ∧ q.climate.returnTo = p.climate.returnTo
      ∧ q.climate.ratings = p.climate.ratings ∧ q.climate.periodTimer = p.climate.periodTimer ∧ q.power = p.power := by
  have hpower : q.heatView.power = p.heatView.power := congrArg Part.power h
  exact ⟨congrArg (fun x => x.climate.state) h, congrArg (fun x => x.climate.params) h, congrArg (fun x => x.climate.ts) h,
    congrArg (fun x => x.climate.integral) h, congrArg (fun x => x.climate.returnTo) h,
    congrArg (fun x => x.climate.ratings) h, congrArg (fun x => x.climate.periodTimer) h, hpower⟩

/-- R15: a write with a pulse outside DOOR_PAUSE and mains loss starts the pulse timer from zero. -/
theorem Part.pulseAtWrite_pulse {p : Part} {c : ClimateParams} {u : SteamPulse} (hu : c.pulse = some u)
    (hm : p.mode.mainsLoss = false) (hs : p.climate.state ≠ .doorPause) :
    (p.pulseAtWrite c).climate.pulseTimer = .running u.period ∧ (p.pulseAtWrite c).climate.pulseCount = 0 := by
  simp [Part.pulseAtWrite, hu, hm, hs, Timer.startUnless]

/-! ### The demands of a state (R7, R27) -/

/-- R11, R21: with the mains present and no FAN_STALL no demand is held. -/
theorem Part.demandHeld_eq_false {p : Part} (hm : p.mode.mainsLoss = false)
    (hf : hasFault p.mode.faults .fanStall = false) (m : HeatMode) : p.demandHeld m = false := by
  simp [Part.demandHeld, hm, hf]

/-- R11 step 6: the demand of each element. -/
theorem splitDemand_get (r : PerElement Nat) (m : HeatMode) (d : Int) (e : Element) :
    (splitDemand r m d).get e = min (r.get e) (d.toNat * modeShare m e / 100) := by
  rw [splitDemand_eq, PerElement.get_of]

theorem Store.ratings_get (t : Store) (e : Element) : t.ratings.get e = t.rating e := by
  rw [Store.ratings, PerElement.get_of]

/-! ### The setpoint in force of a write (R7, R13) -/

/-- R7, R13: the setpoint in force of a write, with the delta value written out. -/
theorem tsAtWrite_eq (img : Image) (c : ClimateParams) :
    tsAtWrite img c = match c.delta, img.tcore with
      | none, _ => c.setpoint
      | some d, some core => max 300 (min c.setpoint (core + d))
      | some _, none => 300 := by
  unfold tsAtWrite
  cases c.delta with
  | none => rfl
  | some d => cases img.tcore with
    | none => rfl
    | some core => exact deltaValue_eq _ _ _

/-! ### The start of cooking (R7) -/

/-- R7: the state that a start of cooking chooses. -/
def chosenState (tooCold : Bool) : ClimateState := if tooCold then .preheat else .regulate

/-- R7: the integral that it begins with. -/
def startIntegral (tooCold : Bool) (g ts : Int) : Int := if tooCold then 0 else max 0 (min g (g * ts / 5000))

/-- R7 steps 1 to 3: the blocks at a start of cooking, before the demands. -/
def Part.cookingBegun (p : Part) (c : ClimateParams) : Part :=
  let ts := tsAtWrite p.ring.image c
  let chosen := chosenState (cold p.ring.image ts)
  let opened := !p.ring.image.doorClosed
  { p.readRatings with
    climate.params := some c
    climate.ts := some ts
    climate.tsExpiry := some ts
    climate.state := if opened then .doorPause else chosen
    climate.returnTo := if opened then some chosen else none
    climate.reachedOwed := opened && chosen = .regulate
    climate.integral := if chosen = .preheat || p.mode.mainsLoss then 0 else handover (p.store.groupMax c.mode) ts
    climate.grantFresh := false
    climate.periodTimer := .start 1000 }

/-- R15, R14, R16: the pulse, the steam test and the vent test that end every write. -/
def Part.writeTail (p : Part) (c : ClimateParams) : Part := ((p.pulseAtWrite c).steamTest).ventTest

@[simp] theorem Part.writeTail_heatView (p : Part) (c : ClimateParams) : (p.writeTail c).heatView = p.heatView := by
  simp [Part.writeTail]

@[simp] theorem Part.writeTail_pulse (p : Part) (c : ClimateParams) :
    (p.writeTail c).climate.pulseTimer = (p.pulseAtWrite c).climate.pulseTimer
      ∧ (p.writeTail c).climate.pulseCount = (p.pulseAtWrite c).climate.pulseCount :=
  Part.ventTest_pulse _

/-- R7: the blocks at a start of cooking after its last test. -/
def Part.cookingTested (p : Part) (c : ClimateParams) : Part :=
  (((p.cookingBegun c).demandOf (p.cookingBegun c).climate.state c).writeTail c).ventAtStart

/-- R7: a start of cooking in REGULATE indicates that the cavity has reached temperature. -/
theorem Part.startCooking_eq (p : Part) (c : ClimateParams) : p.startCooking c =
    if (p.cookingBegun c).climate.state = .regulate then (p.cookingTested c).cavityReached else p.cookingTested c := rfl

theorem Part.startCooking_climate (p : Part) (c : ClimateParams) :
    (p.startCooking c).climate = (p.cookingTested c).climate := by
  rw [Part.startCooking_eq]; split <;> simp

theorem Part.startCooking_power (p : Part) (c : ClimateParams) :
    (p.startCooking c).power = (p.cookingTested c).power := by
  rw [Part.startCooking_eq]; split <;> simp

/-- R7, R27: the demands of a state move the demand last computed and the element demands alone. -/
theorem Part.demandOf_eq (p : Part) (st : ClimateState) (c : ClimateParams) :
    p.demandOf st c = { p with
      climate.given := (p.demandOf st c).climate.given, power.demands := (p.demandOf st c).power.demands } := by
  cases st <;> rfl

/-- R7: what a start of cooking leaves, but for the demands, the pulse, the steam test and the vent. -/
theorem Part.startCooking_leaves (p : Part) (c : ClimateParams) :
    let b := (p.cookingBegun c).climate
    let q := (p.startCooking c).climate
    q.state = b.state ∧ q.params = some c ∧ q.ts = some (tsAtWrite p.ring.image c) ∧ q.integral = b.integral
      ∧ q.returnTo = b.returnTo ∧ q.periodTimer = .running 1000
      ∧ (p.startCooking c).power = ((p.cookingBegun c).demandOf b.state c).power := by
  have hview : (p.cookingTested c).heatView
      = ((p.cookingBegun c).demandOf (p.cookingBegun c).climate.state c).heatView := by
    rw [Part.cookingTested, Part.ventAtStart_heatView, Part.writeTail_heatView]
  obtain ⟨hstate, hparams, hts, hi, hback, -, hperiod, hpower⟩ := Part.heatView_eq hview
  dsimp only
  rw [Part.startCooking_climate, Part.startCooking_power, hstate, hparams, hts, hi, hback, hperiod, hpower,
    Part.demandOf_eq]
  exact ⟨rfl, rfl, rfl, rfl, rfl, rfl, rfl⟩

/-- R7: the integral and the state that a start of cooking begins with. -/
theorem Part.cookingBegun_integral {p : Part} (c : ClimateParams) (hm : p.mode.mainsLoss = false) :
    (p.cookingBegun c).climate.integral = startIntegral (cold p.ring.image (tsAtWrite p.ring.image c))
      (p.store.groupMax c.mode) (tsAtWrite p.ring.image c) := by
  cases h : cold p.ring.image (tsAtWrite p.ring.image c) <;>
    simp [Part.cookingBegun, h, chosenState, startIntegral, hm, handover_eq]

theorem Part.cookingBegun_state (p : Part) (c : ClimateParams) : (p.cookingBegun c).climate.state =
    if p.ring.image.doorClosed then chosenState (cold p.ring.image (tsAtWrite p.ring.image c)) else .doorPause := by
  cases h : p.ring.image.doorClosed <;> simp [Part.cookingBegun, h]

theorem Part.cookingBegun_returnTo (p : Part) (c : ClimateParams) : (p.cookingBegun c).climate.returnTo =
    if p.ring.image.doorClosed then none else some (chosenState (cold p.ring.image (tsAtWrite p.ring.image c))) := by
  cases h : p.ring.image.doorClosed <;> simp [Part.cookingBegun, h]

/-- R7, R27: the element demands at a start of cooking with the door closed. -/
theorem Part.cookingBegun_demands {p : Part} (c : ClimateParams) (hm : p.mode.mainsLoss = false)
    (hf : hasFault p.mode.faults .fanStall = false) (tooCold : Bool)
    (hc : cold p.ring.image (tsAtWrite p.ring.image c) = tooCold) :
    ((p.cookingBegun c).demandOf (chosenState tooCold) c).power.demands = splitDemand p.store.ratings c.mode
      (if tooCold then (p.store.groupMax c.mode : Int)
       else startIntegral tooCold (p.store.groupMax c.mode) (tsAtWrite p.ring.image c)) := by
  have hheld : (p.cookingBegun c).demandHeld c.mode = false := Part.demandHeld_eq_false hm hf _
  have hi := Part.cookingBegun_integral c hm
  rw [hc] at hi
  have hg : (0 : Int) ≤ p.store.groupMax c.mode := Int.natCast_nonneg _
  cases tooCold
  · have hclamp : clampInt 0 (p.store.groupMax c.mode) (p.cookingBegun c).climate.integral
        = startIntegral false (p.store.groupMax c.mode) (tsAtWrite p.ring.image c) := by
      rw [hi, clampInt_eq _ _ _ hg, startIntegral, if_neg (by decide)]
      omega
    have hgive : (p.cookingBegun c).demandOf (chosenState false) c = (p.cookingBegun c).giveDemand c.mode
        (clampInt 0 (p.store.groupMax c.mode) (p.cookingBegun c).climate.integral) := rfl
    rw [hgive, hclamp, Part.giveDemand_demands, hheld]
    rfl
  · have hgive : (p.cookingBegun c).demandOf (chosenState true) c
        = (p.cookingBegun c).giveDemand c.mode (p.store.groupMax c.mode) := rfl
    rw [hgive, Part.giveDemand_demands, hheld]
    rfl

/-- R15: a start of cooking with a pulse and the door closed starts the pulse timer from zero. -/
theorem Part.startCooking_pulse {p : Part} {c : ClimateParams} {u : SteamPulse} (hu : c.pulse = some u)
    (hm : p.mode.mainsLoss = false) (hd : p.ring.image.doorClosed = true) :
    (p.startCooking c).climate.pulseTimer = .running u.period ∧ (p.startCooking c).climate.pulseCount = 0 := by
  have hstate : (p.cookingBegun c).climate.state ≠ .doorPause := by
    rw [Part.cookingBegun_state, if_pos hd, chosenState]
    split <;> decide
  rw [Part.startCooking_climate, Part.cookingTested, (Part.ventAtStart_pulse _).1, (Part.ventAtStart_pulse _).2,
    (Part.writeTail_pulse _ _).1, (Part.writeTail_pulse _ _).2]
  rw [Part.demandOf_eq]
  exact Part.pulseAtWrite_pulse hu hm hstate

end Sys2Proof.Machine
end

section
/-! SUPPORT. A write in a cooking state (R4, R8, R27), the end of cooking (R6, R10) and the door (R9). -/

namespace Sys2Proof.Machine

/-! ### A write in a cooking state (R4, R8, R27) -/

/-- R4: a write changes the mode. -/
def Part.changesMode (p : Part) (c : ClimateParams) : Bool :=
  match p.climate.params with
  | some old => decide (old.mode ≠ c.mode)
  | none => true

theorem Part.changesMode_eq_false_iff (p : Part) (c : ClimateParams) :
    p.changesMode c = false ↔ ∃ old, p.climate.params = some old ∧ old.mode = c.mode := by
  unfold Part.changesMode
  cases p.climate.params <;> simp

/-- R1, R4: the blocks at a write in a cooking state, once the record is in force and the ratings are read. -/
def Part.recordTaken (p : Part) (c : ClimateParams) : Part :=
  { p.readRatings with climate.params := some c, climate.ts := some (tsAtWrite p.ring.image c) }

@[simp] theorem Part.recordTaken_state (p : Part) (c : ClimateParams) :
    (p.recordTaken c).climate.state = p.climate.state := rfl
@[simp] theorem Part.recordTaken_returnTo (p : Part) (c : ClimateParams) :
    (p.recordTaken c).climate.returnTo = p.climate.returnTo := rfl

/-- R4, R8: the blocks at a write in a cooking state, after the raise test. -/
def Part.raiseTested (p : Part) (c : ClimateParams) : Part :=
  (p.recordTaken c).raiseReturn (raised p.climate.ts (tsAtWrite p.ring.image c))

/-- R4: the blocks at a write in a cooking state, before the demands: a change of mode has clamped the integral. -/
def Part.rewritten (p : Part) (c : ClimateParams) : Part :=
  if p.changesMode c then (p.raiseTested c).clampIntegral c.mode else p.raiseTested c

/-- R4, R27: a write in a cooking state is the raise test, the demands, and the end of every write. -/
theorem Part.updateClimate_eq (p : Part) (c : ClimateParams) : p.updateClimate c =
    ((p.rewritten c).rewriteDemand c (p.changesMode c || p.climate.state = .preheat)).writeTail c := rfl

/-- R8: a raise moves the state, the state to return to, the integral and the owed indication alone. -/
theorem Part.raiseReturn_eq (p : Part) (rise : Bool) : p.raiseReturn rise = { p with climate := { p.climate with
    state := (p.raiseReturn rise).climate.state, returnTo := (p.raiseReturn rise).climate.returnTo
    integral := (p.raiseReturn rise).climate.integral, reachedOwed := (p.raiseReturn rise).climate.reachedOwed } } := by
  unfold Part.raiseReturn
  repeat' split
  all_goals rfl

/-- R4: the raise test and the clamp of a write leave the record, its setpoint, the ratings and the demand. -/
theorem Part.rewritten_eq (p : Part) (c : ClimateParams) : p.rewritten c = { p with climate := { p.climate with
    params := some c, ts := some (tsAtWrite p.ring.image c), ratings := p.store.ratings
    state := (p.raiseTested c).climate.state, returnTo := (p.raiseTested c).climate.returnTo
    integral := (p.rewritten c).climate.integral, reachedOwed := (p.raiseTested c).climate.reachedOwed } } := by
  unfold Part.rewritten
  split
  · rw [Part.raiseTested, Part.raiseReturn_eq]; rfl
  · rw [Part.raiseTested, Part.raiseReturn_eq]; rfl

/-- R4: a change of mode clamps the integral that the raise test leaves. -/
theorem Part.rewritten_integral (p : Part) (c : ClimateParams) : (p.rewritten c).climate.integral =
    if p.changesMode c then max 0 (min (p.store.groupMax c.mode : Int) (p.raiseTested c).climate.integral)
    else (p.raiseTested c).climate.integral := by
  unfold Part.rewritten
  split
  · rw [Part.clampIntegral_integral, clampInt_eq _ _ _ (Int.natCast_nonneg _), Part.raiseTested, Part.raiseReturn_eq]
    rfl
  · rfl

/-- R27: the demands of a write move the demand last computed and the element demands alone. -/
theorem Part.rewriteDemand_eq (p : Part) (c : ClimateParams) (full : Bool) : p.rewriteDemand c full = { p with
    climate.given := (p.rewriteDemand c full).climate.given
    power.demands := (p.rewriteDemand c full).power.demands } := by
  unfold Part.rewriteDemand
  dsimp only
  split <;> rfl

/-- R4: what a write in a cooking state leaves, but for the demands, the pulse, the steam test and the vent. -/
theorem Part.updateClimate_leaves (p : Part) (c : ClimateParams) :
    let q := (p.updateClimate c).climate
    q.params = some c ∧ q.ts = some (tsAtWrite p.ring.image c) ∧ q.ratings = p.store.ratings
      ∧ q.periodTimer = p.climate.periodTimer ∧ q.state = (p.raiseTested c).climate.state
      ∧ q.returnTo = (p.raiseTested c).climate.returnTo ∧ q.integral = (p.rewritten c).climate.integral
      ∧ (p.updateClimate c).power
        = ((p.rewritten c).rewriteDemand c (p.changesMode c || p.climate.state = .preheat)).power := by
  have hview : (p.updateClimate c).heatView
      = ((p.rewritten c).rewriteDemand c (p.changesMode c || p.climate.state = .preheat)).heatView := by
    rw [Part.updateClimate_eq, Part.writeTail_heatView]
  obtain ⟨hstate, hparams, hts, hi, hback, hratings, hperiod, hpower⟩ := Part.heatView_eq hview
  dsimp only
  rw [hstate, hparams, hts, hi, hback, hratings, hperiod, hpower, Part.rewriteDemand_eq]
  refine ⟨?_, ?_, ?_, ?_, ?_, ?_, rfl, rfl⟩ <;> rw [Part.rewritten_eq]

/-- R4, R27: a demand that a write gives is split under the ratings that the write has read. -/
theorem Part.rewritten_giveDemand {p : Part} {c : ClimateParams} (d : Int) (hm : p.mode.mainsLoss = false)
    (hf : hasFault p.mode.faults .fanStall = false) :
    ((p.rewritten c).giveDemand c.mode d).power.demands = splitDemand p.store.ratings c.mode d := by
  have hheld : (p.rewritten c).demandHeld c.mode = false := by
    rw [Part.rewritten_eq]
    exact Part.demandHeld_eq_false hm hf _
  rw [Part.giveDemand_demands, hheld, Part.rewritten_eq]
  rfl

/-- R4: the demand of a write in PREHEAT: the group maximum, or after a raise that keeps the mode the last one. -/
theorem Part.rewriteDemand_preheat {p : Part} {c : ClimateParams} (full : Bool)
    (hs : (p.raiseTested c).climate.state = .preheat) :
    (p.rewritten c).rewriteDemand c full = (p.rewritten c).giveDemand c.mode
      (if full then (p.store.groupMax c.mode : Int) else max 0 (min (p.store.groupMax c.mode : Int) p.climate.given)) := by
  rw [← clampInt_eq _ _ _ (Int.natCast_nonneg _), Part.rewritten_eq]
  simp only [Part.rewriteDemand, hs]
  rfl

/-- R4: the demand of a write in REGULATE: the last one. -/
theorem Part.rewriteDemand_regulate {p : Part} {c : ClimateParams} (full : Bool)
    (hs : (p.raiseTested c).climate.state = .regulate) :
    (p.rewritten c).rewriteDemand c full = (p.rewritten c).giveDemand c.mode
      (max 0 (min (p.store.groupMax c.mode : Int) p.climate.given)) := by
  rw [← clampInt_eq _ _ _ (Int.natCast_nonneg _), Part.rewritten_eq]
  simp only [Part.rewriteDemand, hs]
  rfl

theorem Part.rewriteDemand_doorPause {p : Part} {c : ClimateParams} (full : Bool)
    (hs : (p.raiseTested c).climate.state = .doorPause) :
    ((p.rewritten c).rewriteDemand c full).power.demands = .all 0 := by
  have hs' : (p.rewritten c).climate.state = .doorPause := by rw [Part.rewritten_eq]; exact hs
  simp [Part.rewriteDemand, hs']

/-- R4: without a raise the raise test leaves the state, the state to return to and the integral. -/
theorem Part.raiseTested_steady {p : Part} {c : ClimateParams}
    (h : raised p.climate.ts (tsAtWrite p.ring.image c) = false) :
    (p.raiseTested c).climate.state = p.climate.state ∧ (p.raiseTested c).climate.returnTo = p.climate.returnTo
      ∧ (p.raiseTested c).climate.integral = p.climate.integral := by
  rw [Part.raiseTested, h]
  exact ⟨rfl, rfl, rfl⟩

theorem Part.raiseTested_preheat {p : Part} (c : ClimateParams) (hs : p.climate.state = .preheat) :
    (p.raiseTested c).climate.state = .preheat := by
  rw [Part.raiseTested, Part.raiseReturn_preheat (p := p.recordTaken c) hs]
  exact hs

theorem Part.raiseTested_regulate {p : Part} {c : ClimateParams} (hs : p.climate.state = .regulate)
    (h : raised p.climate.ts (tsAtWrite p.ring.image c) = true) :
    (p.raiseTested c).climate.state = .preheat ∧ (p.raiseTested c).climate.integral = 0 := by
  rw [Part.raiseTested, h, Part.raiseReturn_regulate (p := p.recordTaken c) hs]
  exact ⟨rfl, rfl⟩

theorem Part.raiseTested_doorPause {p : Part} {c : ClimateParams} (hs : p.climate.state = .doorPause)
    (hr : p.climate.returnTo = some .regulate) (h : raised p.climate.ts (tsAtWrite p.ring.image c) = true) :
    (p.raiseTested c).climate.state = .doorPause ∧ (p.raiseTested c).climate.returnTo = some .preheat
      ∧ (p.raiseTested c).climate.integral = 0 := by
  rw [Part.raiseTested, h, Part.raiseReturn_doorPause (p := p.recordTaken c) hs hr]
  exact ⟨hs, rfl, rfl⟩

theorem Part.raiseTested_doorPause_other {p : Part} {c : ClimateParams} (hs : p.climate.state = .doorPause)
    (hr : ¬(p.climate.returnTo = some .regulate ∧ raised p.climate.ts (tsAtWrite p.ring.image c) = true)) :
    (p.raiseTested c).climate.state = .doorPause ∧ (p.raiseTested c).climate.returnTo = p.climate.returnTo := by
  rw [Part.raiseTested, Part.raiseReturn_doorPause_other (p := p.recordTaken c) hs hr]
  exact ⟨hs, rfl⟩

/-! ### The end of cooking (R6, R10) -/

/-- R10: the cavity is hotter than the run-on threshold. -/
theorem Part.runOnHot_of_tc {p : Part} {t : Int} (h : p.ring.image.tc = some t) :
    p.runOnHot = decide ((p.store.num 21 : Int) < t) := by
  simp [Part.runOnHot, h]

theorem Part.runOnHot_of_none {p : Part} (h : p.ring.image.tc = none) : p.runOnHot = false := by
  simp [Part.runOnHot, h]

/-- R16: the vent's target takes the value given, and the vent is all that moves. -/
theorem Part.setVent_eq (p : Part) (t : VentTarget) : p.setVent t = { p with climate := { p.climate with
    ventTarget := t, ventDrive := (p.setVent t).climate.ventDrive, ventRedrive := (p.setVent t).climate.ventRedrive } } := by
  unfold Part.setVent
  split
  · next h => rw [← h]
  · split <;> rfl

/-- R6, R10: what the end of cooking leaves in the regulator and the allocator, and that it touches no other block. -/
theorem Part.clearClimate_eq (p : Part) (next : ClimateState) : p.clearClimate next = { p with
    climate := { p.climate with
      state := next, params := none, ts := none, tsExpiry := none, integral := 0, returnTo := none
      reachedOwed := false, steamWanted := false, periodTimer := .stopped, pulseTimer := .stopped, pulseCount := 0
      given := 0, ventTarget := .opened, ventDrive := (p.clearClimate next).climate.ventDrive
      ventRedrive := (p.clearClimate next).climate.ventRedrive }
    power.demands := .all 0 } := by
  rw [Part.clearClimate, Part.setVent_eq]
  rfl

/-- R6: in a cooking state cooking ends in COOL_RUN or OFF. -/
theorem Part.endCooking_cooking {p : Part} (h : p.climate.state ∈ [.preheat, .regulate, .doorPause]) :
    p.endCooking = p.clearClimate (if p.runOnHot then .coolRun else .off) :=
  if_pos ((ClimateState.cooking_iff _).2 h)

/-! ### The door (R9) -/

theorem Part.climateDoorOpen_active {p : Part} (h : p.climate.state = .preheat ∨ p.climate.state = .regulate) :
    p.climateDoorOpen = { p with
      climate := { p.climate with
        state := .doorPause, returnTo := some p.climate.state, reachedOwed := false, steamWanted := false
        pulseTimer := p.climate.pulseTimer.pause, given := 0 }
      power.demands := .all 0 } :=
  if_pos ((ClimateState.active_iff _).2 h)

theorem Part.climateDoorOpen_idle {p : Part} (h : p.climate.state ∉ [.preheat, .regulate]) : p.climateDoorOpen = p := by
  refine if_neg fun k => h ?_
  simpa using (ClimateState.active_iff _).1 k

/-- R9: the blocks at a door-close change, before the demands of the state returned to. -/
def Part.doorClosing (p : Part) (back : ClimateState) : Part := { p with
  climate.state := back
  climate.returnTo := none
  climate.reachedOwed := false
  climate.pulseTimer := p.climate.pulseTimer.resume }

/-- R9: a door-close change in DOOR_PAUSE gives the demands of the state returned to, and the indication that was owed. -/
theorem Part.climateDoorClose_eq {p : Part} {back : ClimateState} {c : ClimateParams}
    (hs : p.climate.state = .doorPause) (hr : p.climate.returnTo = some back) (hc : p.climate.params = some c)
    (hm : p.mode.mainsLoss = false) : p.climateDoorClose =
      if p.climate.reachedOwed then ((p.doorClosing back).demandOf back c).cavityReached
      else (p.doorClosing back).demandOf back c := by
  simp only [Part.climateDoorClose, hs, hr, hc, hm, Part.doorClosing]
  rfl

/-- R7, R27: the element demands of PREHEAT and of REGULATE, under the ratings last read. -/
theorem Part.demandOf_demands {p : Part} {c : ClimateParams} (hm : p.mode.mainsLoss = false)
    (hf : hasFault p.mode.faults .fanStall = false) :
    (p.demandOf .preheat c).power.demands = splitDemand p.climate.ratings c.mode (groupMaxOf p.climate.ratings c.mode)
      ∧ (p.demandOf .regulate c).power.demands = splitDemand p.climate.ratings c.mode
        (max 0 (min (groupMaxOf p.climate.ratings c.mode : Int) p.climate.integral)) := by
  have hheld := Part.demandHeld_eq_false hm hf c.mode
  rw [← clampInt_eq _ _ _ (Int.natCast_nonneg _)]
  simp only [Part.demandOf, Part.giveDemand_demands, hheld]
  exact ⟨rfl, rfl⟩

/-! ### Scan completions (R10, R20) -/

theorem Part.overtempWatch_of_tc {p : Part} {t : Int} (h : p.ring.image.tc = some t) : p.overtempWatch =
    if 3000 ≤ t then
      (if p.climate.overtemp then p else Part.raiseFault { p with climate.overtemp := true } .cavityOvertemp)
    else if t < 2500 then { p with climate.overtemp := false } else p := by
  simp only [Part.overtempWatch, h]

theorem Part.overtempWatch_of_none {p : Part} (h : p.ring.image.tc = none) : p.overtempWatch = p := by
  simp only [Part.overtempWatch, h]

/-- R10: COOL_RUN ends where the temperature is valid and at or below the run-on threshold. -/
theorem Part.coolRunEnd_of_tc {p : Part} {t : Int} (h : p.ring.image.tc = some t) : p.coolRunEnd =
    if p.climate.state = .coolRun ∧ t ≤ p.store.num 21 then { p with climate.state := .off } else p := by
  simp [Part.coolRunEnd, h, Part.runOnHot_of_tc h]

theorem Part.coolRunEnd_of_none {p : Part} (h : p.ring.image.tc = none) : p.coolRunEnd = p := by
  simp [Part.coolRunEnd, h]

end Sys2Proof.Machine
end

section
/-! SUPPORT. Parameter writes, the door, the overtemperature watch and the end of cooking, together (R4 to R10, R20). -/

namespace Sys2Proof.Machine

theorem Part.writeClimate_idle {p : Part} (c : ClimateParams)
    (h : p.climate.state = .off ∨ p.climate.state = .coolRun) : p.writeClimate c = p.startCooking c := by
  rcases h with h | h <;> simp [Part.writeClimate, h, ClimateState.cooking]

theorem Part.writeClimate_cooking {p : Part} (c : ClimateParams)
    (h : p.climate.state ∈ [.preheat, .regulate, .doorPause]) : p.writeClimate c = p.updateClimate c :=
  if_pos ((ClimateState.cooking_iff _).2 h)

section
variable {p : Part} {c : ClimateParams} (hm : p.mode.mainsLoss = false)
  (hf : hasFault p.mode.faults .fanStall = false)
include hm hf

/-- R7, R15: a start of cooking with the door closed. -/
theorem Part.startCooking_closed {ts : Int} {tooCold : Bool} (hts : tsAtWrite p.ring.image c = ts)
    (hcold : cold p.ring.image ts = tooCold) (hd : p.ring.image.doorClosed = true) :
    let g : Int := p.store.groupMax c.mode
    let q := p.startCooking c
    q.climate.state = chosenState tooCold
      ∧ q.power.demands = splitDemand p.store.ratings c.mode (if tooCold then g else startIntegral tooCold g ts)
      ∧ (∀ u, c.pulse = some u → q.climate.pulseTimer = .running u.period ∧ q.climate.pulseCount = 0)
      ∧ (tooCold = false → q.notice.pending.getLsbD (noticePosition .preheatReached) = true) := by
  subst hts
  have hstate : (p.cookingBegun c).climate.state = chosenState tooCold := by
    rw [Part.cookingBegun_state, if_pos hd, hcold]
  obtain ⟨hs, -, -, -, -, -, hpower⟩ := p.startCooking_leaves c
  refine ⟨hs.trans hstate, ?_, fun u hu => Part.startCooking_pulse hu hm hd, fun hk => ?_⟩
  · rw [hpower, hstate, Part.cookingBegun_demands c hm hf tooCold hcold]
  · rw [Part.startCooking_eq, if_pos (by rw [hstate, hk]; rfl)]
    exact Part.cavityReached_pending _

omit hm hf in
/-- R7: a start of cooking with the door open, whatever the faults. -/
theorem Part.startCooking_opened {ts : Int} {tooCold : Bool} (hts : tsAtWrite p.ring.image c = ts)
    (hcold : cold p.ring.image ts = tooCold) (hd : p.ring.image.doorClosed = false) :
    let q := p.startCooking c
    q.climate.state = .doorPause ∧ q.climate.returnTo = some (chosenState tooCold) ∧ q.power.demands = .all 0 := by
  subst hts
  have hopen : ¬p.ring.image.doorClosed = true := by simp [hd]
  have hstate : (p.cookingBegun c).climate.state = .doorPause := by rw [Part.cookingBegun_state, if_neg hopen]
  obtain ⟨hs, -, -, -, hback, -, hpower⟩ := p.startCooking_leaves c
  refine ⟨hs.trans hstate, ?_, ?_⟩
  · rw [hback, Part.cookingBegun_returnTo, if_neg hopen, hcold]
  · rw [hpower, hstate]
    rfl

/-- R4, R27: a write in PREHEAT gives the group maximum. -/
theorem Part.updateClimate_preheat (hs : p.climate.state = .preheat) :
    (p.updateClimate c).climate.state = .preheat
      ∧ (p.updateClimate c).power.demands = splitDemand p.store.ratings c.mode (p.store.groupMax c.mode) := by
  obtain ⟨-, -, -, -, hstate, -, -, hpower⟩ := p.updateClimate_leaves c
  have hpre := Part.raiseTested_preheat c hs
  refine ⟨hstate.trans hpre, ?_⟩
  rw [hpower, hs, decide_eq_true rfl, Bool.or_true, Part.rewriteDemand_preheat _ hpre, Part.rewritten_giveDemand _ hm hf]
  rfl

/-- R4, R8, R27: a write in REGULATE that raises the setpoint by more than 20.0 °C goes back to PREHEAT. -/
theorem Part.updateClimate_raised (hs : p.climate.state = .regulate)
    (hr : raised p.climate.ts (tsAtWrite p.ring.image c) = true) :
    (p.updateClimate c).climate.state = .preheat ∧ (p.updateClimate c).climate.integral = 0
      ∧ (p.updateClimate c).power.demands = splitDemand p.store.ratings c.mode (if p.changesMode c
        then (p.store.groupMax c.mode : Int) else max 0 (min (p.store.groupMax c.mode : Int) p.climate.given)) := by
  obtain ⟨-, -, -, -, hstate, -, hi, hpower⟩ := p.updateClimate_leaves c
  obtain ⟨hpre, hzero⟩ := Part.raiseTested_regulate hs hr
  refine ⟨hstate.trans hpre, ?_, ?_⟩
  · rw [hi, Part.rewritten_integral, hzero]
    split <;> omega
  · have hfull : (p.changesMode c || decide (p.climate.state = .preheat)) = p.changesMode c := by simp [hs]
    rw [hpower, hfull, Part.rewriteDemand_preheat _ hpre, Part.rewritten_giveDemand _ hm hf]

/-- R4, R27: a write in REGULATE without a raise stays there, with the demand last computed. -/
theorem Part.updateClimate_steady (hs : p.climate.state = .regulate)
    (hr : raised p.climate.ts (tsAtWrite p.ring.image c) = false) :
    (p.updateClimate c).climate.state = .regulate
      ∧ (p.updateClimate c).power.demands = splitDemand p.store.ratings c.mode
        (max 0 (min (p.store.groupMax c.mode : Int) p.climate.given))
      ∧ (p.updateClimate c).climate.integral = if p.changesMode c
        then max 0 (min (p.store.groupMax c.mode : Int) p.climate.integral) else p.climate.integral := by
  obtain ⟨-, -, -, -, hstate, -, hi, hpower⟩ := p.updateClimate_leaves c
  obtain ⟨hreg, -, hint⟩ := Part.raiseTested_steady hr
  refine ⟨hstate.trans (hreg.trans hs), ?_, ?_⟩
  · rw [hpower, Part.rewriteDemand_regulate _ (hreg.trans hs), Part.rewritten_giveDemand _ hm hf]
  · rw [hi, Part.rewritten_integral, hint]

omit hm hf in
/-- R4: a write in DOOR_PAUSE stays there without demands. -/
theorem Part.updateClimate_doorPause (hs : p.climate.state = .doorPause) :
    (p.updateClimate c).climate.state = .doorPause ∧ (p.updateClimate c).power.demands = .all 0
      ∧ (p.climate.returnTo = some .regulate → raised p.climate.ts (tsAtWrite p.ring.image c) = true →
        (p.updateClimate c).climate.returnTo = some .preheat ∧ (p.updateClimate c).climate.integral = 0)
      ∧ (¬(p.climate.returnTo = some .regulate ∧ raised p.climate.ts (tsAtWrite p.ring.image c) = true) →
        (p.updateClimate c).climate.returnTo = p.climate.returnTo) := by
  obtain ⟨-, -, -, -, hstate, hback, hi, hpower⟩ := p.updateClimate_leaves c
  have hpause : (p.raiseTested c).climate.state = .doorPause := by
    by_cases h : p.climate.returnTo = some .regulate ∧ raised p.climate.ts (tsAtWrite p.ring.image c) = true
    · exact (Part.raiseTested_doorPause hs h.1 h.2).1
    · exact (Part.raiseTested_doorPause_other hs h).1
  refine ⟨hstate.trans hpause, ?_, fun hr h => ?_, fun h => ?_⟩
  · rw [hpower, Part.rewriteDemand_doorPause _ hpause]
  · obtain ⟨-, hto, hzero⟩ := Part.raiseTested_doorPause hs hr h
    refine ⟨hback.trans hto, ?_⟩
    rw [hi, Part.rewritten_integral, hzero]
    split <;> omega
  · exact hback.trans (Part.raiseTested_doorPause_other hs h).2

end

/-- R9: what a door-close change in DOOR_PAUSE leaves. -/
theorem Part.climateDoorClose_leaves {p : Part} {back : ClimateState} {c : ClimateParams}
    (hs : p.climate.state = .doorPause) (hr : p.climate.returnTo = some back) (hc : p.climate.params = some c)
    (hm : p.mode.mainsLoss = false) :
    let q := p.climateDoorClose
    q.climate.state = back ∧ q.climate.returnTo = none ∧ q.climate.integral = p.climate.integral
      ∧ q.climate.pulseTimer = p.climate.pulseTimer.resume
      ∧ q.power.demands = ((p.doorClosing back).demandOf back c).power.demands
      ∧ (p.climate.reachedOwed = true → q.notice.pending.getLsbD (noticePosition .preheatReached) = true)
      ∧ (p.climate.reachedOwed = false → q.notice = p.notice ∧ q.program = p.program) := by
  have hclimate : p.climateDoorClose.climate = ((p.doorClosing back).demandOf back c).climate := by
    rw [Part.climateDoorClose_eq hs hr hc hm]; split <;> simp
  have hpower : p.climateDoorClose.power = ((p.doorClosing back).demandOf back c).power := by
    rw [Part.climateDoorClose_eq hs hr hc hm]; split <;> simp
  dsimp only
  rw [hclimate, hpower, Part.climateDoorClose_eq hs hr hc hm]
  refine ⟨?_, ?_, ?_, ?_, rfl, fun h => ?_, fun h => ?_⟩
  · rw [Part.demandOf_eq]; rfl
  · rw [Part.demandOf_eq]; rfl
  · rw [Part.demandOf_eq]; rfl
  · rw [Part.demandOf_eq]; rfl
  · rw [if_pos h]
    exact Part.cavityReached_pending _
  · rw [if_neg (by simp [h]), Part.demandOf_eq]
    exact ⟨rfl, rfl⟩

/-- Settles O45: a write is the start of cooking or the raise test with the demands of its state, and the end of cooking,
the door and a scan completion each move what their own lemma says. -/
theorem cookingStartsAndEnds : Obligations.CookingStartsAndEnds := by
  intro p tsOf split
  have hts (c : ClimateParams) : tsAtWrite p.ring.image c = tsOf c := tsAtWrite_eq _ _
  have hsplit {c : ClimateParams} {d : Int} {demands : PerElement Nat}
      (h : demands = splitDemand p.store.ratings c.mode d) : split c d demands := by
    intro e
    rw [h, splitDemand_get, Store.ratings_get]
  clear_value tsOf split
  refine ⟨fun c hs hm hf => ?_, fun c hs hm hf => ?_, fun hs => ?_, Part.climateDoorOpen_active,
    Part.climateDoorOpen_idle, fun c back hs hr hc hm hf => ?_, fun t ht => ⟨fun hk ho => ?_, fun hk ho => ?_, fun hk => ?_,
      fun hk hl => ?_, fun hs hk => ?_, fun hk => ?_⟩, fun ht => ⟨Part.overtempWatch_of_none ht, Part.coolRunEnd_of_none ht⟩,
    fun d => ?_⟩
  · intro ts g tooCold chosen i q
    have hcold : cold p.ring.image ts = tooCold := rfl
    have hq : q = p.startCooking c := p.writeClimate_idle c hs
    obtain ⟨-, hparams, hset, hint, -, hperiod, -⟩ := p.startCooking_leaves c
    rw [Part.cookingBegun_integral c hm, hts, hcold] at hint
    rw [hts] at hset
    rw [hq]
    refine ⟨hparams, hset, hint, hperiod, fun hd => ?_, fun hd => Part.startCooking_opened (hts c) hcold hd⟩
    obtain ⟨hstate, hdemands, hpulse, hreached⟩ := Part.startCooking_closed hm hf (hts c) hcold hd
    exact ⟨hstate, hsplit hdemands, hpulse, hreached⟩
  · intro ts g rise sameMode kept q
    have hq : q = p.updateClimate c := p.writeClimate_cooking c hs
    have hrise : raised p.climate.ts (tsAtWrite p.ring.image c) = true ↔ rise := by rw [raised_iff, hts]
    have hsteady (h : ¬rise) : raised p.climate.ts (tsAtWrite p.ring.image c) = false := by
      rwa [← Bool.not_eq_true, hrise]
    have hsame (h : sameMode) : p.changesMode c = false := (p.changesMode_eq_false_iff c).2 h
    have hother (h : ¬sameMode) : p.changesMode c = true := by
      rwa [← Bool.not_eq_false, p.changesMode_eq_false_iff]
    obtain ⟨hparams, hset, hratings, hperiod, -, -, -, -⟩ := p.updateClimate_leaves c
    rw [hts] at hset
    rw [hq]
    refine ⟨hparams, hset, hratings, hperiod, fun h => ?_, fun h hr => ?_, fun h hr => ?_, fun h => ?_⟩
    · obtain ⟨hstate, hdemands⟩ := Part.updateClimate_preheat (c := c) hm hf h
      exact ⟨hstate, hsplit hdemands⟩
    · obtain ⟨hstate, hint, hdemands⟩ := Part.updateClimate_raised hm hf h (hrise.2 hr)
      refine ⟨hstate, hint, fun k => hsplit ?_, fun k => hsplit ?_⟩
      · rw [hdemands, if_neg (by simp [hsame k])]
      · rw [hdemands, if_pos (hother k)]
    · obtain ⟨hstate, hdemands, hint⟩ := Part.updateClimate_steady hm hf h (hsteady hr)
      refine ⟨hstate, hsplit hdemands, fun k => ?_, fun k => ?_⟩
      · rw [hint, if_neg (by simp [hsame k])]
      · rw [hint, if_pos (hother k)]
    · obtain ⟨hstate, hdemands, hback, hstays⟩ := Part.updateClimate_doorPause (c := c) h
      refine ⟨hstate, hdemands, fun hr k => hback hr (hrise.2 k), fun k => hstays fun ⟨hr, ht⟩ => ?_⟩
      exact k.elim (absurd hr) (absurd (hrise.1 ht))
  · intro q
    have hq : q = p.clearClimate (if p.runOnHot then .coolRun else .off) := Part.endCooking_cooking hs
    rw [hq, Part.clearClimate_eq]
    refine ⟨?_, rfl, rfl, rfl, rfl, rfl, rfl, rfl, rfl, rfl, rfl, rfl, rfl, rfl, rfl, rfl⟩
    cases ht : p.ring.image.tc with
    | none => simp [Part.runOnHot_of_none ht]
    | some t => simp [Part.runOnHot_of_tc ht]
  · obtain ⟨hstate, hto, hint, hpulse, hdemands, howed, hquiet⟩ := Part.climateDoorClose_leaves hs hr hc hm
    obtain ⟨hpreheat, hregulate⟩ := Part.demandOf_demands (p := p.doorClosing back) (c := c) hm hf
    refine ⟨hstate, hto, hint, hpulse, fun hb => ?_, fun hb => ?_, howed, hquiet⟩
    · subst hb
      exact (hdemands.trans hpreheat).trans (splitDemand_eq _ _ _)
    · subst hb
      exact (hdemands.trans hregulate).trans (splitDemand_eq _ _ _)
  · rw [Part.overtempWatch_of_tc ht, if_pos hk, if_neg (by simp [ho])]
  · rw [Part.overtempWatch_of_tc ht, if_pos hk, if_pos ho]
  · rw [Part.overtempWatch_of_tc ht, if_neg (by omega), if_pos hk]
  · rw [Part.overtempWatch_of_tc ht, if_neg (by omega), if_neg (by omega)]
  · rw [Part.coolRunEnd_of_tc ht, if_pos ⟨hs, hk⟩]
  · have hn : ¬(p.climate.state = .coolRun ∧ t ≤ p.store.num 21) := fun ⟨hs, hle⟩ => hk.elim (absurd hs) (not_lt.2 hle)
    rw [Part.coolRunEnd_of_tc ht, if_neg hn]
  · cases d <;> rfl

end Sys2Proof.Machine
end

section
/-! SUPPORT. Stages of a program (R123 to R126, R130, R131): what a climate write leaves in the executor, the test of the
degraded conditions by cases, and the beginning of a stage. -/

namespace Sys2Proof.Machine

/-- R121: while the program runs its current stage is the one at the stage index. -/
theorem Program.current_of_runs {g : Program} (h : g.state.runs = true) : g.current = g.stages[g.index]? := if_pos h

/-! ### What a climate write leaves in the executor -/

/-- The executor with its state, reason, step and preheat flag blanked out: what the indication leaves alone. -/
def Program.script (g : Program) : Program :=
  { g with state := .running, reason := none, step := .notBegun, preheatReached := false }

theorem Part.passGate_script (p : Part) : p.passGate.program.script = p.program.script := by
  unfold Part.passGate; repeat' split
  all_goals rfl

theorem Part.tellReached_script (p : Part) : p.tellReached.program.script = p.program.script := by
  unfold Part.tellReached; dsimp only; repeat' split
  all_goals first | rfl | exact Part.passGate_script _

theorem Part.writeTail_program (p : Part) (c : ClimateParams) : (p.writeTail c).program = p.program :=
  congrArg (fun x => x.program) (p.writeTail_heatView c)

theorem Part.cookingTested_program (p : Part) (c : ClimateParams) : (p.cookingTested c).program = p.program := by
  have hview : (p.cookingTested c).heatView
      = ((p.cookingBegun c).demandOf (p.cookingBegun c).climate.state c).heatView := by
    rw [Part.cookingTested, Part.ventAtStart_heatView, Part.writeTail_heatView]
  have hprogram : (p.cookingTested c).program
      = ((p.cookingBegun c).demandOf (p.cookingBegun c).climate.state c).program := congrArg (fun x => x.program) hview
  rw [hprogram, Part.demandOf_eq]
  rfl

theorem Part.updateClimate_program (p : Part) (c : ClimateParams) : (p.updateClimate c).program = p.program := by
  rw [Part.updateClimate_eq, Part.writeTail_program, Part.rewriteDemand_eq, Part.rewritten_eq]

/-- R124: a climate write reaches the executor by its indication alone. -/
theorem Part.writeClimate_script (p : Part) (c : ClimateParams) :
    (p.writeClimate c).program.script = p.program.script := by
  unfold Part.writeClimate
  split
  · rw [Part.updateClimate_program]
  · rw [Part.startCooking_eq]
    split
    · rw [Part.cavityReached, Part.tellReached_script, Part.raiseNotice_program, Part.cookingTested_program]
    · rw [Part.cookingTested_program]

/-- R7, R124: a climate write that does not leave REGULATE leaves the executor alone. -/
theorem Part.writeClimate_program {p : Part} {c : ClimateParams} (h : (p.writeClimate c).climate.state ≠ .regulate) :
    (p.writeClimate c).program = p.program := by
  unfold Part.writeClimate at h ⊢
  split at h
  · next hc => rw [if_pos hc, Part.updateClimate_program]
  · next hc =>
    rw [(p.startCooking_leaves c).1] at h
    rw [if_neg hc, Part.startCooking_eq, if_neg h, Part.cookingTested_program]

/-! ### The degraded conditions (R130, R131) -/

/-- R131: a STEAM stage without steam. -/
theorem Part.lacksSteam_iff (p : Part) (st : Stage) : p.lacksSteam st = true ↔
    st.params.mode = .steam ∧ (p.steamFault = true ∨ p.scale.lock = true) := by
  simp [Part.lacksSteam]

/-- R131: a STEAM stage whose boiler waits for water. -/
theorem Part.lacksWater_iff (p : Part) (st : Stage) : p.lacksWater st = true ↔
    st.params.mode = .steam ∧ p.boiler.state = .fillPaused := by
  simp [Part.lacksWater]

/-- R130: a CORE stage without a core reading. -/
theorem Part.lacksProbe_iff (p : Part) (st : Stage) : p.lacksProbe st false = true ↔
    st.endCondition = .core ∧ p.ring.image.tcore = none := by
  simp [Part.lacksProbe, and_comm]

/-- R130, R131: a stage in another mode than STEAM, without a delta and with another end than CORE, has no degraded
condition at its beginning. -/
theorem Part.degraded_beginning {p : Part} {st : Stage} (hm : st.params.mode ≠ .steam) (he : st.endCondition ≠ .core)
    (hd : st.params.delta = none) : p.degraded st true = none := by
  simp [Part.degraded, Part.lacksSteam, Part.lacksWater, Part.lacksProbe, hm, he, hd]

section
variable {p : Part} {st : Stage} (hs : p.program.state = .running)
  (hst : p.program.stages[p.program.index]? = some st)
include hs hst

theorem Part.current_running : p.program.current = some st := by
  rw [Program.current_of_runs (by rw [hs]; rfl), hst]

/-- Section 7.6: a degraded condition that holds in PREHEATING or COUNTING makes the executor wait. -/
theorem Part.testDegraded_some (hp : p.program.step = .preheating ∨ p.program.step = .counting) {beginning : Bool}
    {r : WaitReason} (hr : p.degraded st beginning = some r) : p.testDegraded beginning = p.waitFor r := by
  rcases hp with hp | hp <;> simp only [Part.testDegraded, hs, hp, Part.current_running hs hst, hr]

/-- R124: with no degraded condition a gate already passed is acted on in PREHEATING. -/
theorem Part.testDegraded_none (hp : p.program.step = .preheating ∨ p.program.step = .counting) {beginning : Bool}
    (hr : p.degraded st beginning = none) : p.testDegraded beginning =
      if p.program.step = .preheating ∧ p.program.preheatReached = true then p.passGate else p := by
  rcases hp with hp | hp <;> simp [Part.testDegraded, hs, hp, Part.current_running hs hst, hr]

/-- R124: the gate is passed into COUNTING, or waits on its prompt. -/
theorem Part.passGate_eq : p.passGate = if st.promptPoint = .afterPreheat
    then Part.raiseNotice { p with program.state := .waiting, program.reason := some .prompt } .prompt
    else { p with program.step := .counting } := by
  simp only [Part.passGate, Part.current_running hs hst]

end

/-- Section 7.6: outside PREHEATING and COUNTING of a running program nothing is tested. -/
theorem Part.testDegraded_idle {p : Part}
    (h : p.program.state ≠ .running ∨ (p.program.step ≠ .preheating ∧ p.program.step ≠ .counting)) (beginning : Bool) :
    p.testDegraded beginning = p := by
  unfold Part.testDegraded
  split
  case h_3 => rfl
  all_goals simp_all

/-- The test moves the state, the reason and the step alone of the executor. -/
theorem Part.testDegraded_leaves (p : Part) (beginning : Bool) :
    (p.testDegraded beginning).program.script = p.program.script
      ∧ (p.testDegraded beginning).program.preheatReached = p.program.preheatReached := by
  have hgate : p.passGate.program.preheatReached = p.program.preheatReached := by
    unfold Part.passGate; repeat' split
    all_goals rfl
  unfold Part.testDegraded
  repeat' split
  all_goals first | exact ⟨rfl, rfl⟩ | exact ⟨Part.passGate_script p, hgate⟩

end Sys2Proof.Machine
end

section
/-! SUPPORT. The beginning of a stage (R123, R124) and the start of a program at a stage (R122). -/

namespace Sys2Proof.Machine

/-! ### The beginning of a stage (R123, R124) -/

/-- R124: the climate is in REGULATE, or in DOOR_PAUSE with REGULATE to return to. -/
theorem Climate.hot_iff (c : Climate) :
    c.hot = true ↔ c.state = .regulate ∨ (c.state = .doorPause ∧ c.returnTo = some .regulate) := by
  simp [Climate.hot]

/-- R123: the blocks at the beginning of a stage, once its climate is written and STAGE_CHANGE raised. -/
def Part.stageWritten (p : Part) (st : Stage) : Part :=
  { Part.raiseNotice { p.writeClimate st.params with
      program.written := some st.params
      program.state := .running
      program.reason := none } .stageChange with
    program.step := if st.preheat then .preheating else .counting }

/-- R124: the blocks at the beginning of a stage, once a hot climate has passed its preheat gate. -/
def Part.stageGated (p : Part) (st : Stage) : Part :=
  if st.preheat && (p.writeClimate st.params).climate.hot then
    Part.raiseNotice { p.stageWritten st with program.preheatReached := true } .preheatReached
  else p.stageWritten st

/-- R123: a stage begins with its climate, its gate and the test of the degraded conditions. -/
theorem Part.beginStage_eq (p : Part) (st : Stage) : p.beginStage st = (p.stageGated st).testDegraded true := rfl

/-- R124: the gate that a hot climate passes. -/
theorem Part.stageGated_hot {p : Part} {st : Stage} (hp : st.preheat = true)
    (h : (p.writeClimate st.params).climate.hot = true) : p.stageGated st =
      Part.raiseNotice { p.stageWritten st with program.preheatReached := true } .preheatReached :=
  if_pos (by simp [hp, h])

theorem Part.stageGated_cold {p : Part} {st : Stage} (h : (p.writeClimate st.params).climate.hot = false) :
    p.stageGated st = p.stageWritten st :=
  if_neg (by simp [h])

/-- R123: a stage's climate write and its gate leave the executor at the same stage, with the record written. -/
theorem Part.stageGated_script (p : Part) (st : Stage) :
    (p.stageGated st).program.script = { p.program.script with written := some st.params } := by
  have hw : (p.stageWritten st).program.script
      = { (p.writeClimate st.params).program.script with written := some st.params } := rfl
  have hg : (p.stageGated st).program.script = (p.stageWritten st).program.script := by
    unfold Part.stageGated; split <;> rfl
  rw [hg, hw, Part.writeClimate_script]

theorem Part.stageGated_state (p : Part) (st : Stage) : (p.stageGated st).program.state = .running
    ∧ (p.stageGated st).program.step = if st.preheat then .preheating else .counting := by
  unfold Part.stageGated; split <;> exact ⟨rfl, rfl⟩

/-- R123: what the beginning of a stage leaves in the executor, whatever the test of the degraded conditions finds. -/
theorem Part.beginStage_script (p : Part) (st : Stage) :
    (p.beginStage st).program.script = { p.program.script with written := some st.params } := by
  rw [Part.beginStage_eq, ((p.stageGated st).testDegraded_leaves true).1, Part.stageGated_script]

/-- The notices raised so far stay pending over the test of the degraded conditions. -/
theorem Part.testDegraded_pending {p : Part} {n : Notice} (beginning : Bool)
    (h : p.notice.pending.getLsbD (noticePosition n) = true) :
    (p.testDegraded beginning).notice.pending.getLsbD (noticePosition n) = true :=
  (Part.testDegraded_keeps beginning (Part.Keeps.refl p)).adds.pending _ h

/-- A raise keeps what is pending. -/
theorem Part.raiseNotice_pending {p : Part} {n : Notice} (m : Notice)
    (h : p.notice.pending.getLsbD (noticePosition n) = true) :
    (p.raiseNotice m).notice.pending.getLsbD (noticePosition n) = true := NoticeUnit.raise_pending _ m _ h

/-- R123: a stage that begins raises STAGE_CHANGE. -/
theorem Part.beginStage_stageChange (p : Part) (st : Stage) :
    (p.beginStage st).notice.pending.getLsbD (noticePosition .stageChange) = true := by
  have hw : (p.stageWritten st).notice.pending.getLsbD (noticePosition .stageChange) = true :=
    NoticeUnit.raise_self _ .stageChange
  have hg : (p.stageGated st).notice.pending.getLsbD (noticePosition .stageChange) = true := by
    unfold Part.stageGated
    split
    · exact Part.raiseNotice_pending .preheatReached hw
    · exact hw
  exact Part.testDegraded_pending true hg

section
variable {p : Part} {st : Stage} (hst : p.program.stages[p.program.index]? = some st)
include hst

/-- The gate leaves the current stage. -/
theorem Part.stageGated_current :
    (p.stageGated st).program.stages[(p.stageGated st).program.index]? = some st := by
  have h := p.stageGated_script st
  have hstages : (p.stageGated st).program.stages = p.program.stages := congrArg (fun g => g.stages) h
  have hindex : (p.stageGated st).program.index = p.program.index := congrArg (fun g => g.index) h
  rw [hstages, hindex, hst]

/-- R123, R124: the beginning of a stage without a degraded condition acts on a gate already passed. -/
theorem Part.beginStage_sound (hp : st.preheat = true) (hm : st.params.mode ≠ .steam) (he : st.endCondition ≠ .core)
    (hd : st.params.delta = none) : p.beginStage st =
      if (p.stageGated st).program.preheatReached = true then (p.stageGated st).passGate else p.stageGated st := by
  have hstep : (p.stageGated st).program.step = .preheating := by rw [(p.stageGated_state st).2, hp]; rfl
  rw [Part.beginStage_eq, Part.testDegraded_none (p.stageGated_state st).1 (Part.stageGated_current hst) (.inl hstep)
    (Part.degraded_beginning hm he hd)]
  simp [hstep]

/-- R124: a hot climate passes the gate of a stage at its beginning. -/
theorem Part.beginStage_hot (hp : st.preheat = true) (hm : st.params.mode ≠ .steam) (he : st.endCondition ≠ .core)
    (hd : st.params.delta = none) (h : (p.writeClimate st.params).climate.hot = true) : p.beginStage st =
      if st.promptPoint = .afterPreheat then Part.raiseNotice { p.stageGated st with
        program.state := .waiting, program.reason := some .prompt } .prompt
      else { p.stageGated st with program.step := .counting } := by
  have hreached : (p.stageGated st).program.preheatReached = true := by rw [Part.stageGated_hot hp h]; rfl
  rw [Part.beginStage_sound hst hp hm he hd, if_pos hreached,
    Part.passGate_eq (p.stageGated_state st).1 (Part.stageGated_current hst)]

/-- R124: any other climate leaves the stage in PREHEATING. -/
theorem Part.beginStage_cold (hp : st.preheat = true) (hm : st.params.mode ≠ .steam) (he : st.endCondition ≠ .core)
    (hd : st.params.delta = none) (h : (p.writeClimate st.params).climate.hot = false)
    (hr : p.program.preheatReached = false) :
    (p.beginStage st).program.state = .running ∧ (p.beginStage st).program.step = .preheating
      ∧ (p.beginStage st).program.preheatReached = false := by
  have hstate : (p.writeClimate st.params).climate.state ≠ .regulate := fun k => by simp [Climate.hot, k] at h
  have hreached : (p.stageGated st).program.preheatReached = false := by
    rw [Part.stageGated_cold h]
    exact (congrArg Program.preheatReached (Part.writeClimate_program hstate)).trans hr
  rw [Part.beginStage_sound hst hp hm he hd, if_neg (by simp [hreached])]
  refine ⟨(p.stageGated_state st).1, ?_, hreached⟩
  rw [(p.stageGated_state st).2, hp]
  rfl

end

/-- R124: a hot climate sets the flag and raises PREHEAT_REACHED, whatever the test of the degraded conditions finds. -/
theorem Part.beginStage_reached {p : Part} {st : Stage} (hp : st.preheat = true)
    (h : (p.writeClimate st.params).climate.hot = true) : (p.beginStage st).program.preheatReached = true
      ∧ (p.beginStage st).notice.pending.getLsbD (noticePosition .preheatReached) = true := by
  rw [Part.beginStage_eq, Part.stageGated_hot hp h]
  exact ⟨(Part.testDegraded_leaves _ true).2, Part.testDegraded_pending true (NoticeUnit.raise_self _ .preheatReached)⟩

/-! ### The start of a program (R122, R123) -/

/-- R123: the blocks at the entry to a stage. -/
def Part.atStage (p : Part) (i : Nat) : Part := { p with
  program.state := .running, program.reason := none, program.index := i, program.elapsed := 0
  program.preheatReached := false, program.step := .notBegun }

/-- R123: a stage that prompts at its start waits, and any other begins. -/
theorem Part.enterStage_eq {p : Part} {i : Nat} {st : Stage} (h : p.program.stages[i]? = some st) :
    p.enterStage i = if st.promptPoint = .atStart then (p.atStage i).promptUser else (p.atStage i).beginStage st := by
  have hc : (p.atStage i).program.current = some st := h
  unfold Part.enterStage
  dsimp only
  split
  · next t ht => rw [Option.some.inj (hc.symm.trans ht)]; rfl
  · next ht => exact absurd (hc.symm.trans ht) (by simp)

/-- R122: the blocks at the start of a program, before its first stage. -/
def Part.restarted (p : Part) : Part := { p with
  program.written := none, program.resume := none, program.settlement := none, program.state := .running }

/-- R122: a manual climate ends where the first stage prompts at its start. -/
def Part.freed (p : Part) (st : Stage) : Part := if st.promptPoint = .atStart then p.endCooking else p

theorem Part.freed_program (p : Part) (st : Stage) : (p.freed st).program = p.program := by
  unfold Part.freed; split <;> simp

theorem Part.freed_mode (p : Part) (st : Stage) : (p.freed st).mode = p.mode := by
  unfold Part.freed; split <;> simp

/-- R122: with the mains present a program starts at its stage. -/
theorem Part.startProgram_eq {p : Part} {i : Nat} {st : Stage} (h : p.program.stages[i]? = some st)
    (hm : p.mode.mainsLoss = false) : p.startProgram i = (p.freed st).restarted.enterStage i := by
  have hk := (Part.enterStage_keeps i (Part.Keeps.refl (p.freed st).restarted)).fixed
  have hloss : ((p.freed st).restarted.enterStage i).mode.mainsLoss = (p.freed st).mode.mainsLoss :=
    congrArg (fun f => f.mainsLoss) hk
  rw [Part.freed_mode, hm] at hloss
  have hstart : p.startProgram i = if ((p.freed st).restarted.enterStage i).mode.mainsLoss
      then ((p.freed st).restarted.enterStage i).pauseProgram .mains else (p.freed st).restarted.enterStage i := by
    simp only [Part.startProgram, h, Part.freed, decide_eq_true_eq]
    rfl
  rw [hstart, if_neg (by simp [hloss])]

/-- R122, R123: what a start leaves at a stage that prompts at its start. -/
theorem Part.startProgram_prompts {p : Part} {i : Nat} {st : Stage} (h : p.program.stages[i]? = some st)
    (hm : p.mode.mainsLoss = false) (hs : st.promptPoint = .atStart) :
    p.startProgram i = ((p.freed st).restarted.atStage i).promptUser := by
  have hstage : (p.freed st).restarted.program.stages[i]? = some st :=
    (congrArg (fun g : Program => g.stages[i]?) (p.freed_program st)).trans h
  rw [Part.startProgram_eq h hm, Part.enterStage_eq hstage, if_pos hs]

/-- R122, R123: a start at any other stage begins it. -/
theorem Part.startProgram_begins {p : Part} {i : Nat} {st : Stage} (h : p.program.stages[i]? = some st)
    (hm : p.mode.mainsLoss = false) (hs : st.promptPoint ≠ .atStart) :
    p.startProgram i = ((p.freed st).restarted.atStage i).beginStage st := by
  have hstage : (p.freed st).restarted.program.stages[i]? = some st :=
    (congrArg (fun g : Program => g.stages[i]?) (p.freed_program st)).trans h
  rw [Part.startProgram_eq h hm, Part.enterStage_eq hstage, if_neg hs]

/-- R122, R123: the executor at the entry to the first stage of a program. -/
theorem Part.freed_atStage_program (p : Part) (st : Stage) (i : Nat) : ((p.freed st).restarted.atStage i).program =
    { p.program with written := none, resume := none, settlement := none, state := .running, reason := none, index := i
                     elapsed := 0, preheatReached := false, step := .notBegun } := by
  rw [← p.freed_program st]
  rfl

end Sys2Proof.Machine
end

section
/-! SUPPORT. Scan completions and boundaries (R126 to R131), the settlement that leaves BOUNDARY_WAIT (R128, R129), and the
stage timer (R125). -/

namespace Sys2Proof.Machine

/-! ### Scan completions (R126, R130) -/

/-- R126: the CORE half of the end condition. -/
theorem Part.coreReached_iff (p : Part) (st : Stage) : p.coreReached st = true ↔
    st.endCondition ∈ [.core, .timeOrCore] ∧ ∃ t, p.ring.image.tcore = some t ∧ st.coreTarget ≤ t := by
  cases h : p.ring.image.tcore <;> simp [Part.coreReached, h]

/-- R126: the current stage counts, and its CORE half is met at the reading `t`. -/
def Part.CoreMet (p : Part) (st : Stage) (t : Int) : Prop :=
  p.program.state = .running ∧ p.program.step = .counting ∧ p.program.stages[p.program.index]? = some st
    ∧ st.endCondition ∈ [.core, .timeOrCore] ∧ p.ring.image.tcore = some t ∧ st.coreTarget ≤ t

/-- R126, R130: a scan completion tests the degraded conditions and then finishes a stage whose CORE half is met. -/
theorem Part.scanProgram_met {p : Part} {st : Stage} {t : Int} (h : (p.testDegraded false).CoreMet st t) :
    p.scanProgram = (p.testDegraded false).finishStage st := by
  obtain ⟨hs, hp, hst, he, ht, hle⟩ := h
  have hcore := (Part.coreReached_iff _ _).2 ⟨he, t, ht, hle⟩
  simp [Part.scanProgram, hs, hp, Part.current_running hs hst, hcore]

theorem Part.scanProgram_unmet {p : Part} (h : ∀ st t, ¬(p.testDegraded false).CoreMet st t) :
    p.scanProgram = p.testDegraded false := by
  unfold Part.scanProgram
  dsimp only
  split
  · next st hs hp hc =>
    rw [Program.current_of_runs (by rw [hs]; rfl)] at hc
    refine if_neg fun hcore => ?_
    obtain ⟨he, t, ht, hle⟩ := (Part.coreReached_iff _ _).1 hcore
    exact h st t ⟨hs, hp, hc, he, ht, hle⟩
  · rfl

/-- R126, R127: a stage that prompts at its end waits, and any other reaches its boundary. -/
theorem Part.finishStage_eq (p : Part) (st : Stage) : p.finishStage st =
    if st.promptPoint = .atEnd then Part.raiseNotice { p with program := { p.program with
      step := .finished, state := .waiting, reason := some .prompt } } .prompt
    else p.boundary := rfl

/-- Section 7.6: the degraded conditions in their order, after the beginning of a stage. -/
theorem Part.degraded_eq (p : Part) (st : Stage) : p.degraded st false =
    if st.params.mode = .steam ∧ (p.steamFault = true ∨ p.scale.lock = true) then some .steamFault
    else if st.params.mode = .steam ∧ p.boiler.state = .fillPaused then some .water
    else if st.endCondition = .core ∧ p.ring.image.tcore = none then some .probeLost
    else none := by
  simp only [Part.degraded, Part.lacksSteam_iff, Part.lacksWater_iff, Part.lacksProbe_iff]

/-! ### Leaving BOUNDARY_WAIT (R128, R129) -/

/-- R128: the executor as it goes on from a boundary. -/
def Part.leaving (p : Part) : Part := { p with program.state := .running, program.settlement := none }

theorem Part.tellExecutor_waiting {p : Part} (h : p.program.state = .boundaryWait) (how : Settlement) :
    p.tellExecutor how = p.goOn := if_pos h

/-- R128: the next stage follows, or the end action after the last one. -/
theorem Part.goOn_eq (p : Part) : p.goOn =
    if p.program.stages.length ≤ p.program.index + 1 then p.leaving.endAction
    else p.leaving.enterStage (p.program.index + 1) := by
  have h : p.goOn = if p.program.index + 1 < p.program.stages.length then p.leaving.enterStage (p.program.index + 1)
      else p.leaving.endAction := rfl
  rw [h]
  split
  · next hk => rw [if_neg (by omega)]
  · next hk => rw [if_pos (by omega)]

/-- R129, R140: the end action is HOLD where the header says so and the ring element heats, else STOP. -/
theorem Part.endAction_eq (p : Part) : p.endAction =
    if p.program.header.endAction = .hold ∧ p.store.groupMax .hotAir ≠ 0
    then (p.enterHold p.program.header.holdSetpoint p.program.header.moist).programEnded
    else p.endCooking.programEnded := by
  unfold Part.endAction
  split
  · next h => simp [h]
  · next h => simp [h]

/-! ### The moist HOLD (R14, R140) -/

/-- R14: the steam test of a COMBI climate with a humidity setpoint. -/
theorem Part.steamTestValue_humid {p : Part} {c : ClimateParams} {set h : Int} (hf : p.steamHeldClear = false)
    (hp : p.climate.params = some c) (hm : c.mode = .combi) (hs : c.humidity = some set)
    (hh : p.ring.image.humidity = some h) : p.steamTestValue =
      if h < 2 * set - 6 then true else if 2 * set ≤ h then false else p.climate.steamWanted := by
  simp [Part.steamTestValue, hf, hp, hm, hs, hh]

/-- R4, R14: in PREHEAT and REGULATE a write keeps cooking active, so that its steam test asks the new record. -/
theorem Part.updateClimate_steamWanted (p : Part) (c : ClimateParams) : (p.updateClimate c).climate.steamWanted =
    (((p.rewritten c).rewriteDemand c (p.changesMode c || p.climate.state = .preheat)).pulseAtWrite c).steamTestValue := by
  have hvent (q : Part) : q.ventTest.climate.steamWanted = q.climate.steamWanted := by
    unfold Part.ventTest Part.setVent; repeat' split
    all_goals rfl
  rw [Part.updateClimate_eq, Part.writeTail, hvent, Part.steamTest_steamWanted]

/-- R15: the pulse of a write moves the pulse timer and its count alone. -/
theorem Part.pulseAtWrite_eq (p : Part) (c : ClimateParams) : p.pulseAtWrite c = { p with
    climate.pulseCount := 0, climate.pulseTimer := (p.pulseAtWrite c).climate.pulseTimer } := by
  unfold Part.pulseAtWrite
  split <;> rfl

/-- R4, R14: what the steam test of a write in a cooking state finds. -/
theorem Part.updateClimate_tested (p : Part) (c : ClimateParams) (full : Bool) :
    let x := ((p.rewritten c).rewriteDemand c full).pulseAtWrite c
    x.climate.params = some c ∧ x.climate.state = (p.raiseTested c).climate.state
      ∧ x.climate.steamWanted = p.climate.steamWanted ∧ x.ring = p.ring ∧ x.scale = p.scale ∧ x.mode = p.mode
      ∧ x.program = p.program := by
  intro x
  have hx : x = ((p.rewritten c).rewriteDemand c full).pulseAtWrite c := rfl
  rw [hx, Part.pulseAtWrite_eq, Part.rewriteDemand_eq, Part.rewritten_eq]
  exact ⟨rfl, rfl, rfl, rfl, rfl, rfl, rfl⟩

/-- R4, R8: a write in PREHEAT or REGULATE leaves one of the two. -/
theorem Part.raiseTested_active {p : Part} (c : ClimateParams)
    (h : p.climate.state = .preheat ∨ p.climate.state = .regulate) :
    (p.raiseTested c).climate.state = .preheat ∨ (p.raiseTested c).climate.state = .regulate := by
  rcases h with h | h
  · exact .inl (Part.raiseTested_preheat c h)
  · cases hr : raised p.climate.ts (tsAtWrite p.ring.image c)
    · exact .inr ((Part.raiseTested_steady hr).1.trans h)
    · exact .inl (Part.raiseTested_regulate h hr).1

/-- R14, R140: a moist HOLD that is written while cooking is active is steam-tested by the COMBI rules. -/
theorem Part.enterHold_steamWanted {p : Part} {h : Int} (setpoint : Int)
    (hs : p.climate.state = .preheat ∨ p.climate.state = .regulate) (hl : p.scale.lock = false)
    (hm : p.mode.mainsLoss = false) (hb : p.program.state ≠ .boundaryWait) (hh : p.ring.image.humidity = some h) :
    (p.enterHold setpoint true).climate.steamWanted =
      if h < 114 then true else if 120 ≤ h then false else p.climate.steamWanted := by
  have hcooking : p.climate.state ∈ [.preheat, .regulate, .doorPause] := by
    rcases hs with hs | hs <;> simp [hs]
  have hwrite : (p.enterHold setpoint true).climate = (p.updateClimate (holdClimate setpoint true)).climate := by
    rw [Part.enterHold, Part.setMode_climate, Part.writeClimate_cooking _ hcooking]
  obtain ⟨hparams, hstate, hwanted, hring, hscale, hmode, hprogram⟩ := p.updateClimate_tested (holdClimate setpoint true)
    (p.changesMode (holdClimate setpoint true) || p.climate.state = .preheat)
  have hactive := Part.raiseTested_active (holdClimate setpoint true) hs
  rw [← hstate] at hactive
  rw [hwrite, Part.updateClimate_steamWanted,
    Part.steamTestValue_humid (set := 60) (h := h)
      (Part.steamHeldClear_eq_false (by rw [hscale]; exact hl) (by rw [hmode]; exact hm) (by rw [hprogram]; exact hb) hactive)
      hparams rfl rfl (by rw [hring]; exact hh), hwanted]
  norm_num

/-! ### The stage timer (R125) -/

/-- R125: the stage timer counts while the program is in COUNTING, but for an open door without DOOR_CONTINUE. -/
theorem Part.stageTimerRuns_iff {p : Part} {st : Stage} (hs : p.program.state = .running)
    (hp : p.program.step = .counting) (hst : p.program.stages[p.program.index]? = some st) :
    p.stageTimerRuns = true ↔ p.climate.state ≠ .doorPause ∨ st.doorContinue = true := by
  simp [Part.stageTimerRuns, hs, hp, Part.current_running hs hst]

/-- R125: the blocks after a second of the stage timer. -/
def Part.secondCounted (p : Part) : Part := { p with program.elapsed := bump 86400 p.program.elapsed }

theorem Part.secondCounted_eq (p : Part) :
    p.secondCounted = { p with program := { p.program with elapsed := min 86400 (p.program.elapsed + 1) } } := by
  rw [Part.secondCounted, bump_eq]

/-- R126: the TIME half of the end condition. -/
theorem Part.timeReached_iff (p : Part) (st : Stage) : p.timeReached st = true ↔
    st.endCondition ∈ [.time, .timeOrCore] ∧ st.duration ≤ p.program.elapsed := by
  simp [Part.timeReached]

/-- R125, R126: a second that the stage timer counts finishes a stage whose TIME half is then met. -/
theorem Part.stageSecond_counts {p : Part} {st : Stage} (hs : p.program.state = .running)
    (hp : p.program.step = .counting) (hst : p.program.stages[p.program.index]? = some st)
    (hd : p.climate.state ≠ .doorPause ∨ st.doorContinue = true) : p.stageSecond =
      if p.secondCounted.timeReached st then p.secondCounted.finishStage st else p.secondCounted := by
  have hcurrent : p.secondCounted.program.current = some st := Part.current_running (p := p.secondCounted) hs hst
  rw [Part.stageSecond, if_pos ((Part.stageTimerRuns_iff hs hp hst).2 hd)]
  dsimp only
  split
  · next t ht => rw [Option.some.inj (hcurrent.symm.trans ht)]; rfl
  · next ht => exact absurd (hcurrent.symm.trans ht) (by simp)

/-- R125: a tick of a stage timer that the door has stopped changes nothing. -/
theorem Part.stageSecond_stopped {p : Part} {st : Stage} (hs : p.program.state = .running)
    (hp : p.program.step = .counting) (hst : p.program.stages[p.program.index]? = some st)
    (hd : ¬(p.climate.state ≠ .doorPause ∨ st.doorContinue = true)) : p.stageSecond = p :=
  if_neg ((Part.stageTimerRuns_iff hs hp hst).not.2 hd)

end Sys2Proof.Machine
end

section
/-! SUPPORT. STAGE_CONFIRM and STAGE_SKIP by state, reason and step (R127, R132), and the stage control of the executor. -/

namespace Sys2Proof.Machine

/-! ### STAGE_SKIP (R132) -/

theorem Part.stageSkip_accepted {p : Part} (h : p.program.state = .running ∨ p.program.state = .waiting) :
    p.stageSkip = (p.boundary, .bare .ok) := if_pos h

theorem Part.stageSkip_refused {p : Part} (hr : p.program.state ≠ .running) (hw : p.program.state ≠ .waiting) :
    p.stageSkip = (p, .bare .refusedState) := if_neg (not_or.2 ⟨hr, hw⟩)

/-! ### STAGE_CONFIRM (R127) -/

/-- R127: a confirmation on a waiting prompt, where the step has one. -/
theorem Part.stageConfirm_prompt {p : Part} {st : Stage} (hs : p.program.state = .waiting)
    (hr : p.program.reason = some .prompt) (hst : p.program.stages[p.program.index]? = some st) : p.stageConfirm =
      if p.program.step = .counting then (p, .bare .refusedState) else (p.confirmPrompt st, .bare .ok) := by
  have hc : p.program.current = some st := by rw [Program.current_of_runs (by rw [hs]; rfl), hst]
  simp only [Part.stageConfirm, hs, hr, hc]
  rfl

theorem Part.stageConfirm_probeLost {p : Part} (hs : p.program.state = .waiting)
    (hr : p.program.reason = some .probeLost) : p.stageConfirm =
      if p.ring.image.tcore.isSome then (p.returnRunning, .bare .ok) else (p, .bare .refusedState) := by
  simp only [Part.stageConfirm, hs, hr]
  rfl

theorem Part.stageConfirm_steamFault {p : Part} (hs : p.program.state = .waiting)
    (hr : p.program.reason = some .steamFault) : p.stageConfirm =
      if p.scale.lock then (p, .bare .locked) else if p.steamFault then (p, .bare .refusedState)
      else (p.returnRunning, .bare .ok) := by
  simp only [Part.stageConfirm, hs, hr]
  rfl

/-- R127: a wait for water ends by itself. -/
theorem Part.stageConfirm_water {p : Part} (hs : p.program.state = .waiting)
    (hr : p.program.reason = some .water) : p.stageConfirm = (p, .bare .refusedState) := by
  simp only [Part.stageConfirm, hs, hr]
  rfl

theorem Part.stageConfirm_running {p : Part} {st : Stage} (hs : p.program.state = .running)
    (hst : p.program.stages[p.program.index]? = some st) : p.stageConfirm =
      if st.endCondition = .confirm ∧ p.program.step = .counting then (p.finishStage st, .bare .ok)
      else (p, .bare .refusedState) := by
  simp only [Part.stageConfirm, hs, Part.current_running hs hst]
  rfl

theorem Part.stageConfirm_other {p : Part} (hr : p.program.state ≠ .running) (hw : p.program.state ≠ .waiting) :
    p.stageConfirm = (p, .bare .refusedState) := by
  unfold Part.stageConfirm
  split
  case h_5 => rfl
  case h_4 hs _ => exact absurd hs hr
  all_goals exact absurd ‹p.program.state = .waiting› hw

section
variable {s : State} {q : Part} (hl : s.listening) (ha : s.admits .stageConfirm)
include hl ha

/-- R127: STAGE_CONFIRM answers what the executor answers, an acceptance or a refusal. -/
theorem exec_stageConfirm_accepted (h : s.part.stageConfirm = (q, .bare .ok)) :
    exec .stageConfirm s = .next (s.carried .stageConfirm ⟨.ok, []⟩ q) :=
  exec_carried (q := .stageConfirm) hl ha (congrArg (s.taken .stageConfirm).acting h) rfl

theorem exec_stageConfirm_refused {c : ResultCode} (h : s.part.stageConfirm = (q, .bare c)) (hc : carriedOut c = false) :
    exec .stageConfirm s = .next (s.replied .stageConfirm ⟨c, []⟩) :=
  exec_declined (q := .stageConfirm) (p := q) hl ha (congrArg (s.taken .stageConfirm).acting h) hc

end

/-! ### The executor by its parts -/

/-- R122, R123: how a program starts at a stage. -/
theorem Part.startProgram_starts {p : Part} {i : Nat} {st : Stage} (h : p.program.stages[i]? = some st)
    (hm : p.mode.mainsLoss = false) :
    (p.startProgram i).program.index = i ∧ (p.startProgram i).program.elapsed = 0
      ∧ (p.startProgram i).program.stages = p.program.stages
      ∧ (st.promptPoint = .atStart → (p.startProgram i).program.state = .waiting
        ∧ (p.startProgram i).program.reason = some .prompt
        ∧ (p.startProgram i).program.step = .notBegun ∧ (p.startProgram i).program.written = none
        ∧ (p.startProgram i).notice.pending.getLsbD (noticePosition .prompt) = true)
      ∧ (st.promptPoint ≠ .atStart → (p.startProgram i).program.written = some st.params
        ∧ (p.startProgram i).notice.pending.getLsbD (noticePosition .stageChange) = true) := by
  have hentry := p.freed_atStage_program st i
  by_cases hs : st.promptPoint = .atStart
  · rw [Part.startProgram_prompts h hm hs]
    have hprogram : ((p.freed st).restarted.atStage i).promptUser.program
        = { ((p.freed st).restarted.atStage i).program with state := .waiting, reason := some .prompt } := rfl
    rw [hprogram, hentry]
    exact ⟨rfl, rfl, rfl, fun _ => ⟨rfl, rfl, rfl, rfl, NoticeUnit.raise_self _ .prompt⟩, fun k => absurd hs k⟩
  · rw [Part.startProgram_begins h hm hs]
    have hscript := ((p.freed st).restarted.atStage i).beginStage_script st
    rw [hentry] at hscript
    exact ⟨congrArg (fun g => g.index) hscript, congrArg (fun g => g.elapsed) hscript,
      congrArg (fun g => g.stages) hscript, fun k => absurd k hs,
      fun _ => ⟨congrArg (fun g => g.written) hscript, Part.beginStage_stageChange _ st⟩⟩

/-- Section 7.6: the first degraded condition that holds makes a stage in PREHEATING or COUNTING wait. -/
theorem Part.testDegraded_cases {p : Part} {st : Stage} (hs : p.program.state = .running)
    (hp : p.program.step = .preheating ∨ p.program.step = .counting)
    (hst : p.program.stages[p.program.index]? = some st) :
    let steamless := st.params.mode = .steam ∧ (p.steamFault = true ∨ p.scale.lock = true)
    let waterless := st.params.mode = .steam ∧ p.boiler.state = .fillPaused
    let probeless := st.endCondition = .core ∧ p.ring.image.tcore = none
    (steamless → p.testDegraded false = p.waitFor .steamFault)
      ∧ (¬steamless → waterless → p.testDegraded false = p.waitFor .water)
      ∧ (¬steamless → ¬waterless → probeless → p.testDegraded false = p.waitFor .probeLost)
      ∧ (¬steamless → ¬waterless → ¬probeless →
        (p.program.step = .counting ∨ p.program.preheatReached = false → p.testDegraded false = p)
        ∧ (p.program.step = .preheating → p.program.preheatReached = true → p.testDegraded false = p.passGate)) := by
  intro steamless waterless probeless
  have hd : p.degraded st false = if steamless then some .steamFault else if waterless then some .water
      else if probeless then some .probeLost else none := p.degraded_eq st
  refine ⟨fun h₁ => ?_, fun h₁ h₂ => ?_, fun h₁ h₂ h₃ => ?_, fun h₁ h₂ h₃ => ?_⟩
  · exact Part.testDegraded_some hs hst hp (hd.trans (if_pos h₁))
  · rw [if_neg h₁, if_pos h₂] at hd
    exact Part.testDegraded_some hs hst hp hd
  · rw [if_neg h₁, if_neg h₂, if_pos h₃] at hd
    exact Part.testDegraded_some hs hst hp hd
  · rw [if_neg h₁, if_neg h₂, if_neg h₃] at hd
    rw [Part.testDegraded_none hs hst hp hd]
    refine ⟨fun k => if_neg ?_, fun hpre hreached => if_pos ⟨hpre, hreached⟩⟩
    rintro ⟨hpre, hreached⟩
    rcases k with k | k
    · rw [hpre] at k
      cases k
    · rw [hreached] at k
      cases k

/-- R128, R129: how a settlement makes the executor leave BOUNDARY_WAIT. -/
theorem Part.goOn_cases (p : Part) :
    let last := p.program.stages.length ≤ p.program.index + 1
    let holds := p.program.header.endAction = .hold ∧ p.store.groupMax .hotAir ≠ 0
    (¬last → p.goOn = p.leaving.enterStage (p.program.index + 1))
      ∧ (last → ¬holds → p.goOn = p.leaving.endCooking.programEnded)
      ∧ (last → holds → p.goOn =
        (p.leaving.enterHold p.program.header.holdSetpoint p.program.header.moist).programEnded) := by
  intro last holds
  rw [p.goOn_eq]
  refine ⟨fun hn => if_neg hn, fun hlast hn => ?_, fun hlast hh => ?_⟩
  · rw [if_pos hlast, p.leaving.endAction_eq]
    exact if_neg hn
  · rw [if_pos hlast, p.leaving.endAction_eq]
    exact if_pos hh

/-- R93, R128: what a boundary does by the owed count. -/
theorem Part.boundary_cases (p : Part) :
    let finished : Part := { p with
      program.step := .finished, program.reason := none, program.settlement := none }
    (p.scale.owed < 4 → p.boundary = finished.goOn)
      ∧ (4 ≤ p.scale.owed → p.boundary = Part.requestBlowdown { finished with
        program.state := .boundaryWait, climate.steamWanted := false }) :=
  ⟨fun h => if_pos h, fun h => if_neg (Nat.not_lt.2 h)⟩

/-- Settles O55: the stages by their lemmas, and the requests and the tick by what the executor makes of them. -/
theorem stageControl : Obligations.StageControl := by
  refine ⟨fun p i st h hm => Part.startProgram_starts h hm, fun p st hst hpre => ?begin,
    fun p => ⟨fun st t => Part.scanProgram_met, Part.scanProgram_unmet, fun st => ?finish, ?degraded,
      fun h => Part.testDegraded_idle h false⟩,
    fun p how hw => ?settlement, fun s => ⟨fun _ => s.part.boundary_cases, fun hl ha => ?skip,
      fun st hst hl ha => ?confirm,
      fun hl ha hr hw => exec_stageConfirm_refused hl ha (Part.stageConfirm_other hr hw) rfl,
      fun st hs hp hst => ?tick⟩⟩
  case begin =>
    simp only [← Climate.hot_iff]
    refine ⟨Part.beginStage_reached hpre, fun hm he hd => ⟨fun hh hn => ?_, fun hh ha => ?_, fun hh hr => ?_⟩⟩
    · rw [Part.beginStage_hot hst hpre hm he hd hh, if_neg hn]
      exact ⟨(p.stageGated_state st).1, rfl⟩
    · rw [Part.beginStage_hot hst hpre hm he hd hh, if_pos ha]
      exact ⟨rfl, rfl, (p.stageGated_state st).2.trans (if_pos hpre), NoticeUnit.raise_self _ .prompt⟩
    · exact Part.beginStage_cold hst hpre hm he hd (Bool.eq_false_iff.2 hh) hr
  case finish =>
    rw [p.finishStage_eq st]
    exact ⟨fun h => if_pos h, fun h => if_neg h⟩
  case degraded => exact fun st hs hp hst => Part.testDegraded_cases hs hp hst
  case settlement =>
    obtain ⟨hnext, hstop, hhold⟩ := p.goOn_cases
    rw [Part.tellExecutor_waiting hw how]
    refine ⟨hnext, hstop, fun hlast hh => ⟨hhold hlast hh, fun hmoist hs hl hm h hhum => ?_⟩⟩
    have hsteam : p.goOn.climate.steamWanted = if h < 114 then true else if 120 ≤ h then false
        else p.climate.steamWanted := by
      rw [hhold hlast hh, hmoist]
      exact Part.enterHold_steamWanted (p := p.leaving) _ hs hl hm (fun k => nomatch k) hhum
    rw [hsteam]
    exact ⟨fun hlow => if_pos hlow, fun hhigh => by rw [if_neg (by omega), if_pos hhigh],
      fun hmid hhigh => by rw [if_neg (by omega), if_neg (by omega)]⟩
  case skip =>
    refine ⟨fun h => ?_, fun hr hw => ?_⟩
    · exact exec_carried (q := .stageSkip) hl ha
        (congrArg (s.taken .stageSkip).acting (Part.stageSkip_accepted h)) rfl
    · exact exec_declined (q := .stageSkip) hl ha
        (congrArg (s.taken .stageSkip).acting (Part.stageSkip_refused hr hw)) rfl
  case confirm =>
    refine ⟨fun hs hr => ?prompt, fun hs hr => ?probe, fun hs hr => ?steam,
      fun hs hr => exec_stageConfirm_refused hl ha (Part.stageConfirm_water hs hr) rfl,
      fun hs he hp => ?_, fun hs hn => ?_, fun hs hr hp => ?_,
      fun hr hw => exec_stageConfirm_refused hl ha (Part.stageConfirm_other hr hw) rfl⟩
    case prompt =>
      have hc := Part.stageConfirm_prompt hs hr hst
      refine ⟨fun hp => ?_, fun hp => ?_, fun hp => ?_⟩
      all_goals
        rw [hp, if_neg (by decide), Part.confirmPrompt, hp] at hc
        exact exec_stageConfirm_accepted hl ha hc
    case probe =>
      have hc := Part.stageConfirm_probeLost hs hr
      exact ⟨fun h => exec_stageConfirm_accepted hl ha (hc.trans (if_pos h)),
        fun h => exec_stageConfirm_refused hl ha (hc.trans (if_neg (by simp [h]))) rfl⟩
    case steam =>
      have hc := Part.stageConfirm_steamFault hs hr
      refine ⟨fun hk => ?_, fun hk hf => ?_, fun hk hf => ?_⟩
      · exact exec_stageConfirm_refused hl ha (hc.trans (if_pos hk)) rfl
      · rw [if_neg (by simp [hk]), if_pos hf] at hc
        exact exec_stageConfirm_refused hl ha hc rfl
      · rw [if_neg (by simp [hk]), if_neg (by simp [hf])] at hc
        exact exec_stageConfirm_accepted hl ha hc
    · exact exec_stageConfirm_accepted hl ha ((Part.stageConfirm_running hs hst).trans (if_pos ⟨he, hp⟩))
    · exact exec_stageConfirm_refused hl ha
        ((Part.stageConfirm_running hs hst).trans (if_neg (not_and_or.2 hn))) rfl
    · exact exec_stageConfirm_refused hl ha ((Part.stageConfirm_prompt hs hr hst).trans (if_pos hp)) rfl
  case tick =>
    refine ⟨fun ⟨hd, hc⟩ => ?_, fun hd => ?_⟩
    · exact next_settled (Part.stageSecond_stopped hs hp hst (by simp [hd, hc]))
    · have hsecond := Part.stageSecond_counts hs hp hst hd
      have htime := s.part.secondCounted.timeReached_iff st
      rw [Part.secondCounted_eq] at hsecond htime
      refine ⟨fun hn => ?_, fun he hle => ?_⟩
      · refine next_settled (hsecond.trans (if_neg fun k => ?_))
        obtain ⟨he, hle⟩ := htime.1 k
        rcases hn with hn | hn
        · exact hn he
        · exact absurd hle (Nat.not_le.2 hn)
      · exact next_settled (hsecond.trans (if_pos (htime.2 ⟨he, hle⟩)))

end Sys2Proof.Machine
end

section
/-! SUPPORT. The grants of a window boundary (R28 to R35): the pass over the elements by its recursion, the turn of the
boiler, and the gates that follow the on-cycle counts. -/

namespace Sys2Proof.Machine

/-! ### Interlocks and order (R27, R30, R31) -/

/-- R30: the cavity inhibition, by its causes. -/
theorem Part.cavityInhibited_iff (p : Part) : p.cavityInhibited = true ↔
    p.ring.image.doorClosed = false ∨ p.ring.linked .cavityTemp = false ∨ p.critical = true
      ∨ p.mode.mode = .standby := by
  simp [Part.cavityInhibited, or_assoc]

/-- R30: the boiler interlock. -/
theorem Part.boilerAllowed_iff (p : Part) : p.boilerAllowed = true ↔
    p.ring.image.lowWet = true ∧ (∃ t, p.ring.image.boilerTemp = some t ∧ t < 1400)
      ∧ p.steamFault = false ∧ p.critical = false ∧ p.mode.mode ≠ .standby := by
  cases h : p.ring.image.boilerTemp <;> simp [Part.boilerAllowed, h, and_assoc]

/-- R31: a current stage carries STEAM_PRIORITY. -/
theorem Program.steamPriority_iff (g : Program) : g.steamPriority = true ↔
    ∃ st, g.state ∈ [.running, .waiting, .paused, .boundaryWait] ∧ g.stages[g.index]? = some st
      ∧ st.steamPriority = true := by
  rw [← ProgramState.runs_iff]
  cases hr : g.state.runs <;> cases hs : g.stages[g.index]? <;>
    simp [Program.steamPriority, Program.current, hr, hs]

/-- R31: the boiler goes before the cavity group. -/
theorem Part.boilerFirst_iff (p : Part) : p.boilerFirst = true ↔
    (p.power.relay = true ∧ p.power.onDwell < 5) ∨ 10 ≤ p.power.deferral
      ∨ ((∃ st, p.program.state ∈ [.running, .waiting, .paused, .boundaryWait]
          ∧ p.program.stages[p.program.index]? = some st ∧ st.steamPriority = true)
        ∨ (p.mode.mode = .hold ∧ p.mode.holdMoist = true) ∨ p.boiler.owner = .descale) := by
  rw [← Program.steamPriority_iff]
  simp [Part.boilerFirst, Part.boilerPriority, or_assoc]

/-- R32: the boiler's turn, with this power remaining. -/
theorem Part.boilerFits_iff (p : Part) (remains : Nat) : p.boilerFits remains = true ↔
    p.store.num 1 ≤ remains ∧ (p.power.relay = true ∨ 3 ≤ p.power.offDwell) := by
  simp [Part.boilerFits]

/-- R27: the demand of each element, capped at its rating. -/
theorem Part.cappedDemands_get (p : Part) (e : Element) :
    p.cappedDemands.get e = min (p.store.rating e) (p.power.demands.get e) := by
  rw [Part.cappedDemands, PerElement.get_of, clampNat_eq 0 _ _ (Nat.zero_le _), Nat.zero_max]

theorem modeGroup_nodup (m : HeatMode) : ((modeGroup m).map Prod.fst).Nodup := by cases m <;> decide

/-- R1: no element claims twice. -/
theorem Part.claimants_nodup (p : Part) : p.claimants.Nodup := by
  unfold Part.claimants
  repeat' split
  · exact List.nodup_nil
  · exact modeGroup_nodup _
  · exact List.nodup_nil

/-- R30, R31: the claimants are the elements of the mode's group, and none under the inhibition. -/
theorem Part.mem_claimants (p : Part) (e : Element) : e ∈ p.claimants ↔
    p.cavityInhibited = false ∧ ∃ c, p.climate.params = some c ∧ ∃ x ∈ modeGroup c.mode, x.1 = e := by
  cases hi : p.cavityInhibited <;> cases hc : p.climate.params <;> simp [Part.claimants, hi, hc]

/-! ### The pass over the elements (R33) -/

/-- The watts of all elements together. -/
def PerElement.total (w : PerElement Nat) : Nat := w.top + w.bottom + w.ring + w.grill

theorem PerElement.total_put (w : PerElement Nat) (e : Element) (a : Nat) :
    (w.put e a).total + w.get e = w.total + a := by
  cases e <;> simp only [PerElement.put, PerElement.total, PerElement.get] <;> omega

/-- R33: what the pass makes of the first element in the order. -/
def Granting.grant (g : Granting) (e : Element) (demand : Nat) : Granting :=
  ⟨g.watts.put e (min demand g.remains), g.curtailed.put e (decide (min demand g.remains < demand)),
    g.remains - min demand g.remains⟩

theorem grantElements_cons (d : PerElement Nat) (e : Element) (es : List Element) (g : Granting) :
    grantElements d (e :: es) g = grantElements d es (g.grant e (d.get e)) := by
  have hmin : (if d.get e < g.remains then d.get e else g.remains) = min (d.get e) g.remains := by
    split <;> omega
  rw [grantElements, Granting.grant]
  simp only [hmin]

/-- R33: an element outside the order is left as it is. -/
theorem grantElements_outside (d : PerElement Nat) {e : Element} {es : List Element} (h : e ∉ es) (g : Granting) :
    (grantElements d es g).watts.get e = g.watts.get e
      ∧ (grantElements d es g).curtailed.get e = g.curtailed.get e := by
  induction es generalizing g with
  | nil => exact ⟨rfl, rfl⟩
  | cons f es ih =>
    obtain ⟨hne, hmem⟩ := not_or.1 (List.mem_cons.not.1 h)
    obtain ⟨hwatts, hcurtailed⟩ := ih hmem (g.grant f (d.get f))
    rw [grantElements_cons, hwatts, hcurtailed]
    exact ⟨PerElement.get_put_ne _ _ hne, PerElement.get_put_ne _ _ hne⟩

/-- R33: the first element of the order takes the lower of its demand and what remains. -/
theorem grantElements_first (d : PerElement Nat) {e : Element} {es : List Element} (h : e ∉ es) (g : Granting) :
    (grantElements d (e :: es) g).watts.get e = min (d.get e) g.remains
      ∧ ((grantElements d (e :: es) g).curtailed.get e = true ↔ min (d.get e) g.remains < d.get e) := by
  obtain ⟨hwatts, hcurtailed⟩ := grantElements_outside d h (g.grant e (d.get e))
  rw [grantElements_cons, hwatts, hcurtailed]
  simp [Granting.grant]

/-- R33: each element of the order takes the lower of its demand and what those before it leave. -/
theorem grantElements_turn (d : PerElement Nat) {e : Element} {es : List Element} (hn : es.Nodup) (g : Granting) (k : Nat)
    (hk : es[k]? = some e) :
    let q := grantElements d es g
    q.watts.get e = min (d.get e) (g.remains - ((es.take k).map q.watts.get).sum)
      ∧ (q.curtailed.get e = true ↔ q.watts.get e < d.get e) := by
  induction es generalizing g k with
  | nil => simp at hk
  | cons f es ih =>
    obtain ⟨hf, hn⟩ := List.nodup_cons.1 hn
    obtain ⟨hwatts, hcurtailed⟩ := grantElements_first d hf g
    cases k with
    | zero =>
      obtain rfl : f = e := by simpa using hk
      exact ⟨by simpa using hwatts, by rw [hwatts]; exact hcurtailed⟩
    | succ k =>
      obtain ⟨hturn, hcut⟩ := ih hn (g.grant f (d.get f)) k (by simpa using hk)
      rw [← grantElements_cons] at hturn hcut
      refine ⟨?_, hcut⟩
      rw [List.take_succ_cons, List.map_cons, List.sum_cons, hwatts, hturn]
      simp only [Granting.grant, Nat.sub_sub]

/-- R33: what remains after the pass. -/
theorem grantElements_remains (d : PerElement Nat) {es : List Element} (hn : es.Nodup) (g : Granting) :
    (grantElements d es g).remains = g.remains - (es.map (grantElements d es g).watts.get).sum := by
  induction es generalizing g with
  | nil => simp [grantElements]
  | cons f es ih =>
    obtain ⟨hf, hn⟩ := List.nodup_cons.1 hn
    obtain ⟨hwatts, -⟩ := grantElements_first d hf g
    rw [List.map_cons, List.sum_cons, hwatts, grantElements_cons, ih hn]
    simp only [Granting.grant, Nat.sub_sub]

/-- R33: the pass gives out what it takes from the remaining power. -/
theorem grantElements_total (d : PerElement Nat) {es : List Element} (hn : es.Nodup) (g : Granting)
    (hz : ∀ e ∈ es, g.watts.get e = 0) :
    (grantElements d es g).watts.total + (grantElements d es g).remains = g.watts.total + g.remains := by
  induction es generalizing g with
  | nil => rfl
  | cons f es ih =>
    obtain ⟨hf, hn⟩ := List.nodup_cons.1 hn
    have hput := g.watts.total_put f (min (d.get f) g.remains)
    rw [hz f List.mem_cons_self] at hput
    have hrest : ∀ e ∈ es, (g.grant f (d.get f)).watts.get e = 0 := fun e he => by
      rw [← hz e (List.mem_cons_of_mem f he)]
      exact PerElement.get_put_ne _ _ fun h => hf (h ▸ he)
    rw [grantElements_cons, ih hn _ hrest]
    simp only [Granting.grant]
    omega

/-! ### The window boundary (R28, R32) -/

/-- R29: the power that the grants of a boundary share. -/
def Part.availablePower (p : Part) : Nat := p.store.num 0 - p.auxLoad

/-- R30, R32: the boiler is requested, and meets no interlock. -/
def Part.boilerRequested (p : Part) : Bool := p.power.boilerRequest && p.boilerAllowed

/-- R31, R32: the boiler is granted before the cavity group. -/
def Part.boilerBefore (p : Part) : Bool := p.boilerRequested && p.boilerFirst && p.boilerFits p.availablePower

/-- R31: the power that the cavity group shares. -/
def Part.groupPower (p : Part) : Nat :=
  if p.boilerBefore then p.availablePower - p.store.num 1 else p.availablePower

/-- R33: the pass of a boundary over the claimants. -/
def Part.groupPass (p : Part) : Granting :=
  grantElements p.cappedDemands p.claimants ⟨.all 0, .all false, p.groupPower⟩

/-- R32: the boiler is granted at the boundary, before the group or after it. -/
def Part.boilerGranted (p : Part) : Bool :=
  p.boilerBefore || (p.boilerRequested && !p.boilerFirst && p.boilerFits p.groupPass.remains)

/-- R32: the relay follows the boiler's grant. -/
def Power.switched (w : Power) (granted : Bool) : Power := if granted then w.closeRelay else w.openRelay

/-- R28 to R35: the allocator after a boundary. -/
theorem Part.grantWindow_eq (p : Part) : p.grantWindow = { p with power := { p.power.switched p.boilerGranted with
    grants := ⟨p.groupPass.watts, p.groupPass.curtailed, if p.boilerGranted then p.store.num 1 else 0,
      .of (fun e => onCycleCount (p.groupPass.watts.get e) (p.store.rating e))⟩
    deferral :=
      if p.boilerGranted then 0
      else if p.boilerRequested then bump 255 p.power.deferral
      else if p.power.boilerRequest then p.power.deferral
      else 0
    crossing := 0
    withdrawn := false
    budget := p.store.num 0
    aux := p.auxLoad
    available := p.availablePower } } := rfl

/-- R28, R32: the relay is closed with a grant, and its dwell counts start from 0 where it moves. -/
theorem Power.switched_relay (w : Power) (granted : Bool) :
    let u := w.switched granted
    u.relay = granted ∧ (w.relay = false → granted = true → u.onDwell = 0 ∧ u.offDwell = w.offDwell)
      ∧ (w.relay = true → granted = false → u.onDwell = 0 ∧ u.offDwell = 0)
      ∧ (granted = w.relay → u.onDwell = w.onDwell ∧ u.offDwell = w.offDwell) := by
  cases granted <;> cases h : w.relay <;> simp [Power.switched, Power.closeRelay, Power.openRelay, h]

theorem Part.boilerBefore_iff (p : Part) : p.boilerBefore = true ↔
    p.boilerRequested = true ∧ p.boilerFirst = true ∧ p.boilerFits p.availablePower = true := by
  simp [Part.boilerBefore, and_assoc]

/-- R31, R32: the boiler is granted before the group where it goes first, and else from what the group leaves. -/
theorem Part.boilerGranted_iff (p : Part) : p.boilerGranted = true ↔ p.boilerRequested = true
    ∧ ((p.boilerFirst = true ∧ p.boilerFits p.availablePower = true)
      ∨ (p.boilerFirst = false ∧ p.boilerFits p.groupPass.remains = true)) := by
  simp [Part.boilerGranted, Part.boilerBefore, and_assoc, and_or_left]

/-- R33: what the pass leaves of the power of the group. -/
theorem Part.groupPass_remains (p : Part) :
    p.groupPass.remains = p.groupPower - (p.claimants.map p.groupPass.watts.get).sum :=
  grantElements_remains _ p.claimants_nodup _

/-- R30, R33: an element that does not claim takes nothing. -/
theorem Part.groupPass_outside {p : Part} {e : Element} (h : e ∉ p.claimants) :
    p.groupPass.watts.get e = 0 ∧ p.groupPass.curtailed.get e = false := by
  obtain ⟨hwatts, hcurtailed⟩ := grantElements_outside p.cappedDemands h ⟨.all 0, .all false, p.groupPower⟩
  rw [PerElement.get_all] at hwatts hcurtailed
  exact ⟨hwatts, hcurtailed⟩

/-- R33: a claimant takes the lower of its capped demand and what those before it leave. -/
theorem Part.groupPass_turn {p : Part} {e : Element} {k : Nat} (h : p.claimants[k]? = some e) :
    p.groupPass.watts.get e = min (min (p.store.rating e) (p.power.demands.get e))
        (p.groupPower - ((p.claimants.take k).map p.groupPass.watts.get).sum)
      ∧ (p.groupPass.curtailed.get e = true
        ↔ p.groupPass.watts.get e < min (p.store.rating e) (p.power.demands.get e)) := by
  rw [← Part.cappedDemands_get]
  exact grantElements_turn p.cappedDemands p.claimants_nodup _ k h

/-- R33: no element takes more than its capped demand. -/
theorem Part.groupPass_le (p : Part) (e : Element) :
    p.groupPass.watts.get e ≤ min (p.store.rating e) (p.power.demands.get e) := by
  by_cases h : e ∈ p.claimants
  · obtain ⟨k, hk⟩ := List.getElem?_of_mem h
    rw [(Part.groupPass_turn hk).1]
    exact Nat.min_le_left _ _
  · rw [(Part.groupPass_outside h).1]
    exact Nat.zero_le _

/-- R29, R32, R33: the elements and the boiler together take no more than the available power. -/
theorem Part.granted_le_available (p : Part) :
    p.groupPass.watts.total + (if p.boilerGranted then p.store.num 1 else 0) ≤ p.availablePower := by
  have htotal : p.groupPass.watts.total + p.groupPass.remains = p.groupPower :=
    (grantElements_total _ p.claimants_nodup _ fun e _ => PerElement.get_all 0 e).trans (Nat.zero_add _)
  by_cases hb : p.boilerBefore = true
  · obtain ⟨hrequested, hfirst, hfits⟩ := p.boilerBefore_iff.1 hb
    have hpower : p.groupPower = p.availablePower - p.store.num 1 := if_pos hb
    have hrating := ((p.boilerFits_iff _).1 hfits).1
    rw [if_pos (p.boilerGranted_iff.2 ⟨hrequested, .inl ⟨hfirst, hfits⟩⟩)]
    omega
  · have hpower : p.groupPower = p.availablePower := if_neg hb
    split
    · next hg =>
      rcases p.boilerGranted_iff.1 hg with ⟨hrequested, ⟨hfirst, hfits⟩ | ⟨-, hfits⟩⟩
      · exact absurd (p.boilerBefore_iff.2 ⟨hrequested, hfirst, hfits⟩) hb
      · have hrating := ((p.boilerFits_iff _).1 hfits).1
        omega
    · omega

/-! ### On cycles (R35) -/

/-- R35: an on-cycle count within the grant, and at most all 50 cycles. -/
theorem onCycleCount_bounds {grant rating : Nat} (h : grant ≤ rating) :
    onCycleCount grant rating ≤ 50 ∧ onCycleCount grant rating * rating / 50 ≤ grant := by
  unfold onCycleCount
  refine ⟨?_, ?_⟩
  · exact Nat.div_le_of_le_mul (Nat.mul_le_mul_right 50 h)
  · exact Nat.div_le_of_le_mul ((Nat.div_mul_le_self _ _).trans (Nat.mul_comm _ _).le)

/-- R35: after each cycle of a window, the on cycles so far are the share of the cycles so far. -/
theorem onCycles_counted {n : Nat} (h : n ≤ 50) (m : Nat) :
    ((List.range m).filter (fun k => onCycle n (k + 1))).length = m * n / 50 := by
  induction m with
  | zero => simp
  | succ m ih =>
    rw [List.range_succ, List.filter_append, List.length_append, ih]
    have hstep : (m + 1) * n = m * n + n := Nat.succ_mul m n
    by_cases hon : m * n / 50 < (m + 1) * n / 50
    · simp only [onCycle, List.filter_cons, Nat.add_sub_cancel, hon, decide_true, if_true, List.filter_nil,
        List.length_singleton]
      omega
    · simp only [onCycle, List.filter_cons, Nat.add_sub_cancel, hon, decide_false, Bool.false_eq_true, if_false,
        List.filter_nil, List.length_nil]
      omega

theorem onCycle_iff (n k : Nat) : onCycle n k = true ↔ (k - 1) * n / 50 < k * n / 50 := decide_eq_true_iff

/-- R35: every cycle of a full count is an on cycle. -/
theorem onCycle_full {k : Nat} (h : 1 ≤ k) : onCycle 50 k = true := by
  rw [onCycle_iff, Nat.mul_div_cancel _ (by decide), Nat.mul_div_cancel _ (by decide)]
  omega

/-- R35: the gate of an element in a counted window whose gates are not withheld. -/
theorem Power.gates_get {u : Power} (hc : u.counting = true) (hw : u.withdrawn = false) (e : Element) :
    u.gates.get e = onCycle (u.grants.onCycles.get e) (u.crossing / 2 + 1) := by
  cases e <;> simp [Power.gates, PerElement.get, Power.gate, Power.cycle, hc, hw]

/-- R30, R33: which elements a boundary grants nothing, and which it curtails. -/
theorem Part.groupPass_grants (p : Part) (e : Element) :
    let w := p.groupPass.watts
    (p.cavityInhibited = true → w.get e = 0 ∧ p.groupPass.curtailed.get e = false)
      ∧ ((∀ c, p.climate.params = some c → ∀ x ∈ modeGroup c.mode, x.1 ≠ e) → w.get e = 0)
      ∧ (p.cavityInhibited = false → (∃ c, p.climate.params = some c ∧ ∃ x ∈ modeGroup c.mode, x.1 = e) →
        (p.groupPass.curtailed.get e = true ↔ w.get e < min (p.store.rating e) (p.power.demands.get e))) := by
  refine ⟨fun hi => ?_, fun hc => ?_, fun hi hc => ?_⟩
  · exact Part.groupPass_outside fun h => Bool.noConfusion (hi.symm.trans ((p.mem_claimants e).1 h).1)
  · refine (Part.groupPass_outside fun h => ?_).1
    obtain ⟨-, c, hparams, x, hx, hxe⟩ := (p.mem_claimants e).1 h
    exact hc c hparams x hx hxe
  · obtain ⟨k, hk⟩ := List.getElem?_of_mem ((p.mem_claimants e).2 ⟨hi, hc⟩)
    exact (Part.groupPass_turn hk).2

/-- R28, R30, R32: a granted boiler is requested, meets no interlock, and has its relay closed or off long enough. -/
theorem Part.boilerGranted_asked {p : Part} (h : p.boilerGranted = true) :
    p.power.boilerRequest = true ∧ p.boilerAllowed = true ∧ (p.power.relay = true ∨ 3 ≤ p.power.offDwell) := by
  obtain ⟨hrequested, hturn⟩ := p.boilerGranted_iff.1 h
  obtain ⟨hrequest, hallowed⟩ := Bool.and_eq_true_iff.1 hrequested
  rcases hturn with ⟨-, hfits⟩ | ⟨-, hfits⟩ <;> exact ⟨hrequest, hallowed, ((p.boilerFits_iff _).1 hfits).2⟩

/-- R32: the deferral count counts the boundaries at which a requested boiler that meets no interlock is not granted. -/
theorem Part.grantWindow_deferral (p : Part) : p.grantWindow.power.deferral =
    if p.boilerGranted = true ∨ p.power.boilerRequest = false then 0
    else if p.power.boilerRequest = true ∧ p.boilerAllowed = true then min 255 (p.power.deferral + 1)
    else p.power.deferral := by
  rw [Part.grantWindow_eq, ← bump_eq]
  cases hg : p.boilerGranted <;> cases hr : p.power.boilerRequest <;> simp [Part.boilerRequested, hr]

/-- Settles O48: the grants by the pass over the claimants, the boiler by its turn, the gates by the counting of cycles. -/
theorem grantsStayWithinBudget : Obligations.GrantsStayWithinBudget := by
  refine ⟨fun p => ?bounds, fun p => ?order, fun n hn => ?cycles, onCycle_iff, fun n hn => ?last,
    ⟨by decide, by decide, fun k h _ => onCycle_full h⟩,
    fun u e hc hw => by rw [Power.gates_get hc hw]⟩
  case cycles =>
    rw [onCycles_counted hn]
    exact Nat.mul_div_cancel_left n (by decide)
  case last =>
    rw [onCycle_iff]
    omega
  case bounds =>
    obtain ⟨hrelay, -, -, -⟩ := p.power.switched_relay p.boilerGranted
    have hle := p.granted_le_available
    have hav : p.availablePower = p.store.num 0 - p.auxLoad := rfl
    rw [Part.grantWindow_eq]
    refine ⟨rfl, rfl, rfl, rfl, hle, fun haux => ?_, by simp only [hrelay], fun hr => ?_, fun e => ?_⟩
    · dsimp only
      unfold PerElement.total at hle
      omega
    · obtain ⟨hrequest, hallowed, hdwell⟩ := Part.boilerGranted_asked (hrelay.symm.trans hr)
      obtain ⟨hwet, htemp, hsteam, hcritical, hmode⟩ := p.boilerAllowed_iff.1 hallowed
      exact ⟨hrequest, hwet, htemp, hsteam, hcritical, hmode, hdwell⟩
    · have hcap := p.groupPass_le e
      obtain ⟨hnone, hother, hcut⟩ := p.groupPass_grants e
      obtain ⟨hfull, hwithin⟩ := onCycleCount_bounds (hcap.trans (Nat.min_le_left _ _))
      dsimp only
      rw [← p.cavityInhibited_iff, PerElement.get_of, Bool.not_eq_true]
      exact ⟨hcap, hnone, hother, hcut, rfl, hfull, hwithin⟩
  case order =>
    intro q w rating inhibited order allowed requested priority first fits available taken
    obtain ⟨hrelay, hclose, hopen, hstay⟩ := p.power.switched_relay p.boilerGranted
    have hi : p.cavityInhibited = true ↔ inhibited := p.cavityInhibited_iff
    have horder : p.claimants = order := by
      by_cases h : inhibited
      · exact (if_pos (hi.2 h)).trans (if_pos h).symm
      · exact (if_neg (hi.not.2 h)).trans (if_neg h).symm
    have hallowed : p.boilerAllowed = true ↔ allowed := p.boilerAllowed_iff
    have hfirst : p.boilerFirst = true ↔ first := p.boilerFirst_iff
    have hrequested : p.boilerRequested = true ↔ requested := by
      rw [Part.boilerRequested, Bool.and_eq_true_iff, hallowed]
    have hfits (r : Nat) : p.boilerFits r = true ↔ fits r := p.boilerFits_iff r
    have hbefore : p.boilerBefore = true ↔ requested ∧ first ∧ fits available := by
      rw [p.boilerBefore_iff, hrequested, hfirst, hfits]; rfl
    have hgranted : q.power.relay = true ↔ p.boilerGranted = true := by rw [← hrelay]; rfl
    refine ⟨fun k e group hk hp hn => ?_, fun e he => Part.groupPass_outside (horder ▸ he), ?_,
      fun h k => ?_, fun h k => ?_, fun h => ?_, ?_, hallowed, rfl, rfl⟩
    · have hgroup : p.groupPower = group := by
        by_cases hb : p.boilerBefore = true
        · exact (if_pos hb).trans (hp (hbefore.1 hb)).symm
        · exact (if_neg hb).trans (hn (hbefore.not.1 hb)).symm
      rw [← horder] at hk ⊢
      rw [← hgroup]
      exact Part.groupPass_turn hk
    · rw [hgranted, p.boilerGranted_iff, hrequested, hfirst, hfits, hfits, ← Bool.not_eq_true, hfirst,
        p.groupPass_remains, horder]
      refine and_congr_right fun hr => or_congr_right (and_congr_right fun hf => ?_)
      have hgroup : p.groupPower = available := if_neg fun hb => hf (hbefore.1 hb).2.1
      rw [hgroup]
      rfl
    · exact hclose k (hgranted.1 h)
    · exact hopen k (hrelay.symm.trans h)
    · exact hstay (hrelay.symm.trans h)
    · have hsame : q.power.relay = p.boilerGranted := hrelay
      rw [hsame]
      exact p.grantWindow_deferral

end Sys2Proof.Machine
end

section
/-! SUPPORT. What the regulator and the executor leave of the grants, the relay and the dwell counts (R28, R34), and that
they bring no part into STANDBY (R137, R143). -/

namespace Sys2Proof.Machine

/-- The allocator without what other blocks ask of it: the element demands and the boiler request. -/
def Part.supply (p : Part) : Power := { p.power with demands := .all 0, boilerRequest := false }

/-- An operation that moves neither a grant nor the relay, and enters no STANDBY. -/
structure Part.Calm (p q : Part) : Prop where
  supply : q.supply = p.supply
  awake : q.mode.mode = .standby → p.mode.mode = .standby

theorem Part.Calm.refl (p : Part) : p.Calm p := ⟨rfl, id⟩

theorem Part.Calm.trans {p q r : Part} (h : p.Calm q) (k : q.Calm r) : p.Calm r :=
  ⟨k.supply.trans h.supply, h.awake ∘ k.awake⟩

theorem Part.Calm.of_eq {p q : Part} (hs : q.power = p.power) (hm : q.mode = p.mode) : p.Calm q :=
  ⟨by rw [Part.supply, hs, Part.supply], fun h => hm ▸ h⟩

/-! ### The regulator (R4, R6, R7) -/

@[simp] theorem Part.passGate_mode (p : Part) : p.passGate.mode = p.mode := by
  unfold Part.passGate; repeat' split
  all_goals rfl
@[simp] theorem Part.cavityReached_mode (p : Part) : p.cavityReached.mode = p.mode := by
  unfold Part.cavityReached Part.tellReached; dsimp only; repeat' split
  all_goals simp

theorem Part.cavityReached_calm (p : Part) : p.Calm p.cavityReached :=
  .of_eq p.cavityReached_power p.cavityReached_mode

/-- The end of a write leaves the allocator and the mode alone. -/
theorem Part.Calm.of_heatView {p q : Part} (h : q.heatView = p.heatView) : p.Calm q :=
  have hpower : q.heatView.power = p.heatView.power := congrArg Part.power h
  have hmode : q.heatView.mode = p.heatView.mode := congrArg Part.mode h
  .of_eq hpower hmode

theorem Part.demandOf_calm (p : Part) (st : ClimateState) (c : ClimateParams) : p.Calm (p.demandOf st c) := by
  rw [Part.demandOf_eq]; exact ⟨rfl, id⟩

theorem Part.cookingTested_calm (p : Part) (c : ClimateParams) : p.Calm (p.cookingTested c) := by
  have hbegun : p.Calm (p.cookingBegun c) := ⟨rfl, id⟩
  refine (hbegun.trans (Part.demandOf_calm _ (p.cookingBegun c).climate.state c)).trans (.of_heatView ?_)
  rw [Part.cookingTested, Part.ventAtStart_heatView, Part.writeTail_heatView]

theorem Part.startCooking_calm (p : Part) (c : ClimateParams) : p.Calm (p.startCooking c) := by
  rw [Part.startCooking_eq]
  split
  · exact (p.cookingTested_calm c).trans (Part.cavityReached_calm _)
  · exact p.cookingTested_calm c

theorem Part.updateClimate_calm (p : Part) (c : ClimateParams) : p.Calm (p.updateClimate c) := by
  have hwritten : p.Calm (p.rewritten c) := by rw [Part.rewritten_eq]; exact ⟨rfl, id⟩
  have hdemand (full : Bool) : (p.rewritten c).Calm ((p.rewritten c).rewriteDemand c full) := by
    rw [Part.rewriteDemand_eq]; exact ⟨rfl, id⟩
  rw [Part.updateClimate_eq]
  exact (hwritten.trans (hdemand _)).trans (.of_heatView (Part.writeTail_heatView _ c))

theorem Part.writeClimate_calm (p : Part) (c : ClimateParams) : p.Calm (p.writeClimate c) := by
  unfold Part.writeClimate
  split
  · exact p.updateClimate_calm c
  · exact p.startCooking_calm c

theorem Part.clearClimate_calm (p : Part) (next : ClimateState) : p.Calm (p.clearClimate next) := by
  rw [Part.clearClimate_eq]; exact ⟨rfl, id⟩

theorem Part.endCooking_calm (p : Part) : p.Calm p.endCooking := by
  unfold Part.endCooking
  split
  · exact p.clearClimate_calm _
  · exact .refl p

/-! ### The executor (R123 to R135) -/

theorem Part.testDegraded_calm (p : Part) (beginning : Bool) : p.Calm (p.testDegraded beginning) := by
  unfold Part.testDegraded
  repeat' split
  all_goals first | exact ⟨rfl, id⟩ | exact .of_eq p.passGate_power p.passGate_mode

theorem Part.returnRunning_calm (p : Part) : p.Calm p.returnRunning :=
  Part.Calm.trans (q := { p with program.state := .running, program.reason := none }) ⟨rfl, id⟩
    (Part.testDegraded_calm _ false)

theorem Part.beginStage_calm (p : Part) (st : Stage) : p.Calm (p.beginStage st) := by
  have hwritten : p.Calm (p.stageWritten st) := (p.writeClimate_calm st.params).trans ⟨rfl, id⟩
  have hgated : p.Calm (p.stageGated st) := by
    unfold Part.stageGated
    split
    · exact hwritten.trans ⟨rfl, id⟩
    · exact hwritten
  rw [Part.beginStage_eq]
  exact hgated.trans (Part.testDegraded_calm _ true)

theorem Part.enterStage_calm (p : Part) (i : Nat) : p.Calm (p.enterStage i) := by
  have hstage : p.Calm (p.atStage i) := ⟨rfl, id⟩
  unfold Part.enterStage
  dsimp only
  repeat' split
  · exact ⟨rfl, id⟩
  · exact hstage.trans (Part.beginStage_calm _ _)
  · exact ⟨rfl, id⟩

/-- R140: HOLD is another mode than STANDBY. -/
theorem Part.enterHold_calm (p : Part) (setpoint : Int) (moist : Bool) : p.Calm (p.enterHold setpoint moist) := by
  have hwrite := (p.writeClimate_calm (holdClimate setpoint moist)).supply
  refine ⟨?_, fun h => ?_⟩
  · rw [← hwrite, Part.enterHold, Part.supply, Part.setMode_power, Part.supply]
  · rw [Part.enterHold, Part.setMode_mode_mode] at h
    cases h

theorem Part.endAction_calm (p : Part) : p.Calm p.endAction := by
  rw [Part.endAction_eq]
  split
  · exact (p.enterHold_calm _ _).trans ⟨rfl, id⟩
  · exact p.endCooking_calm.trans ⟨rfl, id⟩

theorem Part.goOn_calm (p : Part) : p.Calm p.goOn := by
  have hleaving : p.Calm p.leaving := ⟨rfl, id⟩
  rw [Part.goOn_eq]
  split
  · exact hleaving.trans p.leaving.endAction_calm
  · exact hleaving.trans (p.leaving.enterStage_calm _)

theorem Part.resumeProgram_calm (p : Part) : p.Calm p.resumeProgram := by
  have hresumed : p.Calm { p with program.resume := none } := ⟨rfl, id⟩
  have hwaiting : p.Calm { p with program.resume := none, program.state := .boundaryWait, program.reason := none } :=
    ⟨rfl, id⟩
  unfold Part.resumeProgram
  dsimp only
  repeat' split
  all_goals first
    | exact ⟨rfl, id⟩
    | exact hresumed.trans (Part.returnRunning_calm _)
    | exact hwaiting.trans (Part.goOn_calm _)

end Sys2Proof.Machine
end

section
/-! SUPPORT. The mains (R24 to R26, R150): the classes of the measurement, the onset and the end of mains loss, and the
crossings of a measurement and of a return run. -/

namespace Sys2Proof.Machine

/-! ### What an event leaves behind the reactions -/

/-- Where no scan is due, an event is followed by the reactions alone. -/
theorem State.settled_part {s : State} {p : Part} (h : p.ring.phase = .idle → p.ring.startAtOnce = false) :
    (s.settled p).part = p.settle.quietReports s.link.resetWait := by
  have hring := (Part.settle_keeps (Part.Keeps.refl p)).ring
  rw [State.settled, State.onBlocks_part, Part.advance_of_not_due 3 _ (by rw [hring]; exact h)]

/-- A notice that an event has raised is pending after the reactions. -/
theorem State.settled_notice {s : State} {p : Part} {i : Nat} (h : p.ring.phase = .idle → p.ring.startAtOnce = false)
    (hn : p.notice.pending.getLsbD i = true) : (s.settled p).part.notice.pending.getLsbD i = true := by
  have hquiet (q : Part) (b : Bool) : (q.quietReports b).notice = q.notice := by cases b <;> rfl
  rw [State.settled_part h, hquiet]
  exact (Part.settle_keeps (Part.Keeps.refl p)).adds.pending i hn

/-! ### The classes (R24) -/

theorem classify_hz50 {t : Nat} (h : 94300 ≤ t ∧ t ≤ 106400) : classify t = .hz50 := if_pos h

theorem classify_hz60 {t : Nat} (h : 79400 ≤ t ∧ t ≤ 87700) : classify t = .hz60 := by
  rw [classify, if_neg (by omega), if_pos h]

theorem classify_unknown {t : Nat} (h50 : ¬(94300 ≤ t ∧ t ≤ 106400)) (h60 : ¬(79400 ≤ t ∧ t ≤ 87700)) :
    classify t = .unknown := by rw [classify, if_neg h50, if_neg h60]

/-! ### The onset and the end of mains loss (R25, R26, R150) -/

/-- R25: the onset in the allocator and the mode, before the regulator, the executor and the boiler are told. -/
def Part.mainsLost (p : Part) : Part :=
  Part.raiseNotice { p with power := p.power.lose, mode.mainsLoss := true } .fault

theorem Part.mainsOnset_keeps (p : Part) : p.mainsLost.Keeps p.mainsOnset :=
  (Part.programMainsLoss_keeps (Part.climateMainsLoss_keeps (.refl p.mainsLost))).leaf rfl rfl rfl

@[simp] theorem Part.programMainsLoss_power (p : Part) : p.programMainsLoss.power = p.power := by
  unfold Part.programMainsLoss; split <;> rfl
@[simp] theorem Part.programMainsLoss_mode (p : Part) : p.programMainsLoss.mode = p.mode := by
  unfold Part.programMainsLoss; split <;> rfl

/-- R25: the allocator after the onset. -/
theorem Part.mainsOnset_power (p : Part) : p.mainsOnset.power = { p.power.lose with demands := .all 0 } := by
  have h : p.mainsOnset.power = p.mainsLost.climateMainsLoss.programMainsLoss.power := rfl
  rw [h, Part.programMainsLoss_power, Part.climateMainsLoss, Part.stopVentDrive_eq]
  rfl

/-- R25, R150: mains loss is a condition beside the mode. -/
theorem Part.mainsOnset_mode (p : Part) : p.mainsOnset.mode = { p.mode with mainsLoss := true } := by
  have h : p.mainsOnset.mode = p.mainsLost.climateMainsLoss.programMainsLoss.mode := rfl
  rw [h, Part.programMainsLoss_mode, Part.climateMainsLoss, Part.stopVentDrive_eq]
  rfl

@[simp] theorem Part.mainsOnset_ring (p : Part) : p.mainsOnset.ring = p.ring := p.mainsOnset_keeps.ring

/-- R25, R167: the onset raises FAULT. -/
theorem Part.mainsOnset_notice (p : Part) :
    p.mainsOnset.notice.pending.getLsbD (noticePosition .fault) = true :=
  p.mainsOnset_keeps.adds.pending _ (NoticeUnit.raise_self _ .fault)

/-- R25: the relay of a lost mains is open, and only an opening resets the dwell counts. -/
theorem Power.lose_relay (w : Power) : w.lose.relay = false
    ∧ (w.relay = true → w.lose.onDwell = 0 ∧ w.lose.offDwell = 0)
    ∧ (w.relay = false → w.lose.onDwell = w.onDwell ∧ w.lose.offDwell = w.offDwell) := by
  cases h : w.relay <;> simp [Power.lose, Power.openRelay, h]

theorem Power.lose_keeps (w : Power) : w.lose.deferral = w.deferral ∧ w.lose.freq = w.freq ∧ w.lose.measure = w.measure := by
  cases h : w.relay <;> simp [Power.lose, Power.openRelay, h]

/-- R26: the crossing that ends the return run, before the regulator, the boiler and the executor are told. -/
def Part.mainsBack (p : Part) : Part :=
  Part.openFirstWindow { p with mode.mainsLoss := false, power.returnRun := 0, power.returnTime := 0 }

/-- R26: the regulator and the boiler told of the mains. -/
def Part.mainsTold (p : Part) : Part :=
  { p.climateMainsReturn with boiler := p.climateMainsReturn.boiler.resumeTimers }

theorem Part.mainsEnd_eq (p : Part) : p.mainsEnd = p.mainsBack.mainsTold.programMainsReturn := rfl

theorem Part.mainsEnd_keeps (p : Part) : p.mainsBack.Keeps p.mainsEnd :=
  Part.programMainsReturn_keeps ((Part.climateMainsReturn_keeps (.refl p.mainsBack)).leaf rfl rfl rfl)

/-- R26: the end of mains loss makes no grants and moves no relay. -/
theorem Part.mainsEnd_supply (p : Part) : p.mainsEnd.supply = p.mainsBack.supply := by
  have htold : p.mainsBack.Calm p.mainsBack.mainsTold := ⟨rfl, id⟩
  have hend : p.mainsBack.mainsTold.Calm p.mainsEnd := by
    rw [Part.mainsEnd_eq, Part.programMainsReturn]
    split
    · exact Part.resumeProgram_calm _
    · exact .refl _
  exact (htold.trans hend).supply

/-! ### Crossings of the measurement (R24, R181) -/

theorem Part.zeroCrossing_waiting {p : Part} (h : p.power.measure = .waiting) (gap : Nat) :
    p.zeroCrossing gap = { p with power.measure := .timing 0 0 } := by
  simp only [Part.zeroCrossing, h]

/-- R24: a crossing of the measurement within 25 ms of the one before. -/
theorem Part.zeroCrossing_timing {p : Part} {gap n time : Nat} (h : p.power.measure = .timing n time)
    (hg : gap ≤ 25000) : p.zeroCrossing gap =
      if n = 9 then p.measured (time + gap) else { p with power.measure := .timing (n + 1) (time + gap) } := by
  have hgap : ¬lossGap < gap := Nat.not_lt.2 hg
  simp only [Part.zeroCrossing, h, if_neg hgap]

/-- R24: the 10th half-cycle may end under either name of its crossing. -/
theorem exec_measured {s : State} {gap time : Nat} {c : Instr} (h : s.part.power.measure = .timing 9 time)
    (hg : gap ≤ 25000) (hc : c = .zeroCrossing gap ∨ c = .frequencyMeasured gap) :
    exec c s = .next (s.settled (s.part.measured (time + gap))) := by
  have hcross : s.part.zeroCrossing gap = s.part.measured (time + gap) := Part.zeroCrossing_timing h hg
  rcases hc with rfl | rfl
  · exact next_settled hcross
  · have hends : s.part.power.endsMeasurement gap = true := by simp [Power.endsMeasurement, h, lossGap, hg]
    show Host.Outcome.next (if s.part.power.endsMeasurement gap then _ else s) = _
    rw [if_pos hends]
    exact next_settled hcross

/-- R24: a measurement that has found a class opens a first window, and discovery follows. -/
theorem Part.measured_classified {p : Part} {time : Nat} (h : classify time ≠ .unknown) : p.measured time =
    Part.startDiscovery (Part.openFirstWindow { p with power.measure := .none, power.freq := classify time }) := if_neg h

theorem Part.measured_unclassified {p : Part} {time : Nat} (h : classify time = .unknown) :
    p.measured time = p.measureFailed := if_pos h

/-- R24, R181: a measurement without a class leaves the mains lost, and discovery follows. -/
theorem Part.measureFailed_leaves (p : Part) :
    let q := p.measureFailed
    q.power.measure = .none ∧ q.power.counting = false ∧ q.power.freq = p.power.freq ∧ q.mode.mainsLoss = true
      ∧ q.mode.startup = .discovery ∧ q.ring.phase = .discovery ∧ q.ring.poll = some ⟨1, .ident, 1, false⟩
      ∧ q.notice.pending.getLsbD (noticePosition .fault) = true := by
  have hpower := Part.mainsOnset_power { p with power.measure := .none }
  have hmode := Part.mainsOnset_mode { p with power.measure := .none }
  obtain ⟨-, hfreq, hmeasure⟩ := Power.lose_keeps { p.power with measure := .none }
  exact ⟨(congrArg Power.measure hpower).trans hmeasure, congrArg Power.counting hpower,
    (congrArg Power.freq hpower).trans hfreq, congrArg ModeControl.mainsLoss hmode, rfl, rfl, rfl,
    Part.mainsOnset_notice _⟩

/-! ### Crossings of the return run (R26) -/

/-- R26: a crossing during mains loss. -/
theorem Part.zeroCrossing_lost {p : Part} (hm : p.power.measure = .none) (hl : p.mode.mainsLoss = true) (gap : Nat) :
    p.zeroCrossing gap = p.returnCrossing gap := by
  simp only [Part.zeroCrossing, hm, hl, if_true]

theorem Power.completesReturn_iff (w : Power) (gap : Nat) :
    w.completesReturn gap = true ↔ w.returnRun = 49 ∧ gap ≤ 25000 :=
  (Bool.and_eq_true_iff).trans (and_congr decide_eq_true_iff decide_eq_true_iff)

/-- R26: the 50th crossing of the run may come under either of its names. -/
theorem exec_mainsReturn {s : State} {gap : Nat} {c : Instr} (hm : s.part.power.measure = .none)
    (hl : s.part.mode.mainsLoss = true) (hr : s.part.power.returnRun = 49) (hg : gap ≤ 25000)
    (hc : c = .zeroCrossing gap ∨ c = .mainsReturn gap) : exec c s = .next (s.settled s.part.mainsEnd) := by
  have hends := (s.part.power.completesReturn_iff gap).2 ⟨hr, hg⟩
  have hcross : s.part.zeroCrossing gap = s.part.mainsEnd := (Part.zeroCrossing_lost hm hl gap).trans (if_pos hends)
  rcases hc with rfl | rfl
  · exact next_settled hcross
  · show Host.Outcome.next (if s.part.mode.mainsLoss && s.part.power.completesReturn gap then _ else s) = _
    rw [hl, hends, if_pos (by decide)]
    exact next_settled hcross

/-- R26: every other crossing of the run moves the run alone. -/
theorem exec_returnCrossing {s : State} {gap : Nat} {w : Power} (hm : s.part.power.measure = .none)
    (hl : s.part.mode.mainsLoss = true) (hr : ¬(s.part.power.returnRun = 49 ∧ gap ≤ 25000))
    (hw : s.part.power.returnCrossing gap = w) :
    exec (.zeroCrossing gap) s = .next (s.settled { s.part with power := w }) := by
  subst hw
  exact next_settled ((Part.zeroCrossing_lost hm hl gap).trans (if_neg ((Power.completesReturn_iff _ gap).not.2 hr)))

/-- R26: the run starts with its first crossing, and again after a gap of more than 25 ms. -/
theorem Power.returnCrossing_starts {w : Power} {gap : Nat} (h : w.returnRun = 0 ∨ 25000 < gap) :
    w.returnCrossing gap = { w with returnRun := 1, returnTime := 0 } := if_pos h

theorem Power.returnCrossing_times {w : Power} {gap : Nat} (h : ¬(w.returnRun = 0 ∨ 25000 < gap)) (hr : w.returnRun < 10) :
    w.returnCrossing gap = { w with returnRun := w.returnRun + 1, returnTime := w.returnTime + gap } :=
  (if_neg h).trans (if_pos hr)

/-- R26: the crossing that ends the first 10 half-cycles of the run. -/
theorem Power.returnCrossing_judges {w : Power} {gap : Nat} (hr : w.returnRun = 10) (hg : gap ≤ 25000) :
    w.returnCrossing gap =
      if classify (w.returnTime + gap) = .unknown ∨ (w.freq ≠ .unknown ∧ classify (w.returnTime + gap) ≠ w.freq)
      then { w with returnRun := 0, returnTime := 0 }
      else { w with freq := classify (w.returnTime + gap), returnRun := 11, returnTime := w.returnTime + gap } := by
  have hgap : ¬lossGap < gap := Nat.not_lt.2 hg
  simp [Power.returnCrossing, hr, hgap]

/-- R26: the run goes on in a class that the part has not contradicted. -/
theorem Power.returnCrossing_goesOn {w : Power} {gap : Nat} {c : FreqClass} (hr : w.returnRun = 10) (hg : gap ≤ 25000)
    (hc : classify (w.returnTime + gap) = c) (hk : c ≠ .unknown) (hf : w.freq = .unknown ∨ w.freq = c) :
    w.returnCrossing gap = { w with freq := c, returnRun := 11, returnTime := w.returnTime + gap } := by
  subst hc
  refine (Power.returnCrossing_judges hr hg).trans (if_neg ?_)
  rintro (hn | ⟨hn, hd⟩)
  · exact hk hn
  · exact hf.elim hn fun h => hd h.symm

/-- R26: the run starts again without a class, or with another one than the part has known. -/
theorem Power.returnCrossing_fails {w : Power} {gap : Nat} (hr : w.returnRun = 10) (hg : gap ≤ 25000)
    (h : classify (w.returnTime + gap) = .unknown ∨ (w.freq ≠ .unknown ∧ classify (w.returnTime + gap) ≠ w.freq)) :
    w.returnCrossing gap = { w with returnRun := 0, returnTime := 0 } :=
  (Power.returnCrossing_judges hr hg).trans (if_pos h)

theorem freqClass_of_ne_hz60 {f : FreqClass} (h : f ≠ .hz60) : f = .unknown ∨ f = .hz50 := by
  revert h; cases f <;> decide

theorem freqClass_of_ne_hz50 {f : FreqClass} (h : f ≠ .hz50) : f = .unknown ∨ f = .hz60 := by
  revert h; cases f <;> decide

theorem Power.returnCrossing_counts {w : Power} {gap : Nat} (hr : 11 ≤ w.returnRun) (hg : gap ≤ 25000) :
    w.returnCrossing gap = { w with returnRun := w.returnRun + 1 } := by
  have hgap : ¬(w.returnRun = 0 ∨ lossGap < gap) := by unfold lossGap; omega
  rw [Power.returnCrossing, if_neg hgap, if_neg (by omega), if_neg (by omega)]

/-! ### The fixed values behind the reactions -/

/-- What the statements about the mains read of the blocks, unchanged by the reactions. -/
theorem State.settled_mains {s : State} {p : Part} (h : p.ring.phase = .idle → p.ring.startAtOnce = false) :
    let q := (s.settled p).part
    q.power.measure = p.power.measure ∧ q.power.counting = p.power.counting ∧ q.power.crossing = p.power.crossing
      ∧ q.power.returnRun = p.power.returnRun ∧ q.power.freq = p.power.freq ∧ q.mode.mainsLoss = p.mode.mainsLoss
      ∧ q.mode.faults = p.mode.faults ∧ q.mode.startup = p.mode.startup ∧ q.ring = p.ring := by
  have hfixed := State.settled_fixed (s := s) h
  have keeps (α : Type) (f : Fixed → α) := congrArg f hfixed
  exact ⟨keeps _ Fixed.measure, keeps _ Fixed.counting, keeps _ Fixed.crossing, keeps _ Fixed.returnRun,
    keeps _ Fixed.freq, keeps _ Fixed.mainsLoss, keeps _ Fixed.faults, keeps _ Fixed.startup, keeps _ Fixed.ring⟩

/-- R24, R181: the end of the start-up measurement, behind the reactions. -/
theorem State.settled_measured (s : State) (time : Nat) :
    let q := (s.settled (s.part.measured time)).part
    q.power.measure = .none ∧ q.mode.startup = .discovery ∧ q.ring.phase = .discovery
      ∧ q.ring.poll = some ⟨1, .ident, 1, false⟩
      ∧ (classify time ≠ .unknown → q.power.freq = classify time ∧ q.power.counting = true ∧ q.power.crossing = 0
        ∧ q.mode.mainsLoss = s.part.mode.mainsLoss)
      ∧ (classify time = .unknown → q.power.freq = s.part.power.freq ∧ q.power.counting = false
        ∧ q.mode.mainsLoss = true) := by
  by_cases hc : classify time = .unknown
  · obtain ⟨hmeasure, hcounting, hfreq, hloss, hstart, hphase, hpoll, -⟩ := s.part.measureFailed_leaves
    obtain ⟨kmeasure, kcounting, -, -, kfreq, kloss, -, kstart, kring⟩ :=
      State.settled_mains (s := s) (p := s.part.measureFailed) fun h => nomatch hphase.symm.trans h
    rw [Part.measured_unclassified hc]
    exact ⟨kmeasure.trans hmeasure, kstart.trans hstart, (congrArg Ring.phase kring).trans hphase,
      (congrArg Ring.poll kring).trans hpoll, fun hn => absurd hc hn,
      fun _ => ⟨kfreq.trans hfreq, kcounting.trans hcounting, kloss.trans hloss⟩⟩
  · have hmeasured := Part.measured_classified (p := s.part) hc
    obtain ⟨kmeasure, kcounting, kcrossing, -, kfreq, kloss, -, kstart, kring⟩ :=
      State.settled_mains (s := s) (p := s.part.measured time) fun h => by rw [hmeasured] at h; cases h
    rw [hmeasured] at kmeasure kcounting kcrossing kfreq kloss kstart kring ⊢
    exact ⟨kmeasure, kstart, congrArg Ring.phase kring, congrArg Ring.poll kring,
      fun _ => ⟨kfreq, kcounting, kcrossing, kloss⟩, fun hn => absurd hn hc⟩

/-- Settles O50: each crossing by its place in the measurement or the run, whose fixed values outlast the reactions. -/
theorem mainsFrequencyAndLoss : Obligations.MainsFrequencyAndLoss := by
  intro s gap hdue p hz50 hz60
  refine ⟨fun h => next_settled (Part.zeroCrossing_waiting h gap), fun n time h hn hg => ?timing,
    fun time h hg c hc => ?measured, fun h => ?timeout, fun hm hf hl => ?onset, ?lost,
    fun hm hl hr hg c hc => ?back, fun hm hl hr => ?run, fun hm hl hr hg => ?judged, fun hm hl hr hn hg => ?counted,
    fun hm hl hr hg => ?again⟩
  case timing => exact next_settled ((Part.zeroCrossing_timing h hg).trans (if_neg (by omega)))
  case measured =>
    obtain ⟨hmeasure, hstart, hphase, hpoll, hclass, hnone⟩ := s.settled_measured (time + gap)
    refine ⟨_, exec_measured h hg hc, hmeasure, hstart, hphase, hpoll, fun hhz => ?_, fun hhz => ?_⟩
    · have h50 (k : hz50 (time + gap)) : classify (time + gap) = .hz50 := classify_hz50 k
      have h60 (k : hz60 (time + gap)) : classify (time + gap) = .hz60 := classify_hz60 k
      have hknown : classify (time + gap) ≠ .unknown := by
        rcases hhz with k | k
        · rw [h50 k]; decide
        · rw [h60 k]; decide
      obtain ⟨hfreq, hcounting, hcrossing, hloss⟩ := hclass hknown
      exact ⟨fun k => hfreq.trans (h50 k), fun k => hfreq.trans (h60 k), hcounting, hcrossing, hloss⟩
    · obtain ⟨hn50, hn60⟩ := not_or.1 hhz
      exact hnone (classify_unknown hn50 hn60)
  case timeout =>
    obtain ⟨hmeasure, hcounting, hfreq, hloss, hstart, hphase, hpoll, hnotice⟩ := p.measureFailed_leaves
    have hdisc : p.measureFailed.ring.phase = .idle → p.measureFailed.ring.startAtOnce = false :=
      fun k => nomatch hphase.symm.trans k
    obtain ⟨kmeasure, kcounting, -, -, kfreq, kloss, -, kstart, kring⟩ := State.settled_mains (s := s) hdisc
    exact ⟨_, next_settled (if_neg h), kmeasure.trans hmeasure, kcounting.trans hcounting, kfreq.trans hfreq,
      kloss.trans hloss, kstart.trans hstart, (congrArg Ring.phase kring).trans hphase,
      State.settled_notice hdisc hnotice⟩
  case onset =>
    have hstops : p.crossingsStop = p.mainsOnset := if_pos (by simp [hm, hf, hl])
    have hring : p.mainsOnset.ring.phase = .idle → p.mainsOnset.ring.startAtOnce = false := by
      rw [p.mainsOnset_ring]; exact hdue
    have hpower := p.mainsOnset_power
    have hmode := p.mainsOnset_mode
    obtain ⟨-, kcounting, -, krun, kfreq, kloss, kfaults, -, kring⟩ := State.settled_mains (s := s) hring
    exact ⟨_, next_settled hstops, kloss.trans (congrArg ModeControl.mainsLoss hmode),
      kcounting.trans (congrArg Power.counting hpower), krun.trans (congrArg Power.returnRun hpower),
      kfreq.trans ((congrArg Power.freq hpower).trans p.power.lose_keeps.2.1),
      kfaults.trans (by rw [hmode]), kring.trans p.mainsOnset_ring,
      State.settled_notice hring p.mainsOnset_notice, rfl⟩
  case lost =>
    obtain ⟨hrelay, hopened, hopen⟩ := p.power.lose_relay
    obtain ⟨hdeferral, hfreq, -⟩ := p.power.lose_keeps
    dsimp only
    rw [p.mainsOnset_power, Part.safetyOut, Part.critical, p.mainsOnset_mode]
    exact ⟨rfl, hrelay, rfl, hdeferral, hfreq, rfl, hopened, hopen, rfl, rfl⟩
  case back =>
    have hring : p.mainsEnd.ring = p.ring := p.mainsEnd_keeps.ring
    have hsupply (α : Type) (f : Power → α) : f p.mainsEnd.supply = f p.mainsBack.supply := congrArg f p.mainsEnd_supply
    have hfixed := p.mainsEnd_keeps.fixed
    obtain ⟨-, kcounting, kcrossing, -, kfreq, kloss, kfaults, -, kring⟩ :=
      State.settled_mains (s := s) (p := p.mainsEnd) (by rw [hring]; exact hdue)
    exact ⟨_, exec_mainsReturn hm hl hr hg hc, kloss.trans (congrArg Fixed.mainsLoss hfixed),
      kcounting.trans (congrArg Fixed.counting hfixed), kcrossing.trans (congrArg Fixed.crossing hfixed),
      kfreq.trans (congrArg Fixed.freq hfixed), kfaults.trans (congrArg Fixed.faults hfixed), kring.trans hring, rfl,
      hsupply _ Power.grants, hsupply _ Power.relay, hsupply _ Power.onDwell, hsupply _ Power.offDwell⟩
  case run =>
    refine exec_returnCrossing hm hl (fun k => by have : p.power.returnRun = 49 := k.1; omega) ?_
    by_cases h : p.power.returnRun = 0 ∨ 25000 < gap
    · rw [if_pos h, if_pos h]
      exact Power.returnCrossing_starts h
    · rw [if_neg h, if_neg h]
      exact Power.returnCrossing_times h hr
  case judged =>
    have hexec {w : Power} := exec_returnCrossing (s := s) (gap := gap) (w := w) hm hl
      (fun k => absurd (hr.symm.trans k.1) (by decide))
    have fails (h : classify (p.power.returnTime + gap) = .unknown
        ∨ (p.power.freq ≠ .unknown ∧ classify (p.power.returnTime + gap) ≠ p.power.freq)) :=
      hexec (Power.returnCrossing_fails hr hg h)
    refine ⟨fun k hf => ?_, fun k hf => ?_, fun k hf => ?_, fun k hf => ?_, fun k50 k60 => ?_⟩
    · exact hexec (Power.returnCrossing_goesOn hr hg (classify_hz50 k) (by decide) (freqClass_of_ne_hz60 hf))
    · exact hexec (Power.returnCrossing_goesOn hr hg (classify_hz60 k) (by decide) (freqClass_of_ne_hz50 hf))
    · exact fails (.inr ⟨by rw [hf]; decide, by rw [classify_hz50 k, hf]; decide⟩)
    · exact fails (.inr ⟨by rw [hf]; decide, by rw [classify_hz60 k, hf]; decide⟩)
    · exact fails (.inl (classify_unknown k50 k60))
  case counted =>
    exact exec_returnCrossing hm hl (fun k => by have : p.power.returnRun = 49 := k.1; omega) (Power.returnCrossing_counts hr hg)
  case again =>
    exact exec_returnCrossing hm hl (fun k => absurd hg (Nat.not_lt.2 k.2)) (Power.returnCrossing_starts (.inr hg))

end Sys2Proof.Machine
end

section
/-! SUPPORT. The boiler, the descale sequencer and the scale tracker leave the mode alone (R137). -/

namespace Sys2Proof.Machine

@[simp] theorem Part.accrue_mode (p : Part) (volume : Nat) : (p.accrue volume).mode = p.mode := by
  unfold Part.accrue; dsimp only; split <;> simp
@[simp] theorem Part.setRinseOwed_mode (p : Part) (b : Bool) : (p.setRinseOwed b).mode = p.mode := rfl
@[simp] theorem Part.scaleDrained_mode (p : Part) (purpose : Option Purpose) : (p.scaleDrained purpose).mode = p.mode := by
  have howing (b q : Part) : (b.queueIfOwing q).mode = q.mode := by
    unfold Part.queueIfOwing; split <;> rfl
  have hpull : p.pullIn.mode = p.mode := by
    unfold Part.pullIn; repeat' split
    all_goals rfl
  unfold Part.scaleDrained
  rw [Part.queueScale_mode, howing]
  split <;> first | rfl | exact hpull

/-! ### Fills and heatings (R65 to R69) -/

@[simp] theorem Part.boilerSteamOrReady_mode (p : Part) : p.boilerSteamOrReady.mode = p.mode := by
  unfold Part.boilerSteamOrReady; split <;> simp
@[simp] theorem Part.directHeat_mode (p : Part) (target : Int) : (p.directHeat target).mode = p.mode := by
  unfold Part.directHeat; split <;> simp
@[simp] theorem Part.descaleFilled_mode (p : Part) : p.descaleFilled.mode = p.mode := by
  unfold Part.descaleFilled; split <;> simp
@[simp] theorem Part.normalFilled_mode (p : Part) : p.normalFilled.mode = p.mode := by
  unfold Part.normalFilled; split <;> simp
@[simp] theorem Part.fillDone_mode (p : Part) : p.fillDone.mode = p.mode := by
  unfold Part.fillDone; dsimp only; split <;> simp
@[simp] theorem Part.pauseFill_mode (p : Part) (reason : PauseReason) : (p.pauseFill reason).mode = p.mode := rfl
@[simp] theorem Part.runFill_mode (p : Part) : p.runFill.mode = p.mode := by
  unfold Part.runFill; dsimp only; split <;> rfl
@[simp] theorem Part.startFill_mode (p : Part) (purpose : Purpose) (next : Continuation) :
    (p.startFill purpose next).mode = p.mode := by
  unfold Part.startFill; dsimp only; repeat' split
  all_goals simp
@[simp] theorem Part.normalFill_mode (p : Part) : p.normalFill.mode = p.mode := p.startFill_mode _ _

/-! ### Drains and phases (R73, R100, R107, R108) -/

@[simp] theorem Part.directDrain_mode (p : Part) (purpose : Purpose) : (p.directDrain purpose).mode = p.mode := by
  unfold Part.directDrain; split <;> simp
@[simp] theorem Part.enterSoakDrain_mode (p : Part) : p.enterSoakDrain.mode = p.mode := by
  simp [Part.enterSoakDrain]
@[simp] theorem Part.descaleHeated_mode (p : Part) : p.descaleHeated.mode = p.mode := by
  unfold Part.descaleHeated Part.enterSoak; split <;> simp
@[simp] theorem Part.descaleBoilerFault_mode (p : Part) : p.descaleBoilerFault.mode = p.mode := by
  unfold Part.descaleBoilerFault; split <;> simp
@[simp] theorem Part.descaleRewarm_mode (p : Part) : p.descaleRewarm.mode = p.mode := by
  unfold Part.descaleRewarm; repeat' split
  all_goals simp
@[simp] theorem Part.startBlowdown_mode (p : Part) : p.startBlowdown.mode = p.mode := by
  simp [Part.startBlowdown]
@[simp] theorem Part.heatingEnd_mode (p : Part) : p.heatingEnd.mode = p.mode := by
  unfold Part.heatingEnd; repeat' split
  all_goals simp

/-! ### The regulator at a scan completion (R9, R10, R16) -/

@[simp] theorem Part.coolRunEnd_mode (p : Part) : p.coolRunEnd.mode = p.mode := by
  unfold Part.coolRunEnd; split <;> rfl
@[simp] theorem Part.ventTest_mode (p : Part) : p.ventTest.mode = p.mode := p.setVent_mode _
@[simp] theorem Part.ventEndSwitch_mode (p : Part) : p.ventEndSwitch.mode = p.mode := by
  unfold Part.ventEndSwitch; repeat' split
  all_goals rfl
@[simp] theorem Part.climateScan_mode (p : Part) : p.climateScan.mode = p.mode := by simp [Part.climateScan]
@[simp] theorem Part.climateDoorOpen_mode (p : Part) : p.climateDoorOpen.mode = p.mode := by
  unfold Part.climateDoorOpen; split <;> rfl
@[simp] theorem Part.demandOf_mode (p : Part) (st : ClimateState) (c : ClimateParams) : (p.demandOf st c).mode = p.mode := by
  rw [Part.demandOf_eq]
@[simp] theorem Part.climateDoorClose_mode (p : Part) : p.climateDoorClose.mode = p.mode := by
  unfold Part.climateDoorClose; split
  · dsimp only; split <;> simp
  · rfl

end Sys2Proof.Machine
end

section
/-! SUPPORT. What the events of a scan do to the ring and to STANDBY: they wake the part at most, and bring no part into
STANDBY (R60, R139, R143). -/

namespace Sys2Proof.Machine

/-- R60: the ring after a wake. -/
def Ring.woken (r : Ring) : Ring := { r with imageValid := false, eligible := false, startAtOnce := true }

/-- An event that leaves the ring alone, or wakes the part out of STANDBY, and enters no STANDBY. -/
structure Part.RingStays (p q : Part) : Prop where
  ring : q.ring = p.ring ∨ (p.mode.mode = .standby ∧ q.ring = p.ring.woken)
  awake : q.mode.mode = .standby → p.mode.mode = .standby

theorem Part.RingStays.refl (p : Part) : p.RingStays p := ⟨.inl rfl, id⟩

theorem Part.RingStays.trans {p q r : Part} (h : p.RingStays q) (k : q.RingStays r) : p.RingStays r := by
  refine ⟨?_, h.awake ∘ k.awake⟩
  rcases h.ring with hq | ⟨hm, hq⟩ <;> rcases k.ring with hr | ⟨km, hr⟩
  · exact .inl (hr.trans hq)
  · exact .inr ⟨h.awake km, by rw [hr, hq]⟩
  · exact .inr ⟨hm, hr.trans hq⟩
  · exact .inr ⟨hm, by rw [hr, hq]; rfl⟩

/-- An event leaves the ring of a part that is awake alone. -/
theorem Part.RingStays.of_awake {p q : Part} (h : p.RingStays q) (hm : p.mode.mode ≠ .standby) :
    q.ring = p.ring ∧ q.mode.mode ≠ .standby :=
  ⟨h.ring.resolve_right fun k => hm k.1, fun k => hm (h.awake k)⟩

/-- An event moves no node, no poll and no image. -/
theorem Part.RingStays.scan {p q : Part} (h : p.RingStays q) :
    q.ring.nodes = p.ring.nodes ∧ q.ring.phase = p.ring.phase ∧ q.ring.poll = p.ring.poll ∧ q.ring.scan = p.ring.scan
      ∧ q.ring.image = p.ring.image ∧ (p.ring.startAtOnce = true → q.ring.startAtOnce = true) := by
  rcases h.ring with hr | ⟨-, hr⟩ <;> rw [hr]
  · exact ⟨rfl, rfl, rfl, rfl, rfl, id⟩
  · exact ⟨rfl, rfl, rfl, rfl, rfl, fun _ => rfl⟩

theorem Part.Keeps.ringStays {p q : Part} (h : p.Keeps q) (hm : q.mode.mode = .standby → p.mode.mode = .standby) :
    p.RingStays q := ⟨.inl h.ring, hm⟩

theorem Part.Keeps.ringStays_of_mode {p q : Part} (h : p.Keeps q) (hm : q.mode = p.mode) : p.RingStays q :=
  h.ringStays fun k => hm ▸ k

/-- R60, R139: the wake. -/
theorem Part.wake_stays (p : Part) : p.RingStays p.wake := by
  by_cases h : p.mode.mode = .standby
  · refine ⟨.inr ⟨h, ?_⟩, fun _ => h⟩
    rw [Part.wake_of_standby h]
    rfl
  · rw [Part.wake_of_ne h]
    exact .refl p

/-! ### Blowdown requests and boundaries (R91, R93, R128) -/

theorem Part.tellExecutor_calm (p : Part) (how : Settlement) : p.Calm (p.tellExecutor how) := by
  unfold Part.tellExecutor
  repeat' split
  · exact p.goOn_calm
  · exact ⟨rfl, id⟩
  · exact .refl p

theorem Part.settleBlowdown_calm (p : Part) (how : Settlement) : p.Calm (p.settleBlowdown how) := by
  have htold : p.Calm { p with scale.inHand := false } := ⟨rfl, id⟩
  unfold Part.settleBlowdown
  split
  · exact htold.trans (Part.tellExecutor_calm _ how)
  · exact .refl p

theorem Part.refuseWaiting_calm (p : Part) : p.Calm p.refuseWaiting := by
  have hdropped : p.Calm { p with boiler.waiting := false } := ⟨rfl, id⟩
  unfold Part.refuseWaiting
  split
  · exact hdropped.trans (Part.settleBlowdown_calm _ .refused)
  · exact .refl p

theorem Part.answerBlowdown_awake (p : Part) (h : p.answerBlowdown.mode.mode = .standby) : p.mode.mode = .standby := by
  unfold Part.answerBlowdown at h
  repeat' split at h
  case isTrue => exact (p.settleBlowdown_calm .refused).awake h
  case h_1 => exact (p.settleBlowdown_calm .refused).awake h
  case h_4 =>
    have hsettled := ((p.scaleDrained (some .blowdown)).settleBlowdown_calm .completed).awake h
    rwa [Part.scaleDrained_mode] at hsettled
  all_goals simpa using h

theorem Part.requestBlowdown_awake (p : Part) (h : p.requestBlowdown.mode.mode = .standby) : p.mode.mode = .standby := by
  unfold Part.requestBlowdown at h
  split at h
  · exact h
  · have hasked := Part.answerBlowdown_awake _ h
    exact hasked

theorem Part.boundary_awake (p : Part) (h : p.boundary.mode.mode = .standby) : p.mode.mode = .standby := by
  obtain ⟨hfew, hmany⟩ := p.boundary_cases
  by_cases howed : p.scale.owed < 4
  · rw [hfew howed] at h
    have hnext := (Part.goOn_calm _).awake h
    exact hnext
  · rw [hmany (Nat.not_lt.1 howed)] at h
    have hwaits := Part.requestBlowdown_awake _ h
    exact hwaits

theorem Part.finishStage_stays (p : Part) (st : Stage) : p.RingStays (p.finishStage st) := by
  refine (Part.finishStage_keeps st (.refl p)).ringStays fun h => ?_
  unfold Part.finishStage at h
  split at h
  · exact h
  · exact p.boundary_awake h

/-! ### Faults (R146, R147) -/

/-- R147: a critical fault leaves no STANDBY. -/
theorem Part.safeStop_awake (p : Part) : p.safeStop.mode.mode ≠ .standby := by
  unfold Part.safeStop
  split
  · next h => rw [h]; decide
  · rw [Part.setMode_mode_mode]; decide

theorem Part.safeStop_keeps {p q : Part} (h : p.Keeps q) : p.Keeps q.safeStop := by
  unfold Part.safeStop
  split
  · exact h
  · exact Part.setMode_keeps _ (Part.clearHold_keeps h)

/-- R147: the effects of a critical fault wake the part. -/
theorem Part.criticalEffects_stays (p : Part) : p.RingStays p.criticalEffects := by
  have hwithdrawn : p.RingStays p.withdrawCavity.withdrawBoiler :=
    (Part.withdrawBoiler_keeps (Part.withdrawCavity_keeps (.refl p))).ringStays_of_mode (by simp)
  have hwoken := hwithdrawn.trans (Part.wake_stays _)
  have hstopped : p.withdrawCavity.withdrawBoiler.wake.Keeps p.criticalEffects :=
    Part.safeStop_keeps (Part.descaleCritical_keeps (Part.boilerStop_keeps
      (Part.programAborted_keeps (Part.forcedOff_keeps (.refl _)))))
  exact hwoken.trans (hstopped.ringStays fun h => absurd h (Part.safeStop_awake _))

/-- R81: the boiler in FAULT, before a blowdown in flight or waiting is settled. -/
def Part.boilerFaulted (p : Part) : Part :=
  (Part.boilerRest { p with boiler.inFlight := false } .fault).noBoilerRequest

/-- R81: the boiler in FAULT, before the sequencer is told. -/
def Part.faultSettled (p : Part) : Part :=
  if p.boiler.inFlight then p.boilerFaulted.settleBlowdown .endedWithout else p.boilerFaulted.refuseWaiting

theorem Part.enterFault_eq (p : Part) : p.enterFault = if p.boiler.state = .fault then p
    else if p.faultSettled.boiler.owner = .descale then p.faultSettled.descaleBoilerFault else p.faultSettled := rfl

theorem Part.faultSettled_calm (p : Part) : p.Calm p.faultSettled := by
  have hfaulted : p.Calm p.boilerFaulted := ⟨rfl, id⟩
  unfold Part.faultSettled
  split
  · exact hfaulted.trans (Part.settleBlowdown_calm _ .endedWithout)
  · exact hfaulted.trans (Part.refuseWaiting_calm _)

theorem Part.enterFault_awake (p : Part) (h : p.enterFault.mode.mode = .standby) : p.mode.mode = .standby := by
  rw [Part.enterFault_eq] at h
  repeat' split at h
  · exact h
  · rw [Part.descaleBoilerFault_mode] at h
    exact p.faultSettled_calm.awake h
  · exact p.faultSettled_calm.awake h

theorem Part.steamEffects_stays (p : Part) : p.RingStays p.steamEffects := by
  have hwithdrawn : p.RingStays p.withdrawBoiler :=
    (Part.withdrawBoiler_keeps (.refl p)).ringStays_of_mode p.withdrawBoiler_mode
  have hfault : p.withdrawBoiler.RingStays p.withdrawBoiler.enterFault :=
    (Part.enterFault_keeps (.refl _)).ringStays (Part.enterFault_awake _)
  have hcancelled (q : Part) : q.RingStays q.cancelStandby := by
    unfold Part.cancelStandby
    split
    · exact (Part.setMode_keeps .active (.refl q)).ringStays fun h => by rw [Part.setMode_mode_mode] at h; cases h
    · exact .refl q
  exact (hwithdrawn.trans hfault).trans (hcancelled _)

theorem Part.stallEffects_stays (p : Part) : p.RingStays p.stallEffects := by
  rcases p.stallEffects_eq with h | h <;> rw [h] <;> exact ⟨.inl rfl, id⟩

theorem Part.raiseFault_stays (p : Part) (k : FaultKind) : p.RingStays (p.raiseFault k) := by
  have hlatched : p.RingStays (p.latch k) := ⟨.inl rfl, id⟩
  unfold Part.raiseFault
  repeat' split
  · exact .refl p
  · exact hlatched
  · exact hlatched.trans (Part.criticalEffects_stays _)
  · exact hlatched.trans (Part.stallEffects_stays _)
  · exact hlatched.trans (Part.steamEffects_stays _)
  · exact hlatched

end Sys2Proof.Machine
end

section
/-! SUPPORT. The completion of a scan (R44, R52 to R55): what each block's part in it does to the ring, and the last poll
that leads to it. -/

namespace Sys2Proof.Machine

/-! ### The blocks at a completion (R20, R36, R37, R69, R72, log entry 14) -/

theorem Part.overtempWatch_stays (p : Part) : p.RingStays p.overtempWatch := by
  have hset : p.RingStays { p with climate.overtemp := true } := ⟨.inl rfl, id⟩
  unfold Part.overtempWatch
  repeat' split
  · exact .refl p
  · exact hset.trans (Part.raiseFault_stays _ _)
  all_goals exact ⟨.inl rfl, id⟩

theorem Part.overheatWatch_stays (p : Part) : p.RingStays p.overheatWatch := by
  have hset : p.RingStays { p with boiler.overheat := true } := ⟨.inl rfl, id⟩
  unfold Part.overheatWatch
  repeat' split
  · exact .refl p
  · exact hset.trans (Part.raiseFault_stays _ _)
  all_goals exact ⟨.inl rfl, id⟩

theorem Part.scanClimate_stays (p : Part) (d : DoorChange) : p.RingStays (p.scanClimate d) := by
  have hscan (q : Part) : q.RingStays q.climateScan :=
    (Part.climateScan_keeps (.refl q)).ringStays_of_mode q.climateScan_mode
  unfold Part.scanClimate
  refine (p.overtempWatch_stays.trans ?_).trans (hscan _)
  cases d with
  | none => exact .refl _
  | opened => exact (Part.climateDoorOpen_keeps (.refl _)).ringStays_of_mode (Part.climateDoorOpen_mode _)
  | closed => exact (Part.climateDoorClose_keeps (.refl _)).ringStays_of_mode (Part.climateDoorClose_mode _)

/-- R36, R37: the withdrawals that a completion asks for. -/
theorem Part.scanPower_cases (p : Part) (d : DoorChange) :
    (d = .opened → p.ring.image.boilerUnsafe = false → p.scanPower d = p.withdrawCavity)
      ∧ (d ≠ .opened → p.ring.image.boilerUnsafe = false → p.scanPower d = p)
      ∧ (d ≠ .opened → p.ring.image.boilerUnsafe = true → p.scanPower d = p.withdrawBoiler)
      ∧ (d = .opened → p.ring.image.boilerUnsafe = true → p.scanPower d = p.withdrawCavity.withdrawBoiler) := by
  refine ⟨fun hd hu => ?_, fun hd hu => ?_, fun hd hu => ?_, fun hd hu => ?_⟩ <;>
    simp [Part.scanPower, hd, hu]

theorem Part.scanPower_stays (p : Part) (d : DoorChange) : p.RingStays (p.scanPower d) := by
  have hcavity : p.RingStays p.withdrawCavity := ⟨.inl rfl, id⟩
  have hboiler (q : Part) : q.RingStays q.withdrawBoiler :=
    (Part.withdrawBoiler_keeps (.refl q)).ringStays_of_mode q.withdrawBoiler_mode
  unfold Part.scanPower
  dsimp only
  repeat' split
  · exact hcavity.trans (hboiler _)
  · exact hcavity
  · exact hboiler p
  · exact .refl p

theorem Part.scanFill_stays (p : Part) : p.RingStays p.scanFill := by
  unfold Part.scanFill
  repeat' split
  · exact (Part.fillDone_keeps (.refl p)).ringStays_of_mode p.fillDone_mode
  · exact .refl p
  · exact (Part.pauseFill_keeps .tankOut (.refl p)).ringStays_of_mode rfl

theorem Part.scanPaused_stays (p : Part) : p.RingStays p.scanPaused := by
  unfold Part.scanPaused
  repeat' split
  · exact (Part.fillDone_keeps (.refl p)).ringStays_of_mode p.fillDone_mode
  · exact (Part.runFill_keeps (.refl p)).ringStays_of_mode p.runFill_mode
  · exact .refl p
  · exact ⟨.inl rfl, id⟩

theorem Part.heatingEnd_keeps {p q : Part} (h : p.Keeps q) : p.Keeps q.heatingEnd := by
  unfold Part.heatingEnd
  repeat' split
  · exact Part.descaleHeated_keeps (Part.boilerReady_keeps h)
  · exact Part.startDrain_keeps .flush .refill h
  · exact Part.boilerSteamOrReady_keeps (Part.noBoilerRequest_keeps h)

theorem Part.scanHeating_stays (p : Part) : p.RingStays p.scanHeating := by
  have hclear : p.RingStays p.noBoilerRequest := ⟨.inl rfl, id⟩
  unfold Part.scanHeating
  repeat' split
  · exact hclear.trans ((Part.normalFill_keeps (.refl _)).ringStays_of_mode (Part.normalFill_mode _))
  · exact (Part.heatingEnd_keeps (.refl p)).ringStays_of_mode p.heatingEnd_mode
  · exact ⟨.inl rfl, id⟩
  · exact hclear

theorem Part.scanKeepHot_stays (p : Part) : p.RingStays p.scanKeepHot := by
  unfold Part.scanKeepHot
  repeat' split
  all_goals exact ⟨.inl rfl, id⟩

theorem Part.scanLevel_stays (p : Part) : p.RingStays p.scanLevel := by
  unfold Part.scanLevel
  repeat' split
  all_goals exact ⟨.inl rfl, id⟩

theorem Part.scanDraining_stays (p : Part) : p.RingStays p.scanDraining := by
  unfold Part.scanDraining
  split <;> exact ⟨.inl rfl, id⟩

/-- Chapter 4: the boiler at a completion, by its state. -/
theorem Part.scanBoiler_stays (p : Part) : p.RingStays p.scanBoiler := by
  refine p.overheatWatch_stays.trans ?_
  unfold Part.scanBoiler
  dsimp only
  split
  case h_2 => exact Part.scanFill_stays _
  case h_3 => exact Part.scanPaused_stays _
  case h_4 => exact Part.scanHeating_stays _
  case h_5 => exact (Part.scanKeepHot_stays _).trans (Part.scanLevel_stays _)
  case h_6 => exact Part.scanLevel_stays _
  case h_7 => exact Part.scanFill_stays _
  case h_8 =>
    split
    · exact (Part.enterDraining_keeps (.refl _)).ringStays_of_mode (Part.enterDraining_mode _)
    · exact .refl _
  case h_9 => exact Part.scanDraining_stays _
  all_goals exact .refl _

theorem Part.scanProgram_stays (p : Part) : p.RingStays p.scanProgram := by
  have htested : p.RingStays (p.testDegraded false) :=
    (Part.testDegraded_keeps false (.refl p)).ringStays (p.testDegraded_calm false).awake
  unfold Part.scanProgram
  dsimp only
  repeat' split
  · exact htested.trans (Part.finishStage_stays _ _)
  all_goals exact htested

theorem Part.descaleRewarm_stays (p : Part) : p.RingStays p.descaleRewarm :=
  (Part.descaleRewarm_keeps (.refl p)).ringStays_of_mode p.descaleRewarm_mode

theorem Part.scanMode_stays (p : Part) (d : DoorChange) : p.RingStays (p.scanMode d) := by
  unfold Part.scanMode
  repeat' split
  · exact p.wake_stays
  all_goals exact ⟨.inl rfl, id⟩

/-- R114, R181: the water step leaves the ring alone. -/
theorem Part.waterStep_ring (p : Part) : p.waterStep.ring = p.ring := by
  have hstartup (q : Part) : q.Keeps q.boilerStartup := by
    unfold Part.boilerStartup
    repeat' split
    · exact .refl q
    · exact Part.startDrain_keeps .normal .none (.refl q)
    · exact .refl q
  unfold Part.waterStep
  dsimp only
  split
  · rw [Part.setMode_ring]
    dsimp only
    split
    · exact (Part.descaleRecover_keeps (.refl p)).ring
    · exact ((Part.descaleNoRecovery_keeps (.refl p)).trans (hstartup _)).ring
  · rfl

/-! ### The completion (R52 to R55) -/

/-- R55: the door change of an image. -/
theorem doorChange_eq (derived before after : Bool) : doorChange derived before after =
    if derived = false ∨ before = after then .none else if after then .closed else .opened := by
  cases derived <;> cases before <;> cases after <;> rfl

/-- R52: the ring has completed its scan. -/
def Part.scanned (p : Part) : Part := { p with ring := p.ring.complete }

/-- R55: the completed scan with the notice of a door change. -/
def Part.doorRaised (p : Part) (d : DoorChange) : Part :=
  if d = .none then p.scanned else p.scanned.raiseNotice .doorChange

/-- R52: the completed scan with its notices before SCAN_DONE. -/
def Part.watchRaised (p : Part) (d : DoorChange) : Part :=
  if (p.doorRaised d).ring.found then (p.doorRaised d).raiseNotice .watchChange else p.doorRaised d

theorem Part.scanEvent_eq (p : Part) (d : DoorChange) :
    p.scanEvent d = ((p.watchRaised d).raiseNotice .scanDone).offerCapture := rfl

theorem Part.doorRaised_blocks (p : Part) (d : DoorChange) :
    (p.doorRaised d).ring = p.ring.complete ∧ (p.doorRaised d).mode = p.mode := by
  unfold Part.doorRaised
  split <;> exact ⟨rfl, rfl⟩

/-- R52, R172: the notices and the offered snapshot leave the completed ring and the mode alone. -/
theorem Part.scanEvent_blocks (p : Part) (d : DoorChange) :
    (p.scanEvent d).ring = p.ring.complete ∧ (p.scanEvent d).mode = p.mode := by
  have hoffer (q : Part) : q.offerCapture.ring = q.ring ∧ q.offerCapture.mode = q.mode := by
    unfold Part.offerCapture
    repeat' split
    all_goals exact ⟨rfl, rfl⟩
  rw [Part.scanEvent_eq, (hoffer _).1, (hoffer _).2, Part.raiseNotice_ring, Part.raiseNotice_mode]
  unfold Part.watchRaised
  split <;> exact p.doorRaised_blocks d

theorem Part.scanEvent_stays (p : Part) (d : DoorChange) : p.scanned.RingStays (p.scanEvent d) := by
  obtain ⟨hring, hmode⟩ := p.scanEvent_blocks d
  exact ⟨.inl hring, fun h => hmode ▸ h⟩

/-- R52: the blocks that act on the image before the water step. -/
def Part.scanActed (p : Part) (d : DoorChange) : Part :=
  Part.scanMode (Part.descaleRewarm (Part.scanProgram (Part.scanBoiler
    (((p.scanEvent d).scanClimate d).scanPower d)))) d

/-- R55: the door change of the image that a completion derives. -/
def Part.doorSeen (p : Part) : DoorChange :=
  doorChange p.ring.derived p.ring.image.doorClosed p.ring.deriveImage.doorClosed

theorem Part.doorSeen_eq (p : Part) : p.doorSeen =
    if p.ring.derived = false ∨ p.ring.image.doorClosed = p.ring.deriveImage.doorClosed then .none
    else if p.ring.deriveImage.doorClosed then .closed else .opened := doorChange_eq _ _ _

/-- R52: a completion is the image, every block that acts on it, the water step, and the reactions. -/
theorem Part.completeScan_eq (p : Part) : p.completeScan = ((p.scanActed p.doorSeen).waterStep).settle := rfl

theorem Part.scanActed_stays (p : Part) (d : DoorChange) : p.scanned.RingStays (p.scanActed d) :=
  ((((((p.scanEvent_stays d).trans (Part.scanClimate_stays _ d)).trans (Part.scanPower_stays _ d)).trans
    (Part.scanBoiler_stays _)).trans (Part.scanProgram_stays _)).trans (Part.descaleRewarm_stays _)).trans
    (Part.scanMode_stays _ d)

/-- R52, R60: the ring after a completion, which wakes the part at most. -/
theorem Part.completeScan_ring (p : Part) : ∃ q : Part, p.scanned.RingStays q ∧ p.completeScan.ring = q.ring := by
  rw [Part.completeScan_eq]
  exact ⟨_, p.scanActed_stays _, (Part.settle_keeps (.refl _)).ring.trans (Part.waterStep_ring _)⟩

/-- R52: the image in force after a completion. -/
theorem Part.completeScan_image (p : Part) : p.completeScan.ring.image = p.ring.deriveImage := by
  obtain ⟨q, hq, hring⟩ := p.completeScan_ring
  obtain ⟨-, -, -, -, himage, -⟩ := hq.scan
  exact (congrArg Ring.image hring).trans himage

/-- R52: a notice raised at the completion is pending after it. -/
theorem Part.completeScan_pending {p : Part} {i : Nat}
    (h : (p.scanEvent p.doorSeen).notice.pending.getLsbD i = true) : p.completeScan.notice.pending.getLsbD i = true := by
  have hprogram : (p.scanEvent p.doorSeen).Persists (Part.scanProgram (Part.scanBoiler
      (((p.scanEvent p.doorSeen).scanClimate p.doorSeen).scanPower p.doorSeen))) :=
    Part.scanProgram_persists (Part.scanBoiler_persists (Part.scanPower_persists _ (Part.scanClimate_persists _ (.refl _))))
  have hacted : (p.scanEvent p.doorSeen).Persists (p.scanActed p.doorSeen).waterStep :=
    Part.waterStep_persists (Part.scanMode_persists _ (hprogram.keeps (Part.descaleRewarm_keeps (.refl _))))
  have hsettled : (p.scanEvent p.doorSeen).Persists p.completeScan := by
    rw [Part.completeScan_eq]
    exact hacted.keeps (Part.settle_keeps (.refl _))
  exact hsettled.adds.pending i h

/-- R52, R55, R167: the notices of a completion. -/
theorem Part.scanEvent_notices (p : Part) (d : DoorChange) :
    let u := (p.scanEvent d).notice.pending
    u.getLsbD (noticePosition .scanDone) = true
      ∧ (p.ring.changedNodes ≠ 0 → u.getLsbD (noticePosition .watchChange) = true)
      ∧ (d ≠ .none → u.getLsbD (noticePosition .doorChange) = true) := by
  have hoffer (q : Part) (i : Nat) (h : q.notice.pending.getLsbD i = true) :
      q.offerCapture.notice.pending.getLsbD i = true := (Part.offerCapture_persists (.refl q)).adds.pending i h
  have hdone (i : Nat) (h : (p.watchRaised d).notice.pending.getLsbD i = true) :=
    hoffer ((p.watchRaised d).raiseNotice .scanDone) i (NoticeUnit.raise_pending _ .scanDone i h)
  refine ⟨hoffer ((p.watchRaised d).raiseNotice .scanDone) _ (NoticeUnit.raise_self _ .scanDone),
    fun hn => hdone _ ?_, fun hd => hdone _ ?_⟩
  · have hfound : (p.doorRaised d).ring.found = true := by
      rw [(p.doorRaised_blocks d).1]
      exact decide_eq_true hn
    rw [Part.watchRaised, if_pos hfound]
    exact NoticeUnit.raise_self _ .watchChange
  · have hdoor : (p.doorRaised d).notice.pending.getLsbD (noticePosition .doorChange) = true := by
      rw [Part.doorRaised, if_neg hd]
      exact NoticeUnit.raise_self _ .doorChange
    unfold Part.watchRaised
    split
    · exact Part.raiseNotice_pending .watchChange hdoor
    · exact hdoor

end Sys2Proof.Machine
end

section
/-! SUPPORT. The last poll of a scan (R44 to R46): its judgement, and that no judgement moves the polls to come. -/

namespace Sys2Proof.Machine

/-! ### The polls to come (R44) -/

/-- A write that agrees with the old element under `f` changes no element under `f`. -/
theorem getAt_setAt_congr {α β : Type} (f : α → β) (d : α) (xs : List α) (n m : Nat) (a : α)
    (h : f a = f (getAt d xs n)) : f (getAt d (setAt xs n a) m) = f (getAt d xs m) := by
  induction xs generalizing n m with
  | nil => rfl
  | cons x xs ih =>
    cases n with
    | zero => cases m with
      | zero => exact h
      | succ m => rfl
    | succ n => cases m with
      | zero => rfl
      | succ m => exact ih n m h

/-- R44: the search for the next poll asks only which entries are polled. -/
theorem Ring.nextAddress_congr {r t : Ring} (h : ∀ b, (t.entry b).polled = (r.entry b).polled) (n a : Nat) :
    t.nextAddress n a = r.nextAddress n a := by
  induction n generalizing a with
  | zero => rfl
  | succ n ih => rw [Ring.nextAddress, Ring.nextAddress, h a, ih (a + 1)]

theorem Ring.nextAddress_of_nodes {r t : Ring} (h : t.nodes = r.nodes) (n a : Nat) :
    t.nextAddress n a = r.nextAddress n a :=
  Ring.nextAddress_congr (fun b => by rw [Ring.entry, h, Ring.entry]) n a

/-- R44: an entry that stays polled, or stays unpolled, moves no poll to come. -/
theorem Ring.nextAddress_putEntry (r : Ring) {a : Nat} {m : NodeEntry} (h : m.polled = (r.entry a).polled) (n b : Nat) :
    (r.putEntry a m).nextAddress n b = r.nextAddress n b :=
  Ring.nextAddress_congr (r := r) (t := r.putEntry a m)
    (fun c => getAt_setAt_congr NodeEntry.polled _ _ _ (c - 1) _ h) n b

/-- R45: a good reply keeps the entry's kind and its mask. -/
theorem NodeEntry.good_polled (n : NodeEntry) (r : RingReply) : (n.good r).polled = n.polled := by
  have hmain : (n.goodMain r).polled = n.polled := by
    unfold NodeEntry.goodMain
    split <;> rfl
  unfold NodeEntry.good
  cases r.fetch
  case main => exact hmain
  all_goals rfl

/-! ### Judgements (R45, R46) -/

/-- R36: the allocator told of the cavity node. -/
def Part.cavityTold (p : Part) (before : Ring) : Part :=
  if before.linked .cavityTemp && !p.ring.linked .cavityTemp then p.withdrawCavity else p

/-- R130: the executor told of the core probe. -/
def Part.probeTold (p : Part) (before : Ring) : Part :=
  if before.linked .coreProbe && !p.ring.linked .coreProbe then p.probeGone else p

theorem Part.cavityTold_stays (p : Part) (before : Ring) : p.RingStays (p.cavityTold before) := by
  unfold Part.cavityTold
  split <;> exact ⟨.inl rfl, id⟩

theorem Part.probeTold_stays (p : Part) (before : Ring) : p.RingStays (p.probeTold before) := by
  have hmode : p.probeGone.mode = p.mode := by
    unfold Part.probeGone
    repeat' split
    all_goals rfl
  unfold Part.probeTold
  split
  · exact (Part.probeGone_keeps (.refl p)).ringStays_of_mode hmode
  · exact .refl p

theorem Part.linkTold_stays (p : Part) (before : Ring) (k : NodeKind) (lost : Bool) :
    p.RingStays (p.linkTold before k lost) := by
  have htold : p.RingStays ((p.cavityTold before).probeTold before) :=
    (p.cavityTold_stays before).trans (Part.probeTold_stays _ before)
  cases lost with
  | false => exact htold
  | true =>
    cases k
    case cavityTemp => exact htold.trans (Part.raiseFault_stays _ .cavityNodeLost)
    case door => exact htold.trans (Part.raiseFault_stays _ .doorNodeLost)
    case boiler => exact htold.trans (Part.raiseFault_stays _ .boilerNodeLost)
    case waterTank => exact htold.trans (Part.raiseFault_stays _ .tankNodeLost)
    all_goals exact htold

/-- R46: the miss just counted is the third in a row of a LINKED entry. -/
def NodeEntry.thirdMiss (n : NodeEntry) : Bool := n.link = .linked && n.misses = 3

/-- R45, R46: what a miss makes of its entry. -/
def NodeEntry.missed (n : NodeEntry) (badCheck : Bool) : NodeEntry :=
  if (n.miss badCheck).thirdMiss then { n.miss badCheck with link := .lost } else n.miss badCheck

theorem NodeEntry.missed_polled (n : NodeEntry) (badCheck : Bool) : (n.missed badCheck).polled = n.polled := by
  unfold NodeEntry.missed
  split <;> rfl

/-- R45, R46: the third consecutive miss of a LINKED entry loses its link. -/
theorem NodeEntry.missed_eq (n : NodeEntry) : n.missed false = { n with
    misses := min 3 (n.misses + 1), totalMisses := min 65535 (n.totalMisses + 1)
    link := if n.link = .linked ∧ 2 ≤ n.misses then .lost else n.link } := by
  have hthird : min 3 (n.misses + 1) = 3 ↔ 2 ≤ n.misses := by omega
  simp only [NodeEntry.missed, NodeEntry.thirdMiss, NodeEntry.miss, bump_eq, Bool.and_eq_true, decide_eq_true_eq, hthird]
  split <;> rfl

/-- The blocks with an entry judged, before the other blocks are told. -/
def Part.judged (p : Part) (a : Nat) (m : NodeEntry) : Part := { p with ring := p.ring.putEntry a m }

theorem Part.judgeMiss_eq (p : Part) (a : Nat) (badCheck : Bool) : p.judgeMiss a badCheck =
    let q := p.judged a ((p.ring.entry a).missed badCheck)
    if ((p.ring.entry a).miss badCheck).thirdMiss then
      (q.raiseNotice .nodeChange).linkTold p.ring ((p.ring.entry a).miss badCheck).kind true
    else q := rfl

theorem Part.judgeMiss_stays (p : Part) (a : Nat) (badCheck : Bool) :
    (p.judged a ((p.ring.entry a).missed badCheck)).RingStays (p.judgeMiss a badCheck) := by
  have hraised (q : Part) : q.RingStays (q.raiseNotice .nodeChange) := ⟨.inl rfl, id⟩
  rw [Part.judgeMiss_eq]
  dsimp only
  split
  · exact (hraised _).trans (Part.linkTold_stays _ _ _ _)
  · exact .refl _

/-- R45: the blocks after a good reply, before the test of its identity. -/
def Part.goodTold (p : Part) (a : Nat) (r : RingReply) : Part :=
  let q := p.judged a ((p.ring.entry a).good r)
  if (p.ring.entry a).link ≠ .linked ∨ r.fetch = .ident then q.raiseNotice .nodeChange else q

theorem Part.judgeGood_eq (p : Part) (a : Nat) (r : RingReply) : p.judgeGood a r =
    if r.fetch = .ident ∧ ((p.ring.entry a).good r).mismatch then (p.goodTold a r).raiseFault .nodeMap
    else p.goodTold a r := rfl

theorem Part.judgeGood_stays (p : Part) (a : Nat) (r : RingReply) :
    (p.judged a ((p.ring.entry a).good r)).RingStays (p.judgeGood a r) := by
  have htold : (p.judged a ((p.ring.entry a).good r)).RingStays (p.goodTold a r) := by
    unfold Part.goodTold
    dsimp only
    split <;> exact ⟨.inl rfl, id⟩
  rw [Part.judgeGood_eq]
  split
  · exact htold.trans (Part.raiseFault_stays _ .nodeMap)
  · exact htold

end Sys2Proof.Machine
end

section
/-! SUPPORT. The last poll of a scan and the scan that may follow it at once (R43 to R45, R52). -/

namespace Sys2Proof.Machine

/-! ### The poll dealt with (R44, R45) -/

/-- R44: the poll in flight has been dealt with, and none follows it. -/
def Part.pollEnded (p : Part) : Part := { p with ring := { p.ring with poll := none } }

theorem Part.nextPoll_last {p : Part} {a : Nat} (h : p.ring.nextAddress 12 (a + 1) = none) :
    p.nextPoll a = p.pollEnded.completeScan := by
  have hfrom : p.ring.pollFrom (a + 1) = { p.ring with poll := none } := by simp only [Ring.pollFrom, h]
  simp only [Part.nextPoll, hfrom, Option.isSome_none, Bool.false_eq_true, if_false, Part.pollEnded]

/-- R44: the judgement of the last poll leaves it the last. -/
theorem Part.nextPoll_judged {p q : Part} {a : Nat} {m : NodeEntry} (h : p.ring.nextAddress 12 (a + 1) = none)
    (hm : m.polled = (p.ring.entry a).polled) (hq : (p.judged a m).RingStays q) :
    q.nextPoll a = q.pollEnded.completeScan := by
  obtain ⟨hnodes, -⟩ := hq.scan
  refine Part.nextPoll_last ?_
  rw [Ring.nextAddress_of_nodes hnodes]
  exact (p.ring.nextAddress_putEntry hm 12 (a + 1)).trans h

theorem Part.nextPoll_missed {p : Part} {a : Nat} (h : p.ring.nextAddress 12 (a + 1) = none) (badCheck : Bool) :
    (p.judgeMiss a badCheck).nextPoll a = (p.judgeMiss a badCheck).pollEnded.completeScan :=
  Part.nextPoll_judged h (NodeEntry.missed_polled _ _) (Part.judgeMiss_stays _ _ _)

theorem Part.nextPoll_good {p : Part} {a : Nat} (h : p.ring.nextAddress 12 (a + 1) = none) (r : RingReply) :
    (p.judgeGood a r).nextPoll a = (p.judgeGood a r).pollEnded.completeScan :=
  Part.nextPoll_judged h (NodeEntry.good_polled _ _) (Part.judgeGood_stays _ _ _)

section
variable {s : State} {poll : Poll} (hp : s.part.ring.phase = .scanning) (hpoll : s.part.ring.poll = some poll)
include hp hpoll

/-- R45: a closed reply window is a miss, but for an entry masked meanwhile. -/
theorem Part.replyMissing_scanning : s.part.replyMissing =
    if poll.discard then s.part.nextPoll poll.address
    else (s.part.judgeMiss poll.address false).nextPoll poll.address := by
  simp only [Part.replyMissing, hp, hpoll]

/-- R45: a frame in the reply window is judged, but for an entry masked meanwhile. -/
theorem Part.nodeReply_scanning (r : RingReply) : s.part.nodeReply r =
    if poll.discard then s.part.nextPoll poll.address
    else if !decide (crc8 r.body ≠ r.crc) && answersPoll r poll then
      (s.part.judgeGood poll.address r).nextPoll poll.address
    else (s.part.judgeMiss poll.address (decide (crc8 r.body ≠ r.crc))).nextPoll poll.address := by
  simp only [Part.nodeReply, hp, hpoll]

variable (hlast : s.part.ring.nextAddress 12 (poll.address + 1) = none)
include hlast

/-- R44, R52: a discarded last poll completes the scan unjudged. -/
theorem exec_lastPoll_discarded (hd : poll.discard = true) :
    exec .replyWindowExpiry s = .next (s.settled s.part.pollEnded.completeScan)
      ∧ ∀ r, exec (.nodeReply r) s = .next (s.settled s.part.pollEnded.completeScan) :=
  ⟨next_settled ((Part.replyMissing_scanning hp hpoll).trans ((if_pos hd).trans (Part.nextPoll_last hlast))),
    fun r => next_settled ((Part.nodeReply_scanning hp hpoll r).trans ((if_pos hd).trans (Part.nextPoll_last hlast)))⟩

/-- R45, R46, R52: a last poll that is missed completes the scan after the miss has been judged. -/
theorem exec_lastPoll_expired (hd : poll.discard = false) : exec .replyWindowExpiry s
    = .next (s.settled (s.part.judgeMiss poll.address false).pollEnded.completeScan) := by
  refine next_settled ((Part.replyMissing_scanning hp hpoll).trans ?_)
  rw [hd, if_neg (by decide), Part.nextPoll_missed hlast]

/-- R45: a frame with a bad check is a miss that counts it. -/
theorem exec_lastPoll_badCheck (hd : poll.discard = false) {r : RingReply} (hr : crc8 r.body ≠ r.crc) :
    exec (.nodeReply r) s = .next (s.settled (s.part.judgeMiss poll.address true).pollEnded.completeScan) := by
  refine next_settled ((Part.nodeReply_scanning hp hpoll r).trans ?_)
  rw [hd, if_neg (by decide), decide_eq_true hr, if_neg (by simp), Part.nextPoll_missed hlast]

/-- R45: a sound frame of another poll is a miss. -/
theorem exec_lastPoll_otherPoll (hd : poll.discard = false) {r : RingReply} (hr : crc8 r.body = r.crc)
    (ha : r.address ≠ poll.address ∨ r.fetch ≠ poll.fetch) :
    exec (.nodeReply r) s = .next (s.settled (s.part.judgeMiss poll.address false).pollEnded.completeScan) := by
  have hother : answersPoll r poll = false := by
    rcases ha with h | h <;> simp [answersPoll, h]
  refine next_settled ((Part.nodeReply_scanning hp hpoll r).trans ?_)
  rw [hd, if_neg (by decide), decide_eq_false (not_not.2 hr), hother, if_neg (by decide),
    Part.nextPoll_missed hlast]

/-- R45, R52: a good last reply completes the scan after it has been judged. -/
theorem exec_lastPoll_good (hd : poll.discard = false) {r : RingReply} (hr : crc8 r.body = r.crc)
    (ha : r.address = poll.address) (hf : r.fetch = poll.fetch) :
    exec (.nodeReply r) s = .next (s.settled (s.part.judgeGood poll.address r).pollEnded.completeScan) := by
  have hanswers : answersPoll r poll = true := by simp [answersPoll, ha, hf]
  refine next_settled ((Part.nodeReply_scanning hp hpoll r).trans ?_)
  rw [hd, if_neg (by decide), decide_eq_false (not_not.2 hr), hanswers, if_pos (by decide),
    Part.nextPoll_good hlast]

end

/-! ### The scan that follows at once (R43) -/

/-- R43: the ring at the start of a scan, before its first poll. -/
def Part.scanBegun (p : Part) : Ring := { p.ring with
  phase := .scanning, scan := (p.ring.scan + 1) % 65536, timer := .start p.scanInterval, startAtOnce := false
  eligible := true }

/-- R43: a scan that starts polls the first address that is polled. -/
theorem Part.startScan_ring {p : Part} {a : Nat} (h : p.ring.nextAddress 12 1 = some a) :
    let r := p.startScan.ring
    r.phase = .scanning ∧ r.scan = (p.ring.scan + 1) % 65536 ∧ r.poll.map Poll.address = some a
      ∧ r.startAtOnce = false ∧ r.image = p.ring.image := by
  have hnext : p.scanBegun.nextAddress 12 1 = some a := (Ring.nextAddress_of_nodes rfl 12 1).trans h
  have hring : p.startScan.ring = p.scanBegun.beginPoll a := by
    show p.scanBegun.pollFrom 1 = _
    simp only [Ring.pollFrom, hnext]
  rw [hring]
  exact ⟨rfl, rfl, rfl, rfl, rfl⟩

/-- R43: a scan that is due starts at once where none is in progress. -/
theorem Part.advance_of_due {p : Part} {a : Nat} (n : Nat) (hp : p.ring.phase = .idle) (hs : p.ring.startAtOnce = true)
    (h : p.ring.nextAddress 12 1 = some a) : Part.advance (n + 1) p = p.startScan := by
  obtain ⟨-, -, hpoll, -⟩ := Part.startScan_ring h
  have hsome : p.startScan.ring.poll.isSome = true := by
    rw [← Option.isSome_map (f := Poll.address), hpoll]
    rfl
  rw [Part.advance, if_pos (by simp [hp, hs])]
  exact if_pos hsome

/-- R43, R52: where an overrun has made a scan due, it starts behind the reactions to the completion. -/
theorem State.settled_overrun (s : State) {p : Part} {a : Nat} (hs : p.ring.startAtOnce = true)
    (h : p.ring.nextAddress 12 1 = some a) :
    let r := (s.settled p.completeScan).part.ring
    r.phase = .scanning ∧ r.scan = (p.ring.scan + 1) % 65536 ∧ r.poll.map Poll.address = some a
      ∧ r.startAtOnce = false ∧ r.image = p.ring.deriveImage := by
  have hquiet (q : Part) (b : Bool) : (q.quietReports b).ring = q.ring := by cases b <;> rfl
  obtain ⟨q, hq, hring⟩ := p.completeScan_ring
  obtain ⟨hnodes, hphase, -, hscan, himage, hstart⟩ := hq.scan
  have hsettle : p.completeScan.settle.ring = q.ring := (Part.settle_keeps (.refl _)).ring.trans hring
  have hnext : p.completeScan.settle.ring.nextAddress 12 1 = some a := by
    rw [hsettle, Ring.nextAddress_of_nodes hnodes]
    exact (Ring.nextAddress_of_nodes rfl 12 1).trans h
  have hadvance : Part.advance 3 p.completeScan.settle = p.completeScan.settle.startScan :=
    Part.advance_of_due 2 (by rw [hsettle, hphase]; rfl) (by rw [hsettle]; exact hstart hs) hnext
  obtain ⟨kphase, kscan, kpoll, kstart, kimage⟩ := Part.startScan_ring hnext
  dsimp only
  rw [State.settled, State.onBlocks_part, hquiet, hadvance, kphase, kscan, kpoll, kstart, kimage, hsettle, hscan, himage]
  exact ⟨rfl, rfl, rfl, rfl, rfl⟩

/-! ### The completion of an awake part (R52, R55) -/

theorem Part.completeScan_awake {p : Part} (h : p.mode.mode ≠ .standby) : p.completeScan.ring = p.ring.complete := by
  obtain ⟨q, hq, hring⟩ := p.completeScan_ring
  exact hring.trans (hq.of_awake h).1

/-- R52, R55: the ring and the notices of a completion, behind the reactions. -/
theorem State.settled_completion (s : State) {p : Part} (hm : p.mode.mode ≠ .standby) (hs : p.ring.startAtOnce = false) :
    let t := s.settled p.completeScan
    t.part.ring = p.ring.complete ∧ t.part.notice.pending.getLsbD (noticePosition .scanDone) = true
      ∧ (p.ring.changedNodes ≠ 0 → t.part.notice.pending.getLsbD (noticePosition .watchChange) = true)
      ∧ (p.ring.derived = true → p.ring.image.doorClosed ≠ p.ring.deriveImage.doorClosed →
        t.part.notice.pending.getLsbD (noticePosition .doorChange) = true) := by
  have hring := Part.completeScan_awake hm
  have hdue : p.completeScan.ring.phase = .idle → p.completeScan.ring.startAtOnce = false := fun _ => by
    rw [hring]; exact hs
  have hraised {i : Nat} (h : (p.scanEvent p.doorSeen).notice.pending.getLsbD i = true) :=
    State.settled_notice (s := s) hdue (Part.completeScan_pending h)
  obtain ⟨-, -, -, -, -, -, -, -, kring⟩ := State.settled_mains (s := s) hdue
  obtain ⟨hdone, hwatch, hdoor⟩ := p.scanEvent_notices p.doorSeen
  refine ⟨kring.trans hring, hraised hdone, fun h => hraised (hwatch h), fun hd hc => hraised (hdoor ?_)⟩
  rw [Part.doorSeen_eq, if_neg (by simp [hd, hc])]
  split <;> decide

/-- R37: the image asks for a boiler withdrawal. -/
theorem Image.boilerUnsafe_iff (i : Image) : i.boilerUnsafe = true ↔
    i.lowWet = false ∨ i.boilerTemp = none ∨ ∃ t, i.boilerTemp = some t ∧ 1400 ≤ t := by
  cases h : i.boilerTemp <;> simp [Image.boilerUnsafe, h]

/-- Settles O33: the last poll by its judgement, the completion by the blocks that act on the image. -/
theorem lastPollCompletesScan : Obligations.LastPollCompletesScan := by
  refine ⟨fun s poll hp hpoll hlast hs hm => ?ring, fun s poll hp hpoll hlast => ?polls, fun p => ?blocks⟩
  case ring =>
    intro n missed r image
    have hjudged : ∃ q : Part, q.ring = r ∧ q.mode.mode ≠ .standby
        ∧ exec .replyWindowExpiry s = .next (s.settled q.pollEnded.completeScan) := by
      by_cases hd : poll.discard = true
      · exact ⟨s.part, (if_pos hd).symm, hm, (exec_lastPoll_discarded hp hpoll hlast hd).1⟩
      · obtain ⟨hring, hmode⟩ := (s.part.judgeMiss_stays poll.address false).of_awake hm
        refine ⟨_, ?_, hmode, exec_lastPoll_expired hp hpoll hlast (Bool.eq_false_iff.2 hd)⟩
        rw [hring, NodeEntry.missed_eq]
        exact (if_neg hd).symm
    obtain ⟨q, hring, hmode, hexec⟩ := hjudged
    have hstart : r.startAtOnce = false := by
      show (if poll.discard then s.part.ring else s.part.ring.putEntry poll.address missed).startAtOnce = false
      split <;> exact hs
    obtain ⟨kring, hdone, hwatch, hdoor⟩ :=
      s.settled_completion (p := q.pollEnded) hmode ((congrArg Ring.startAtOnce hring).trans hstart)
    rw [Part.pollEnded, hring] at kring hwatch hdoor hdone hexec
    exact ⟨_, hexec, kring, rfl, hdone, hwatch, hdoor⟩
  case polls =>
    refine ⟨fun hd => exec_lastPoll_discarded hp hpoll hlast hd, fun hd => ⟨exec_lastPoll_expired hp hpoll hlast hd,
      fun r hr => exec_lastPoll_badCheck hp hpoll hlast hd hr, fun r hr ha => exec_lastPoll_otherPoll hp hpoll hlast hd hr ha,
      fun r hr ha hf => exec_lastPoll_good hp hpoll hlast hd hr ha hf⟩, fun hs a ha hd => ?_⟩
    exact ⟨_, (exec_lastPoll_discarded hp hpoll hlast hd).1,
      s.settled_overrun (p := s.part.pollEnded) hs ((Ring.nextAddress_of_nodes rfl 12 1).trans ha)⟩
  case blocks =>
    intro door q
    have hdoor : p.doorSeen = door := p.doorSeen_eq
    have hcomplete := p.completeScan_eq
    rw [hdoor] at hcomplete
    exact ⟨hcomplete, (p.scanEvent_blocks door).1, p.completeScan_image, p.scanPower_cases,
      p.ring.image.boilerUnsafe_iff, rfl, Part.withdrawBoiler_open, Part.withdrawBoiler_closed⟩

end Sys2Proof.Machine
end

section
/-! SUPPORT. Request fields that are judged (R57, R182), requests whose owner only reads, and the requests of the ring that
count or write (R58, R59, R164). -/

namespace Sys2Proof.Machine

/-! ### Fields (R57, R182) -/

theorem flagOf_formed {b : Byte} (h : b.toNat ≤ 1) : flagOf b = some (decide (b = 1)) := by
  rcases (byte_le_one_iff b).1 h with rfl | rfl <;> rfl

theorem flagOf_unformed {b : Byte} (h : ¬b.toNat ≤ 1) : flagOf b = none := by
  rw [byte_le_one_iff, not_or] at h
  rw [flagOf, if_neg h.1, if_neg h.2]

theorem addressOf_formed {a : Byte} (h : 1 ≤ a.toNat ∧ a.toNat ≤ 12) : addressOf a = some a.toNat := if_pos h

theorem addressOf_unformed {a : Byte} (h : ¬(1 ≤ a.toNat ∧ a.toNat ≤ 12)) : addressOf a = none := if_neg h

/-- Section 12.3: the selector that a byte within its set names. -/
def selectorNamed (b : Byte) : Selector := if b = 0 then .main else if b = 1 then .alt else .stats

theorem selectorOf_formed {b : Byte} (h : b.toNat ≤ 2) : selectorOf b.toNat = some (selectorNamed b) := by
  have hb : b = 0 ∨ b = 1 ∨ b = 2 := by
    rcases (by omega : b.toNat = 0 ∨ b.toNat = 1 ∨ b.toNat = 2) with h | h | h
    · exact .inl (BitVec.eq_of_toNat_eq h)
    · exact .inr (.inl (BitVec.eq_of_toNat_eq h))
    · exact .inr (.inr (BitVec.eq_of_toNat_eq h))
  rcases hb with rfl | rfl | rfl <;> rfl

theorem selectorOf_unformed {n : Nat} (h : ¬n ≤ 2) : selectorOf n = none := by
  obtain ⟨k, rfl⟩ := Nat.exists_eq_add_of_lt (Nat.lt_of_not_le h)
  rw [show 2 + k + 1 = k + 3 by omega]
  rfl

/-- R156, R157: an admitted request whose owner only reads changes nothing but the link. -/
theorem exec_reads {s : State} {q : Request} {r : Reply} (h : s.listening) (ha : s.admits q)
    (hr : (s.taken q).serve q = (s.taken q).plain (s.part, r)) : exec q.command s = .next (s.replied q r) :=
  exec_plain h ha hr

theorem State.listening.awake {s : State} (h : s.listening) : s.part.mode.mode ≠ .standby := by
  obtain ⟨-, -, -, -, -, hm⟩ := h
  exact hm

/-! ### COUNTER_GET (R59, R164) -/

theorem nodeCounts_eq (nodes : List NodeEntry) :
    nodeCounts nodes = nodes.flatMap (fun n => natBytes n.totalMisses ++ natBytes n.crcErrors) := by
  induction nodes with
  | nil => rfl
  | cons n rest ih => rw [nodeCounts, ih, List.flatMap_cons]

theorem Part.counterBytes_eq (p : Part) : p.counterBytes = natBytes p.boiler.flow ++ natBytes p.climate.tachLatch
    ++ (p.ring.nodes.flatMap (fun n => natBytes n.totalMisses ++ natBytes n.crcErrors))
    ++ natBytes p.ring.overruns ++ natBytes p.ring.image.scan := by
  rw [Part.counterBytes, nodeCounts_eq]

/-- R59: COUNTER_GET with its option field within its set. -/
theorem Part.counterGet_formed (p : Part) {zero : Byte} {z : Bool} (h : flagOf zero = some z) :
    p.counterGet zero = (if z then { p with ring := p.ring.zeroCounters } else p, ⟨.ok, p.counterBytes⟩) := by
  simp only [Part.counterGet, h, Reply.okWith]

theorem Part.counterGet_unformed (p : Part) {zero : Byte} (h : flagOf zero = none) :
    p.counterGet zero = (p, ⟨.badValue, []⟩) := by
  simp only [Part.counterGet, h, Part.refuse, Reply.bare]

/-- Settles O20, by the three readings of the option field. -/
theorem counterGetCopiesThenZeroes : Obligations.CounterGetCopiesThenZeroes := by
  intro s zero hl ha t
  refine ⟨fun h => ?kept, fun h => ?zeroed, fun h0 h1 => ?refused⟩
  case kept =>
    subst h
    refine exec_reads hl ha ?_
    rw [← Part.counterBytes_eq]
    exact congrArg (State.plain _) (s.part.counterGet_formed (z := false) rfl)
  case zeroed =>
    subst h
    have hexec := exec_plain hl ha (congrArg (State.plain _) (s.part.counterGet_formed (z := true) rfl))
    rw [Part.counterBytes_eq] at hexec
    exact hexec
  case refused =>
    have hnone : flagOf zero = none := flagOf_unformed fun h => ((byte_le_one_iff zero).1 h).elim h0 h1
    exact exec_reads hl ha (congrArg (State.plain _) (s.part.counterGet_unformed hnone))

/-! ### NODE_SET (R58) -/

/-- R58: the fields of NODE_SET are all within their sets. -/
def nodeSetFormed (address masked selector : Byte) : Prop :=
  1 ≤ address.toNat ∧ address.toNat ≤ 12 ∧ masked.toNat ≤ 1 ∧ selector.toNat ≤ 2

theorem requiredKinds_iff (k : NodeKind) :
    requiredKinds.contains k = true ↔ k ∈ [NodeKind.cavityTemp, .boiler, .waterTank, .door] := List.contains_iff_mem

section
variable {address masked selector : Byte}

/-- R58: a bad address, mask or selector is refused first. -/
theorem Part.nodeSet_unformed (p : Part) (watch : Byte) (threshold : Half) (h : ¬nodeSetFormed address masked selector) :
    p.nodeSet address masked selector watch threshold = (p, ⟨.badValue, []⟩) := by
  unfold Part.nodeSet
  split
  · next ha hm hf =>
    refine absurd ⟨?_, ?_, ?_, ?_⟩ h
    all_goals by_contra hc
    · simp [addressOf_unformed (fun k => hc k.1)] at ha
    · simp [addressOf_unformed (fun k => hc k.2)] at ha
    · simp [flagOf_unformed hc] at hm
    · simp [selectorOf_unformed hc] at hf
  · rfl

/-- R58: the checks of NODE_SET on the entry, and the write. -/
theorem Part.nodeSet_formed (p : Part) (watch : Byte) (threshold : Half) (h : nodeSetFormed address masked selector) :
    p.nodeSet address masked selector watch threshold =
      let k := (p.ring.entry address.toNat).kind
      let t := min 1000 threshold.toNat
      if k = .none ∨ (masked = 1 ∧ k ∈ [NodeKind.cavityTemp, .boiler, .waterTank, .door]) then
        (p, ⟨.refusedState, []⟩)
      else (p.configureNode address.toNat (decide (masked = 1)) (selectorNamed selector) watch t,
        ⟨if 1000 < threshold.toNat then .clamped else .ok, []⟩) := by
  obtain ⟨ha1, ha2, hm, hf⟩ := h
  have hclamp : clampNat 0 1000 threshold.toNat = min 1000 threshold.toNat := by
    rw [clampNat_eq 0 1000 _ (by decide), Nat.zero_max]
  have hcode : okOrClamped (decide (min 1000 threshold.toNat ≠ threshold.toNat))
      = if 1000 < threshold.toNat then .clamped else .ok := by
    simp only [okOrClamped, decide_eq_true_eq]
    exact if_congr (by omega) rfl rfl
  simp only [Part.nodeSet, addressOf_formed ⟨ha1, ha2⟩, flagOf_formed hm, selectorOf_formed hf, Part.refuse, Reply.bare,
    Bool.and_eq_true, decide_eq_true_eq, requiredKinds_iff, hclamp, hcode]
  split
  · next hk => rw [if_pos (.inl hk)]
  · next hk => rw [if_congr (or_iff_right hk).symm rfl rfl]

/-- R44, R58: the ring with an entry written, the poll in flight of an entry that is being masked marked for discarding. -/
def Ring.configured (r : Ring) (a : Nat) (mask : Bool) (m : NodeEntry) : Ring :=
  if mask && !(r.entry a).masked then (r.putEntry a m).discardPoll a else r.putEntry a m

theorem Ring.configured_leaves (r : Ring) (a : Nat) (mask : Bool) (m : NodeEntry) :
    (r.configured a mask m).nodes = setAt r.nodes (a - 1) m ∧ (r.configured a mask m).phase = r.phase
      ∧ (r.configured a mask m).startAtOnce = r.startAtOnce := by
  unfold Ring.configured Ring.discardPoll
  repeat' split
  all_goals exact ⟨rfl, rfl, rfl⟩

/-- R58: an accepted NODE_SET leaves the ring as it is written, whatever the other blocks are told. -/
theorem Part.configureNode_ring {p : Part} (hm : p.mode.mode ≠ .standby) (a : Nat) (mask : Bool) (f : Selector)
    (watch : Byte) (t : Nat) :
    (p.configureNode a mask f watch t).ring = p.ring.configured a mask ((p.ring.entry a).configure mask f watch t) :=
  ((Part.linkTold_stays { p with ring := p.ring.configured a mask ((p.ring.entry a).configure mask f watch t) }
    p.ring (p.ring.entry a).kind false).of_awake hm).1

end

/-- Settles O35: the checks in their order, then the entry that an accepted request writes. -/
theorem nodeSetWritesEntry : Obligations.NodeSetWritesEntry := by
  intro s address masked selector watch threshold q n formed required hl ha
  have hserve (p : Part) (r : Reply) (h : s.part.nodeSet address masked selector watch threshold = (p, r)) :
      (s.taken q).serve q = (s.taken q).acting (p, r) := congrArg (State.acting _) h
  refine ⟨fun h => ?bad, fun h hk => ?barred, fun h hk hr hdue => ?accepted⟩
  case bad => exact exec_declined hl ha (hserve _ _ (s.part.nodeSet_unformed watch threshold h)) rfl
  case barred =>
    exact exec_declined hl ha (hserve _ _ ((s.part.nodeSet_formed watch threshold h).trans (if_pos hk))) rfl
  case accepted =>
    obtain ⟨-, -, hmask, -⟩ := id h
    have hm : masked = 0 ∨ masked = 1 := (byte_le_one_iff masked).1 hmask
    have hbar : ¬(n.kind = .none ∨ (masked = 1 ∧ required)) := by
      rintro (h0 | ⟨h1, h2⟩)
      · exact hk h0
      · exact hr.elim (fun h0 => absurd (h0.symm.trans h1) (by decide)) (fun h3 => h3 h2)
    have hset := (s.part.nodeSet_formed watch threshold h).trans (if_neg hbar)
    let m := n.configure (decide (masked = 1)) (selectorNamed selector) watch (min 1000 threshold.toNat)
    obtain ⟨hnodes, hphase, hstart⟩ := s.part.ring.configured_leaves address.toNat (decide (masked = 1)) m
    have hring := (Part.settle_keeps (.refl _)).ring.trans (Part.configureNode_ring hl.awake address.toNat
      (decide (masked = 1)) (selectorNamed selector) watch (min 1000 threshold.toNat))
    have hcode : carriedOut (if 1000 < threshold.toNat then .clamped else .ok) = true := by split <;> rfl
    refine ⟨_, m, exec_carried hl ha (hserve _ _ hset) hcode, rfl, ?_, ?_⟩
    · rw [State.carried_part, Part.advance_of_not_due 3 _ (by rw [hring, hphase, hstart]; exact hdue), hring, hnodes]
    · dsimp only [m, NodeEntry.configure]
      cases hn : n.masked <;> rcases hm with rfl | rfl <;> simp [selectorNamed]

end Sys2Proof.Machine
end

section
/-! SUPPORT. What a raised fault leaves of the capture and of the fault set (R146, R147), and change capture (R171 to R173):
its requests, an offered scan, and the offer that ends a completion. -/

namespace Sys2Proof.Machine

/-! ### Faults (R146, R147) -/

theorem Part.capture_of_fixed {p q : Part} (h : q.fixed = p.fixed) : q.capture = p.capture := congrArg Fixed.capture h

theorem Part.faults_of_fixed {p q : Part} (h : q.fixed = p.fixed) : q.mode.faults = p.mode.faults :=
  congrArg Fixed.faults h

theorem Part.Keeps.capture {p q : Part} (h : p.Keeps q) : q.capture = p.capture := Part.capture_of_fixed h.fixed

theorem Part.Keeps.faults {p q : Part} (h : p.Keeps q) : q.mode.faults = p.mode.faults := Part.faults_of_fixed h.fixed

@[simp] theorem Part.wake_faults (p : Part) : p.wake.mode.faults = p.mode.faults := by
  unfold Part.wake
  split <;> simp

/-- R147: the effects of a critical fault wake the part and keep the rest. -/
theorem Part.criticalEffects_keeps (p : Part) : p.withdrawCavity.withdrawBoiler.wake.Keeps p.criticalEffects :=
  Part.safeStop_keeps (Part.descaleCritical_keeps (Part.boilerStop_keeps
    (Part.programAborted_keeps (Part.forcedOff_keeps (.refl _)))))

theorem Part.steamEffects_keeps (p : Part) : p.Keeps p.steamEffects := by
  have hfault : p.Keeps p.withdrawBoiler.enterFault := Part.enterFault_keeps (Part.withdrawBoiler_keeps (.refl p))
  unfold Part.steamEffects Part.cancelStandby
  split
  · exact Part.setMode_keeps .active hfault
  · exact hfault

theorem Part.stallEffects_keeps (p : Part) : p.Keeps p.stallEffects := by
  rcases p.stallEffects_eq with h | h <;> rw [h]
  · exact .refl p
  · exact Part.noDemand_keeps (.refl p)

/-- R146: a raised fault is in the fault set, and its effects leave the capture alone. -/
theorem Part.raiseFault_marks (p : Part) (k : FaultKind) :
    hasFault (p.raiseFault k).mode.faults k = true ∧ (p.raiseFault k).capture = p.capture := by
  have hlatched {q : Part} (hf : q.mode.faults = (p.latch k).mode.faults) (hc : q.capture = p.capture) :
      hasFault q.mode.faults k = true ∧ q.capture = p.capture := ⟨by rw [hf, hasFault_latch], hc⟩
  unfold Part.raiseFault
  repeat' split
  · next h => exact ⟨h, rfl⟩
  · exact hlatched rfl rfl
  · have hk := (p.latch k).criticalEffects_keeps
    exact hlatched (hk.faults.trans (by simp)) (hk.capture.trans (by simp [Part.latch]))
  · have hk := (p.latch k).stallEffects_keeps
    exact hlatched hk.faults hk.capture
  · have hk := (p.latch k).steamEffects_keeps
    exact hlatched hk.faults hk.capture
  · exact hlatched rfl rfl

@[simp] theorem Part.raiseFault_capture (p : Part) (k : FaultKind) : (p.raiseFault k).capture = p.capture :=
  (p.raiseFault_marks k).2

/-! ### The requests of change capture (R171, R173) -/

theorem captureStyleOf_formed {b : Byte} (h : b.toNat ≤ 1) :
    captureStyleOf b.toNat = some (if b = 0 then .oneShot else .continuous) := by
  rcases (byte_le_one_iff b).1 h with rfl | rfl <;> rfl

theorem captureStyleOf_unformed {n : Nat} (h : ¬n ≤ 1) : captureStyleOf n = none := by
  obtain ⟨k, rfl⟩ := Nat.exists_eq_add_of_lt (Nat.lt_of_not_le h)
  rw [show 1 + k + 1 = k + 2 by omega]
  rfl

theorem triggerOk_iff (t : Half) : triggerOk t = true ↔ t ≠ 0 ∧ t &&& 0xF000 = 0 := by simp [triggerOk]

/-- R171: CAPTURE_ARM writes its trigger set and its style, or is refused. -/
theorem Part.captureArm_eq (p : Part) (trigger : Half) (style : Byte) : p.captureArm trigger style =
    if style.toNat ≤ 1 ∧ trigger ≠ 0 ∧ trigger &&& 0xF000 = 0 then
      ({ p with capture := { p.capture with
          trigger := trigger, armed := true, style := if style = 0 then .oneShot else .continuous } }, ⟨.ok, []⟩)
    else (p, ⟨.badValue, []⟩) := by
  by_cases hs : style.toNat ≤ 1
  · simp only [Part.captureArm, captureStyleOf_formed hs, triggerOk_iff, hs, true_and]
    rfl
  · rw [if_neg (fun h => hs h.1)]
    simp only [Part.captureArm, captureStyleOf_unformed hs, Part.refuse, Reply.bare]

/-- R173: CAPTURE_RELEASE drops the snapshot, and disarms where it is asked to. -/
theorem Part.captureRelease_eq (p : Part) (disarm : Byte) : p.captureRelease disarm =
    if disarm = 0 ∨ disarm = 1 then
      ({ p with capture := { p.capture with
          snapshot := none, missed := 0, armed := if disarm = 1 then false else p.capture.armed } }, ⟨.ok, []⟩)
    else (p, ⟨.badValue, []⟩) := by
  by_cases hd : disarm.toNat ≤ 1
  · rw [if_pos ((byte_le_one_iff disarm).1 hd)]
    rcases (byte_le_one_iff disarm).1 hd with rfl | rfl <;> simp [Part.captureRelease, flagOf, Reply.bare]
  · rw [if_neg (fun h => hd ((byte_le_one_iff disarm).2 h))]
    simp only [Part.captureRelease, flagOf_unformed hd, Part.refuse, Reply.bare]

/-! ### An offered scan (R172) -/

/-- R172: what an offered scan does to the capture, by the trigger, the snapshot held and the arming. -/
theorem Part.offerCapture_cases (p : Part) :
    let hit := p.ring.changedSet &&& p.capture.trigger ≠ 0
    (¬hit → p.offerCapture = p)
    ∧ (hit → p.capture.snapshot.isSome →
      p.offerCapture = { p with capture.missed := min 255 (p.capture.missed + 1) })
    ∧ (hit → p.capture.snapshot = none → p.capture.armed = false → p.offerCapture = p)
    ∧ (hit → p.capture.snapshot = none → p.capture.armed = true →
      p.offerCapture = Part.raiseNotice { p with capture := { p.capture with
        snapshot := some ⟨p.ring.scan, p.ring.changedSet, p.ring.nodes.map (fun n => ⟨n.link, n.main⟩)⟩
        missed := 0, armed := decide (p.capture.style = .continuous) } } .captureTaken) := by
  refine ⟨fun h => if_pos (not_not.1 h), fun h hs => ?_, fun h hs ha => ?_, fun h hs ha => ?_⟩ <;>
    rw [Part.offerCapture, if_neg h]
  · obtain ⟨x, hx⟩ := Option.isSome_iff_exists.1 hs
    simp only [hx, bump_eq]
  · simp [hs, ha]
  · simp only [hs, ha, if_true, Ring.snapshot]

/-- R172: the capture that an offered scan leaves, as its ring and the capture before it give it. -/
def Ring.offered (r : Ring) (c : Capture) : Capture :=
  if r.changedSet &&& c.trigger = 0 then c
  else if c.snapshot.isSome then { c with missed := bump 255 c.missed }
  else if c.armed then { c with snapshot := some r.snapshot, missed := 0, armed := decide (c.style = .continuous) }
  else c

theorem Part.offerCapture_capture (p : Part) : p.offerCapture.capture = p.ring.offered p.capture := by
  unfold Part.offerCapture Ring.offered
  split
  · rfl
  · cases hs : p.capture.snapshot with
    | some x => simp [hs]
    | none => cases ha : p.capture.armed <;> simp

/-! ### The capture at a completion (R52, R172) -/

theorem Part.overtempWatch_capture (p : Part) : p.overtempWatch.capture = p.capture := by
  unfold Part.overtempWatch
  repeat' split
  all_goals simp

theorem Part.overheatWatch_capture (p : Part) : p.overheatWatch.capture = p.capture := by
  unfold Part.overheatWatch
  repeat' split
  all_goals simp

theorem Part.scanClimate_capture (p : Part) (d : DoorChange) : (p.scanClimate d).capture = p.capture := by
  refine Eq.trans ?_ p.overtempWatch_capture
  cases d with
  | none => exact (Part.climateScan_keeps (.refl _)).capture
  | opened => exact (Part.climateScan_keeps (Part.climateDoorOpen_keeps (.refl _))).capture
  | closed => exact (Part.climateScan_keeps (Part.climateDoorClose_keeps (.refl _))).capture

theorem Part.scanPower_capture (p : Part) (d : DoorChange) : (p.scanPower d).capture = p.capture := by
  unfold Part.scanPower
  dsimp only
  repeat' split
  all_goals simp

/-- Chapter 4: the boiler at a completion, after the overheat watch, by its state. -/
theorem Part.scanBoiler_keeps (p : Part) : p.overheatWatch.Keeps p.scanBoiler := by
  have hlevel (q : Part) : q.Keeps q.scanLevel := by
    unfold Part.scanLevel
    repeat' split
    · exact (Part.Keeps.refl q).leaf rfl rfl rfl
    · exact (Part.Keeps.refl q).leaf rfl rfl rfl
    · exact .refl q
  have hfill (q : Part) : q.Keeps q.scanFill := by
    unfold Part.scanFill
    repeat' split
    · exact Part.fillDone_keeps (.refl q)
    · exact .refl q
    · exact Part.pauseFill_keeps .tankOut (.refl q)
  have hpaused (q : Part) : q.Keeps q.scanPaused := by
    unfold Part.scanPaused
    repeat' split
    · exact Part.fillDone_keeps (.refl q)
    · exact Part.runFill_keeps (.refl q)
    · exact .refl q
    · exact (Part.Keeps.refl q).leaf rfl rfl rfl
  have hheating (q : Part) : q.Keeps q.scanHeating := by
    unfold Part.scanHeating
    repeat' split
    · exact Part.normalFill_keeps (Part.noBoilerRequest_keeps (.refl q))
    · exact Part.heatingEnd_keeps (.refl q)
    · exact (Part.Keeps.refl q).leaf rfl rfl rfl
    · exact Part.noBoilerRequest_keeps (.refl q)
  have hhot (q : Part) : q.Keeps q.scanKeepHot := by
    unfold Part.scanKeepHot
    repeat' split
    all_goals exact (Part.Keeps.refl q).leaf rfl rfl rfl
  unfold Part.scanBoiler
  dsimp only
  split
  case h_2 => exact hfill _
  case h_3 => exact hpaused _
  case h_4 => exact hheating _
  case h_5 => exact (hhot _).trans (hlevel _)
  case h_6 => exact hlevel _
  case h_7 => exact hfill _
  case h_8 =>
    split
    · exact Part.enterDraining_keeps (.refl _)
    · exact .refl _
  case h_9 =>
    unfold Part.scanDraining
    split
    · exact Part.startRunOn_keeps (.refl _)
    · exact .refl _
  all_goals exact .refl _

theorem Part.scanProgram_keeps (p : Part) : p.Keeps p.scanProgram := by
  have htested : p.Keeps (p.testDegraded false) := Part.testDegraded_keeps false (.refl p)
  unfold Part.scanProgram
  dsimp only
  repeat' split
  · exact Part.finishStage_keeps _ htested
  all_goals exact htested

theorem Part.scanMode_capture (p : Part) (d : DoorChange) : (p.scanMode d).capture = p.capture := by
  unfold Part.scanMode
  repeat' split
  all_goals simp

theorem Part.waterStep_capture (p : Part) : p.waterStep.capture = p.capture := by
  have hstartup (q : Part) : q.boilerStartup.capture = q.capture := by
    unfold Part.boilerStartup
    repeat' split
    all_goals simp
  unfold Part.waterStep
  dsimp only
  split
  · rw [Part.setMode_capture]
    dsimp only
    split
    · exact (Part.descaleRecover_keeps (.refl p)).capture
    · rw [hstartup, (Part.descaleNoRecovery_keeps (.refl p)).capture]
  · rfl

/-- R52: the notices of a completion leave what is offered to the capture. -/
theorem Part.scanEvent_capture (p : Part) (d : DoorChange) :
    (p.scanEvent d).capture = p.ring.complete.offered p.capture := by
  have hraised : (p.watchRaised d).ring = p.ring.complete ∧ (p.watchRaised d).capture = p.capture := by
    unfold Part.watchRaised Part.doorRaised
    repeat' split
    all_goals exact ⟨rfl, rfl⟩
  rw [Part.scanEvent_eq, Part.offerCapture_capture, Part.raiseNotice_ring, Part.raiseNotice_capture, hraised.1, hraised.2]

/-- R52: the blocks as a completed scan is offered: the changed-node set is that of the node table. -/
def Part.changesSeen (p : Part) : Part := { p with ring := { p.ring with changedSet := p.ring.changedNodes } }

theorem Part.changesSeen_offer (p : Part) : p.changesSeen.offerCapture.capture = p.ring.complete.offered p.capture :=
  Part.offerCapture_capture _

/-- R52, R172: a completion leaves the capture as the offer of its scan has left it. -/
theorem Part.completeScan_capture (p : Part) : p.completeScan.capture = p.changesSeen.offerCapture.capture := by
  calc p.completeScan.capture
      = (p.scanActed p.doorSeen).capture := (Part.settle_keeps (.refl _)).capture.trans (Part.waterStep_capture _)
    _ = (p.scanEvent p.doorSeen).capture := by
      rw [Part.scanActed, Part.scanMode_capture, (Part.descaleRewarm_keeps (.refl _)).capture,
        (Part.scanProgram_keeps _).capture, (Part.scanBoiler_keeps _).capture, Part.overheatWatch_capture,
        Part.scanPower_capture, Part.scanClimate_capture]
    _ = p.ring.complete.offered p.capture := p.scanEvent_capture _
    _ = p.changesSeen.offerCapture.capture := p.changesSeen_offer.symm

/-- R44: that no poll is in flight any more is nothing to the capture. -/
theorem Part.pollEnded_offer (p : Part) :
    p.pollEnded.changesSeen.offerCapture.capture = p.changesSeen.offerCapture.capture :=
  p.pollEnded.changesSeen_offer.trans p.changesSeen_offer.symm

/-- Settles O29: the two requests, the offer by its cases, and the offer at the end of a completion. -/
theorem captureKeepsFirstTrigger : Obligations.CaptureKeepsFirstTrigger := by
  refine ⟨fun s trigger style hl ha => ?arm, fun s disarm hl ha => ?release, fun p => ?offer,
    fun s poll hp hpoll hd hlast hs hm c hc => ?completion⟩
  case arm =>
    have hexec := exec_plain hl ha (congrArg (State.plain _) (s.part.captureArm_eq trigger style))
    split at hexec
    · next h => rw [if_pos h]; exact hexec
    · next h => rw [if_neg h]; exact hexec
  case release =>
    have hexec := exec_plain hl ha (congrArg (State.plain _) (s.part.captureRelease_eq disarm))
    split at hexec
    · next h => rw [if_pos h]; exact hexec
    · next h => rw [if_neg h]; exact hexec
  case offer =>
    obtain ⟨hmiss, hheld, hunarmed, hkept⟩ := p.offerCapture_cases
    exact ⟨hmiss, hheld, hunarmed, hkept, p.completeScan_capture⟩
  case completion =>
    obtain ⟨hexpiry, hreply⟩ := exec_lastPoll_discarded hp hpoll hlast hd
    have hexec : exec c s = .next (s.settled s.part.pollEnded.completeScan) := by
      rcases hc with rfl | ⟨r, rfl⟩
      · exact hexpiry
      · exact hreply r
    have hdue : s.part.pollEnded.completeScan.ring.phase = .idle →
        s.part.pollEnded.completeScan.ring.startAtOnce = false := fun _ => by
      rw [Part.completeScan_awake (p := s.part.pollEnded) hm]
      exact hs
    have hsettled := Part.capture_of_fixed (State.settled_fixed (s := s) hdue)
    exact ⟨_, hexec, (hsettled.trans (Part.completeScan_capture _)).trans s.part.pollEnded_offer⟩

end Sys2Proof.Machine
end

section
/-! SUPPORT. Polls of a scan before its last (R44 to R46): the poll that follows, and what a miss and a good reply leave of
the polled entry, of the notices and of the fault set. -/

namespace Sys2Proof.Machine

/-! ### The poll that follows (R44) -/

theorem Ring.le_nextAddress {r : Ring} {n a b : Nat} (h : r.nextAddress n a = some b) : a ≤ b := by
  induction n generalizing a with
  | zero => cases h
  | succ n ih =>
    rw [Ring.nextAddress] at h
    split at h
    · split at h
      · exact Nat.le_of_eq (Option.some.inj h)
      · exact Nat.le_of_succ_le (ih h)
    · cases h

/-- R44: the blocks as the poll of an address begins. -/
def Part.polling (p : Part) (b : Nat) : Part := { p with ring := p.ring.beginPoll b }

theorem Part.nextPoll_goesOn {p : Part} {a b : Nat} (h : p.ring.nextAddress 12 (a + 1) = some b) :
    p.nextPoll a = p.polling b := by
  have hfrom : p.ring.pollFrom (a + 1) = p.ring.beginPoll b := by simp only [Ring.pollFrom, h]
  rw [Part.nextPoll, hfrom]
  exact if_pos rfl

theorem Part.ring_of_fixed {p q : Part} (h : q.fixed = p.fixed) : q.ring = p.ring := congrArg Fixed.ring h

/-- R44: a poll that is not the last leaves its entry as it has been judged, and the next poll follows. -/
theorem State.settled_nextPoll (s : State) {p : Part} {a b : Nat} (hp : p.ring.phase = .scanning) (ha : 1 ≤ a)
    (h : p.ring.nextAddress 12 (a + 1) = some b) :
    let t := s.settled (p.nextPoll a)
    t.part.ring.entry a = p.ring.entry a ∧ t.part.ring.poll.map Poll.address = some b ∧ t.part.ring.phase = .scanning
      ∧ t.part.mode.faults = p.mode.faults
      ∧ ∀ i, p.notice.pending.getLsbD i = true → t.part.notice.pending.getLsbD i = true := by
  have hdue : (p.polling b).ring.phase = .idle → (p.polling b).ring.startAtOnce = false := fun k => by
    have hphase : (p.polling b).ring.phase = .scanning := hp
    rw [hphase] at k
    cases k
  have hfixed := State.settled_fixed (s := s) hdue
  have hab := Ring.le_nextAddress h
  rw [Part.nextPoll_goesOn h]
  dsimp only
  rw [Part.ring_of_fixed hfixed, Part.faults_of_fixed hfixed]
  exact ⟨Ring.entry_putEntry_ne _ _ (by omega), rfl, hp, rfl, fun i hi => State.settled_notice hdue hi⟩

/-- R44: a judgement writes its entry and moves no poll to come. -/
theorem Part.judged_polls {p q : Part} {a : Nat} {m : NodeEntry} (hm : m.polled = (p.ring.entry a).polled)
    (hq : (p.judged a m).RingStays q) (hlen : p.ring.nodes.length = 12) (ha : 1 ≤ a) (ha' : a ≤ 12) :
    q.ring.entry a = m ∧ q.ring.phase = p.ring.phase
      ∧ q.ring.nextAddress 12 (a + 1) = p.ring.nextAddress 12 (a + 1) := by
  obtain ⟨hnodes, hphase, -⟩ := hq.scan
  refine ⟨?_, hphase, (Ring.nextAddress_of_nodes hnodes 12 (a + 1)).trans (p.ring.nextAddress_putEntry hm 12 (a + 1))⟩
  rw [Ring.entry, hnodes]
  exact Ring.entry_putEntry_self p.ring a m (by omega)

section
variable {s : State} {poll : Poll} (hp : s.part.ring.phase = .scanning) (hpoll : s.part.ring.poll = some poll)
include hp hpoll

/-- R44: a discarded poll is not judged. -/
theorem exec_poll_discarded (hd : poll.discard = true) {c : Instr} (hc : c = .replyWindowExpiry ∨ ∃ r, c = .nodeReply r) :
    exec c s = .next (s.settled (s.part.nextPoll poll.address)) := by
  rcases hc with rfl | ⟨r, rfl⟩
  · exact next_settled ((Part.replyMissing_scanning hp hpoll).trans (if_pos hd))
  · exact next_settled ((Part.nodeReply_scanning hp hpoll r).trans (if_pos hd))

theorem exec_poll_expired (hd : poll.discard = false) : exec .replyWindowExpiry s
    = .next (s.settled ((s.part.judgeMiss poll.address false).nextPoll poll.address)) :=
  next_settled ((Part.replyMissing_scanning hp hpoll).trans (if_neg (by simp [hd])))

theorem exec_poll_badCheck (hd : poll.discard = false) {r : RingReply} (hr : crc8 r.body ≠ r.crc) : exec (.nodeReply r) s
    = .next (s.settled ((s.part.judgeMiss poll.address true).nextPoll poll.address)) := by
  refine next_settled ((Part.nodeReply_scanning hp hpoll r).trans ?_)
  rw [hd, if_neg (by decide), decide_eq_true hr, if_neg (by simp)]

theorem exec_poll_otherPoll (hd : poll.discard = false) {r : RingReply} (hr : crc8 r.body = r.crc)
    (ha : r.address ≠ poll.address ∨ r.fetch ≠ poll.fetch) : exec (.nodeReply r) s
    = .next (s.settled ((s.part.judgeMiss poll.address false).nextPoll poll.address)) := by
  have hother : answersPoll r poll = false := by
    rcases ha with h | h <;> simp [answersPoll, h]
  refine next_settled ((Part.nodeReply_scanning hp hpoll r).trans ?_)
  rw [hd, if_neg (by decide), decide_eq_false (not_not.2 hr), hother, if_neg (by decide)]

theorem exec_poll_good (hd : poll.discard = false) {r : RingReply} (hr : crc8 r.body = r.crc)
    (ha : r.address = poll.address) (hf : r.fetch = poll.fetch) : exec (.nodeReply r) s
    = .next (s.settled ((s.part.judgeGood poll.address r).nextPoll poll.address)) := by
  have hanswers : answersPoll r poll = true := by simp [answersPoll, ha, hf]
  refine next_settled ((Part.nodeReply_scanning hp hpoll r).trans ?_)
  rw [hd, if_neg (by decide), decide_eq_false (not_not.2 hr), hanswers, if_pos (by decide)]

end

/-! ### A miss (R45, R46) -/

/-- R45: what a miss counts, as bounded sums. -/
theorem NodeEntry.miss_eq (n : NodeEntry) (badCheck : Bool) : n.miss badCheck = { n with
    misses := min 3 (n.misses + 1), totalMisses := min 65535 (n.totalMisses + 1)
    crcErrors := if badCheck then min 65535 (n.crcErrors + 1) else n.crcErrors } := by
  simp only [NodeEntry.miss, bump_eq]

/-- R46: the third miss in a row of a LINKED entry. -/
theorem NodeEntry.thirdMiss_iff (n : NodeEntry) (badCheck : Bool) :
    (n.miss badCheck).thirdMiss = true ↔ n.link = .linked ∧ 2 ≤ n.misses := by
  have hthird : min 3 (n.misses + 1) = 3 ↔ 2 ≤ n.misses := by omega
  simp only [NodeEntry.thirdMiss, NodeEntry.miss_eq, Bool.and_eq_true, decide_eq_true_eq, hthird]

/-- R45, R46: what a miss makes of its entry, a bad check counted as well. -/
theorem NodeEntry.missed_counts (n : NodeEntry) (badCheck : Bool) : n.missed badCheck = { n with
    misses := min 3 (n.misses + 1), totalMisses := min 65535 (n.totalMisses + 1)
    crcErrors := if badCheck then min 65535 (n.crcErrors + 1) else n.crcErrors
    link := if n.link = .linked ∧ 2 ≤ n.misses then .lost else n.link } := by
  simp only [NodeEntry.missed, NodeEntry.thirdMiss_iff]
  rw [NodeEntry.miss_eq]
  split <;> rfl

/-- R46: a link that is lost raises NODE_CHANGE. -/
theorem Part.judgeMiss_lost {p : Part} {a : Nat} (badCheck : Bool)
    (h : (p.ring.entry a).link = .linked ∧ 2 ≤ (p.ring.entry a).misses) :
    (p.judgeMiss a badCheck).notice.pending.getLsbD (noticePosition .nodeChange) = true := by
  rw [Part.judgeMiss_eq]
  dsimp only
  rw [if_pos ((NodeEntry.thirdMiss_iff _ badCheck).2 h)]
  exact (Part.linkTold_persists _ _ _ (.refl _)).adds.pending _ (NoticeUnit.raise_self _ .nodeChange)

/-- R44 to R46: a miss of a poll that is not the last. -/
theorem State.settled_miss (s : State) {p : Part} {a b : Nat} (hp : p.ring.phase = .scanning)
    (hlen : p.ring.nodes.length = 12) (ha : 1 ≤ a) (ha' : a ≤ 12) (h : p.ring.nextAddress 12 (a + 1) = some b)
    (badCheck : Bool) :
    let t := s.settled ((p.judgeMiss a badCheck).nextPoll a)
    t.part.ring.entry a = (p.ring.entry a).missed badCheck
      ∧ ((p.ring.entry a).link = .linked ∧ 2 ≤ (p.ring.entry a).misses →
        t.part.notice.pending.getLsbD (noticePosition .nodeChange) = true)
      ∧ t.part.ring.poll.map Poll.address = some b ∧ t.part.ring.phase = .scanning := by
  obtain ⟨hentry, hphase, hnext⟩ := Part.judged_polls (NodeEntry.missed_polled _ badCheck)
    (p.judgeMiss_stays a badCheck) hlen ha ha'
  obtain ⟨kentry, kpoll, kphase, -, knotice⟩ := s.settled_nextPoll (hphase.trans hp) ha (hnext.trans h)
  exact ⟨kentry.trans hentry, fun hl => knotice _ (Part.judgeMiss_lost badCheck hl), kpoll, kphase⟩

/-- Settles O30, by the three forms of a miss and by the discarded poll. -/
theorem missIsJudged : Obligations.MissIsJudged := by
  intro s poll next hp hpoll hlen ha ha' hnext n lost judged
  have hmiss (c : Instr) (badCheck : Bool)
      (hexec : exec c s = .next (s.settled ((s.part.judgeMiss poll.address badCheck).nextPoll poll.address))) :
      judged c badCheck.toNat := by
    obtain ⟨hentry, hlost, hrest⟩ := s.settled_miss hp hlen ha ha' hnext badCheck
    refine ⟨_, hexec, hentry.trans ?_, hlost, hrest⟩
    rw [NodeEntry.missed_counts]
    cases badCheck <;> rfl
  refine ⟨fun hd => ⟨hmiss _ false (exec_poll_expired hp hpoll hd),
    fun r hr => hmiss _ true (exec_poll_badCheck hp hpoll hd hr),
    fun r hr hother => hmiss _ false (exec_poll_otherPoll hp hpoll hd hr hother)⟩, fun hd c hc => ?_⟩
  obtain ⟨hentry, hpolled, -⟩ := s.settled_nextPoll hp ha hnext
  exact ⟨_, exec_poll_discarded hp hpoll hd hc, hentry, hpolled⟩

/-! ### A good reply (R45, R49 to R51) -/

/-- R45: what a good reply leaves of its entry, whatever it fetched. -/
theorem NodeEntry.good_leaves (n : NodeEntry) (r : RingReply) :
    let m := n.good r
    m.link = .linked ∧ m.misses = 0 ∧ m.totalMisses = n.totalMisses ∧ m.crcErrors = n.crcErrors
      ∧ m.kind = n.kind ∧ m.masked = n.masked ∧ m.selector = n.selector ∧ m.watch = n.watch
      ∧ m.threshold = n.threshold ∧ m.identScan = n.identScan := by
  unfold NodeEntry.good NodeEntry.goodMain
  cases r.fetch
  case main =>
    dsimp only
    split <;> exact ⟨rfl, rfl, rfl, rfl, rfl, rfl, rfl, rfl, rfl, rfl⟩
  all_goals exact ⟨rfl, rfl, rfl, rfl, rfl, rfl, rfl, rfl, rfl, rfl⟩

/-- R51: the reading that a MAIN reply brings. -/
def NodeEntry.readingOf (n : NodeEntry) (r : RingReply) : Reading :=
  ⟨r.value.toInt, r.status, valueInRange n.kind r.value.toInt⟩

/-- R51: a reading without one to compare with sets the reference. -/
theorem NodeEntry.goodMain_fresh {n : NodeEntry} (h : n.main = none ∨ n.freshReference = true) (r : RingReply) :
    n.goodMain r = { n with
      main := some (n.readingOf r), reference := some r.value.toInt, freshReference := false } := by
  unfold NodeEntry.goodMain
  dsimp only
  split
  · next hmain hfresh => simp [hmain, hfresh] at h
  · rfl

/-- R51: a reading that replaces another is compared with it. -/
theorem NodeEntry.goodMain_compared {n : NodeEntry} {old : Reading} (hmain : n.main = some old)
    (hfresh : n.freshReference = false) (r : RingReply) :
    n.goodMain r = { n with
      main := some (n.readingOf r), changed := n.detects old r.value.toInt r.status
      reference := if n.detects old r.value.toInt r.status then some r.value.toInt else n.reference } := by
  simp only [NodeEntry.goodMain, hmain, hfresh, NodeEntry.readingOf]

/-- R51: the two tests of a change. -/
theorem NodeEntry.detects_iff {n : NodeEntry} {v : Int} (h : n.reference = some v) (old : Reading) (value : Int)
    (status : Byte) : n.detects old value status = true ↔ (old.status ^^^ status) &&& n.watch ≠ 0
      ∨ (valueUsed n.kind = true ∧ 0 < n.threshold ∧ n.threshold ≤ (value - v).natAbs) := by
  simp [NodeEntry.detects, h, and_assoc]

theorem NodeEntry.goodMain_leaves (n : NodeEntry) (r : RingReply) :
    let m := n.goodMain r
    m.main = some (n.readingOf r) ∧ m.alt = n.alt ∧ m.identity = n.identity ∧ m.mismatch = n.mismatch
      ∧ m.requestSeen = n.requestSeen := by
  unfold NodeEntry.goodMain
  dsimp only
  split <;> exact ⟨rfl, rfl, rfl, rfl, rfl⟩

theorem NodeEntry.good_main {r : RingReply} (h : r.fetch = .main) (n : NodeEntry) : n.good r = { n.goodMain r with
    misses := 0, link := .linked, requestSeen := n.requestSeen || r.status.getLsbD 7 } := by
  obtain ⟨-, -, -, -, hseen⟩ := n.goodMain_leaves r
  simp only [NodeEntry.good, h, hseen, serviceFlag]

/-- R45, R51: what a MAIN reply stores, and the reference it is compared with. -/
theorem NodeEntry.good_main_stores {r : RingReply} (h : r.fetch = .main) (n : NodeEntry) :
    let m := n.good r
    m.main = some (n.readingOf r) ∧ m.alt = n.alt ∧ m.identity = n.identity ∧ m.mismatch = n.mismatch
      ∧ m.requestSeen = (n.requestSeen || r.status.getLsbD 7)
      ∧ (n.main = none ∨ n.freshReference = true → m.reference = some r.value.toInt ∧ m.changed = n.changed)
      ∧ (∀ old v, n.main = some old → n.freshReference = false → n.reference = some v →
        (m.changed = true ↔ (old.status ^^^ r.status) &&& n.watch ≠ 0
          ∨ (valueUsed n.kind = true ∧ 0 < n.threshold ∧ n.threshold ≤ (r.value.toInt - v).natAbs))
        ∧ m.reference = some (if m.changed then r.value.toInt else v)) := by
  obtain ⟨hmain, halt, hidentity, hmismatch, -⟩ := n.goodMain_leaves r
  rw [NodeEntry.good_main h]
  refine ⟨hmain, halt, hidentity, hmismatch, rfl, fun hfresh => ?_, fun old v hold hfresh hv => ?_⟩
  · rw [NodeEntry.goodMain_fresh hfresh]
    exact ⟨rfl, rfl⟩
  · rw [NodeEntry.goodMain_compared hold hfresh]
    refine ⟨NodeEntry.detects_iff hv old _ _, ?_⟩
    dsimp only
    rw [hv, apply_ite some]

/-- R45: what an ALT reply stores. -/
theorem NodeEntry.good_alt_stores {r : RingReply} (h : r.fetch = .alt) (n : NodeEntry) :
    let m := n.good r
    m.alt = some ⟨r.value.toInt, r.status, .alt⟩ ∧ m.main = n.main ∧ m.reference = n.reference ∧ m.identity = n.identity
      ∧ m.requestSeen = (n.requestSeen || r.status.getLsbD 7) := by
  simp only [NodeEntry.good, h]
  exact ⟨rfl, rfl, rfl, rfl, rfl⟩

/-- R45: what a STATS reply stores. -/
theorem NodeEntry.good_stats_stores {r : RingReply} (h : r.fetch = .stats) (n : NodeEntry) :
    let m := n.good r
    m.alt = some ⟨r.value.toInt, r.status, .stats⟩ ∧ m.main = n.main ∧ m.reference = n.reference ∧ m.identity = n.identity
      ∧ m.requestSeen = (n.requestSeen || r.status.getLsbD 7) := by
  simp only [NodeEntry.good, h]
  exact ⟨rfl, rfl, rfl, rfl, rfl⟩

/-- R49, R50: the entry after a good IDENT reply. -/
theorem NodeEntry.good_ident {r : RingReply} (h : r.fetch = .ident) (n : NodeEntry) : n.good r = { n with
    misses := 0, link := .linked, identity := some ⟨r.kind, r.variant, r.serial⟩, requestSeen := r.status.getLsbD 7
    mismatch := decide (n.kind ≠ .none ∧ r.kind ≠ n.kind) } := by
  have hmismatch : (n.kind != .none && r.kind != n.kind) = decide (n.kind ≠ .none ∧ r.kind ≠ n.kind) := by
    rw [Bool.eq_iff_iff]
    simp
  simp only [NodeEntry.good, h, NodeEntry.goodIdent, Bool.false_or, hmismatch, serviceFlag]

/-- R49, R50: what an IDENT reply stores. -/
theorem NodeEntry.good_ident_stores {r : RingReply} (h : r.fetch = .ident) (n : NodeEntry) :
    let m := n.good r
    m.identity = some ⟨r.kind, r.variant, r.serial⟩ ∧ m.main = n.main ∧ m.alt = n.alt
      ∧ m.requestSeen = r.status.getLsbD 7 ∧ (m.mismatch = true ↔ n.kind ≠ .none ∧ r.kind ≠ n.kind) := by
  rw [NodeEntry.good_ident h]
  exact ⟨rfl, rfl, rfl, rfl, decide_eq_true_iff⟩

/-- R46, R49, R50: what a good reply raises. -/
theorem Part.judgeGood_raises (p : Part) (a : Nat) (r : RingReply) :
    let q := p.judgeGood a r
    ((p.ring.entry a).link ≠ .linked ∨ r.fetch = .ident →
      q.notice.pending.getLsbD (noticePosition .nodeChange) = true)
    ∧ (r.fetch = .ident ∧ ((p.ring.entry a).good r).mismatch = true → hasFault q.mode.faults .nodeMap = true) := by
  rw [Part.judgeGood_eq]
  dsimp only
  refine ⟨fun h => ?_, fun h => ?_⟩
  · have htold : (p.goodTold a r).notice.pending.getLsbD (noticePosition .nodeChange) = true := by
      rw [Part.goodTold, if_pos h]
      exact NoticeUnit.raise_self _ .nodeChange
    split
    · exact (Part.raiseFault_persists .nodeMap (.refl _)).adds.pending _ htold
    · exact htold
  · rw [if_pos h]
    exact (Part.raiseFault_marks _ .nodeMap).1

/-- Settles O31: the entry by what the reply fetched, then the notices and the fault set. -/
theorem goodReplyIsStored : Obligations.GoodReplyIsStored := by
  intro s poll next r hp hpoll hd hlen ha ha' hnext hr haddress hfetch n service
  obtain ⟨hentry, hphase, hafter⟩ := Part.judged_polls (NodeEntry.good_polled _ r)
    (s.part.judgeGood_stays poll.address r) hlen ha ha'
  obtain ⟨kentry, kpoll, -, kfaults, knotice⟩ := s.settled_nextPoll (hphase.trans hp) ha (hafter.trans hnext)
  obtain ⟨hchange, hfault⟩ := s.part.judgeGood_raises poll.address r
  refine ⟨_, exec_poll_good hp hpoll hd hr haddress hfetch, kpoll, ?_⟩
  rw [kentry, hentry, kfaults]
  obtain ⟨hlink, hmisses, htotal, hcrc, hkind, hmasked, hselector, hwatch, hthreshold, hscan⟩ := n.good_leaves r
  refine ⟨hlink, hmisses, htotal, hcrc, hkind, hmasked, hselector, hwatch, hthreshold, hscan,
    fun hl => knotice _ (hchange (.inl hl)), fun hf => NodeEntry.good_main_stores hf n,
    fun hf => NodeEntry.good_alt_stores hf n, fun hf => NodeEntry.good_stats_stores hf n, fun hf => ?_⟩
  obtain ⟨hidentity, hmain, halt, hseen, hmismatch⟩ := NodeEntry.good_ident_stores hf n
  exact ⟨hidentity, hmain, halt, hseen, hmismatch, knotice _ (hchange (.inr hf)), fun h => hfault ⟨hf, h⟩⟩

end Sys2Proof.Machine
end

section
/-! SUPPORT. The scan timer (R43, R60) and the discovery scan (R56): a scan that starts, an overrun, the attempts of an
address, and the end of discovery. -/

namespace Sys2Proof.Machine

/-! ### The scan timer (R43, R60) -/

/-- R43: the blocks as the scan timer leaves them where no scan is in progress. -/
def Part.scanDue (p : Part) : Part := { p with ring := { p.ring with startAtOnce := true, timer := .stopped } }

/-- R43: the ring as the scan timer leaves it in a scan. -/
def Ring.overrun (r : Ring) : Ring :=
  { r with startAtOnce := true, timer := .stopped, overruns := min 65535 (r.overruns + 1) }

theorem Part.scanTimer_idle {p : Part} {n : Nat} (ht : p.ring.timer = .running n) (hp : p.ring.phase = .idle) :
    p.scanTimer = p.scanDue := by
  simp only [Part.scanTimer, ht, hp, if_true, Part.scanDue]

theorem Part.scanTimer_scanning {p : Part} {n : Nat} (ht : p.ring.timer = .running n) (hp : p.ring.phase ≠ .idle) :
    p.scanTimer = { p with ring := p.ring.overrun } := by
  simp only [Part.scanTimer, ht, hp, if_false, bump_eq, Ring.overrun]

/-- Log entry 4: a timer that does not run expires without effect. -/
theorem Part.scanTimer_stopped {p : Part} (h : ∀ n, p.ring.timer ≠ .running n) : p.scanTimer = p := by
  unfold Part.scanTimer
  split
  · next n ht => exact absurd ht (h n)
  all_goals rfl

/-- R43: what a starting scan takes from the blocks before it. -/
theorem Part.startScan_begins {p : Part} {a : Nat} (h : p.ring.nextAddress 12 1 = some a) :
    let r := p.startScan.ring
    r.timer = .running p.scanInterval ∧ r.eligible = true ∧ r.overruns = p.ring.overruns := by
  have hnext : p.scanBegun.nextAddress 12 1 = some a := (Ring.nextAddress_of_nodes rfl 12 1).trans h
  have hring : p.startScan.ring = p.scanBegun.beginPoll a := by
    show p.scanBegun.pollFrom 1 = _
    simp only [Ring.pollFrom, hnext]
  rw [hring]
  exact ⟨rfl, rfl, rfl⟩

theorem Part.startScan_mode (p : Part) : p.startScan.mode = p.mode := rfl

/-- R43, R175: no reaction moves the scan interval that item 20 serves. -/
theorem Part.settle_interval (p : Part) : p.settle.scanInterval =
    if p.settle.mode.mode = .standby then 2000 else p.store.num 20 := by
  have hserved := (Part.settle_keeps (Part.Keeps.refl p)).adds.served 20 (by simp [internalItem])
  rw [Part.scanInterval, Store.num, hserved, Store.num]

/-- R43: a scan that the timer makes due starts behind the reactions. -/
theorem State.settled_scanDue (s : State) {p : Part} {a : Nat} (hp : p.ring.phase = .idle)
    (h : p.ring.nextAddress 12 1 = some a) :
    let t := s.settled p.scanDue
    t.part.ring.phase = .scanning ∧ t.part.ring.scan = (p.ring.scan + 1) % 65536
      ∧ t.part.ring.timer = .running (if t.part.mode.mode = .standby then 2000 else p.store.num 20)
      ∧ t.part.ring.poll.map Poll.address = some a ∧ t.part.ring.eligible = true
      ∧ t.part.ring.overruns = p.ring.overruns ∧ t.part.ring.image = p.ring.image := by
  have hquiet (q : Part) (b : Bool) : (q.quietReports b).ring = q.ring ∧ (q.quietReports b).mode = q.mode := by
    cases b <;> exact ⟨rfl, rfl⟩
  have hring := (Part.settle_keeps (.refl p.scanDue)).ring
  have hnext : p.scanDue.settle.ring.nextAddress 12 1 = some a := by
    rw [hring]
    exact (Ring.nextAddress_of_nodes rfl 12 1).trans h
  have hpart : (s.settled p.scanDue).part = p.scanDue.settle.startScan.quietReports s.link.resetWait := by
    rw [State.settled, State.onBlocks_part, Part.advance_of_due 2 (by rw [hring]; exact hp) (by rw [hring]; rfl) hnext]
  obtain ⟨hphase, hscan, hpoll, -, himage⟩ := Part.startScan_ring hnext
  obtain ⟨htimer, heligible, hoverruns⟩ := Part.startScan_begins hnext
  dsimp only
  rw [hpart, (hquiet _ _).1, (hquiet _ _).2, hphase, hscan, hpoll, himage, htimer, heligible, hoverruns,
    Part.startScan_mode, Part.settle_interval, hring]
  exact ⟨rfl, rfl, rfl, rfl, rfl, rfl, rfl⟩

/-- R43: an overrun leaves the scan in progress to its end. -/
theorem State.settled_overrunCounted (s : State) {p : Part} (hp : p.ring.phase = .scanning) :
    (s.settled { p with ring := p.ring.overrun }).part.ring = p.ring.overrun := by
  have hdue : p.ring.overrun.phase = .idle → p.ring.overrun.startAtOnce = false := fun k => by
    have hphase : p.ring.overrun.phase = .scanning := hp
    rw [hphase] at k
    cases k
  exact Part.ring_of_fixed (State.settled_fixed (p := { p with ring := p.ring.overrun }) hdue)

/-! ### The attempts of the discovery scan (R56) -/

/-- R56: the blocks as a discovery poll leaves them: its entry, and then the next attempt, the next address or the end. -/
def Part.discovered (p : Part) (poll : Poll) (m : NodeEntry) (retry : Bool) : Part :=
  if retry then { p with ring := (p.ring.putEntry poll.address m).discover poll.address (poll.attempt + 1) }
  else Part.nextDiscovery { p with ring := p.ring.putEntry poll.address m } poll.address

theorem Part.discoveryMiss_eq (p : Part) (poll : Poll) (badCheck : Bool) : p.discoveryMiss poll badCheck =
    p.discovered poll ((p.ring.entry poll.address).miss badCheck) (decide (poll.attempt < 3)) := by
  unfold Part.discoveryMiss Part.discovered
  simp only [decide_eq_true_eq]

theorem Part.discoveryGood_eq (p : Part) (poll : Poll) (r : RingReply) : p.discoveryGood poll r =
    p.discovered poll { (p.ring.entry poll.address).good r with identScan := some 0 } false := rfl

section
variable {s : State} {poll : Poll} (hp : s.part.ring.phase = .discovery) (hpoll : s.part.ring.poll = some poll)
include hp hpoll

theorem exec_discovery_expired : exec .replyWindowExpiry s
    = .next (s.settled (s.part.discovered poll ((s.part.ring.entry poll.address).miss false)
      (decide (poll.attempt < 3)))) :=
  next_settled (by simp only [Part.replyMissing, hp, hpoll, Part.discoveryMiss_eq])

/-- R56: a frame in the discovery scan, by its check and by the poll it answers. -/
theorem Part.nodeReply_discovery (r : RingReply) : s.part.nodeReply r =
    if !decide (crc8 r.body ≠ r.crc) && answersPoll r poll then s.part.discoveryGood poll r
    else s.part.discoveryMiss poll (decide (crc8 r.body ≠ r.crc)) := by
  simp only [Part.nodeReply, hp, hpoll]

theorem exec_discovery_badCheck {r : RingReply} (hr : crc8 r.body ≠ r.crc) : exec (.nodeReply r) s
    = .next (s.settled (s.part.discovered poll ((s.part.ring.entry poll.address).miss true)
      (decide (poll.attempt < 3)))) := by
  refine next_settled ((Part.nodeReply_discovery hp hpoll r).trans ?_)
  rw [decide_eq_true hr, if_neg (by simp), Part.discoveryMiss_eq]

theorem exec_discovery_otherPoll {r : RingReply} (hr : crc8 r.body = r.crc)
    (ha : r.address ≠ poll.address ∨ r.fetch ≠ poll.fetch) : exec (.nodeReply r) s
    = .next (s.settled (s.part.discovered poll ((s.part.ring.entry poll.address).miss false)
      (decide (poll.attempt < 3)))) := by
  have hother : answersPoll r poll = false := by
    rcases ha with h | h <;> simp [answersPoll, h]
  refine next_settled ((Part.nodeReply_discovery hp hpoll r).trans ?_)
  rw [decide_eq_false (not_not.2 hr), hother, if_neg (by decide), Part.discoveryMiss_eq]

theorem exec_discovery_good {r : RingReply} (hr : crc8 r.body = r.crc) (ha : r.address = poll.address)
    (hf : r.fetch = poll.fetch) : exec (.nodeReply r) s = .next (s.settled (s.part.discovered poll
      { (s.part.ring.entry poll.address).good r with identScan := some 0 } false)) := by
  have hanswers : answersPoll r poll = true := by simp [answersPoll, ha, hf]
  refine next_settled ((Part.nodeReply_discovery hp hpoll r).trans ?_)
  rw [decide_eq_false (not_not.2 hr), hanswers, if_pos (by decide), Part.discoveryGood_eq]

end

/-! ### The end of discovery (R50, R56) -/

/-- R56: the map does not fit: a required kind is not named once, is absent, or an identity mismatches. -/
theorem Ring.mapFaulty_iff (r : Ring) : r.mapFaulty = true ↔
    (∃ k ∈ [NodeKind.cavityTemp, .boiler, .waterTank, .door], (r.nodes.filter (fun n => n.kind = k)).length ≠ 1)
      ∨ (∃ n ∈ r.nodes, n.kind ∈ [NodeKind.cavityTemp, .boiler, .waterTank, .door] ∧ n.link = .absent)
      ∨ ∃ n ∈ r.nodes, n.mismatch = true := by
  have hnames : (!r.mapNamesRequired) = true ↔ ∃ k ∈ [NodeKind.cavityTemp, .boiler, .waterTank, .door],
      (r.nodes.filter (fun n => n.kind = k)).length ≠ 1 := by
    rw [Bool.not_eq_true', Bool.eq_false_iff, Ne, Ring.mapNamesRequired, List.all_eq_true]
    simp only [decide_eq_true_eq, not_forall, exists_prop]
    rfl
  have habsent (n : NodeEntry) : (requiredKinds.contains n.kind && decide (n.link = .absent)) = true ↔
      n.kind ∈ [NodeKind.cavityTemp, .boiler, .waterTank, .door] ∧ n.link = .absent := by
    rw [Bool.and_eq_true, requiredKinds_iff, decide_eq_true_eq]
  rw [Ring.mapFaulty, Bool.or_eq_true, Bool.or_eq_true, hnames, List.any_eq_true, List.any_eq_true, or_assoc]
  simp only [habsent]

/-- Settles O32: the timer by the phase, the discovery polls by what becomes of the entry, and the end of discovery. -/
theorem scanTimerExpires : Obligations.ScanTimerExpires := by
  refine ⟨fun s n a ht => ⟨fun hp ha => ?starts, fun hp => ?overruns⟩, fun s h => ?stopped, fun s poll hp hpoll => ?polls,
    fun p => ?ends⟩
  case starts => exact ⟨_, next_settled (Part.scanTimer_idle ht hp), s.settled_scanDue hp ha⟩
  case overruns =>
    exact ⟨_, next_settled (Part.scanTimer_scanning ht (by rw [hp]; decide)), s.settled_overrunCounted hp⟩
  case stopped => exact next_settled (Part.scanTimer_stopped h)
  case polls =>
    intro p a n answered missed
    have hanswered {c : Instr} {m : NodeEntry} {retry : Bool}
        (hexec : exec c s = .next (s.settled (p.discovered poll m retry))) : answered c m retry := by
      unfold Part.discovered Part.nextDiscovery at hexec
      refine ⟨fun hr => ?_, fun hr ha => ?_, fun hr ha => ?_⟩
      · rw [if_pos hr] at hexec
        exact hexec
      · rw [if_neg (by simp [hr]), if_pos ha] at hexec
        exact hexec
      · rw [if_neg (by simp [hr]), if_neg (Nat.not_lt.2 ha)] at hexec
        exact hexec
    have hmissed (badCheck : Bool) : n.miss badCheck = missed badCheck := n.miss_eq badCheck
    refine ⟨hanswered ?_, fun r hr => hanswered ?_, fun r hr ha => hanswered ?_, fun hf r hr ha hr' => hanswered ?_⟩
    · rw [← hmissed]; exact exec_discovery_expired hp hpoll
    · rw [← hmissed]; exact exec_discovery_badCheck hp hpoll hr
    · rw [← hmissed]; exact exec_discovery_otherPoll hp hpoll hr ha
    · have hexec := exec_discovery_good hp hpoll hr ha (hr'.trans hf.symm)
      rw [NodeEntry.good_ident hr'] at hexec
      exact hexec
  case ends =>
    intro q required misfit
    have hq : q.ring.mapFaulty = true ↔ misfit := q.ring.mapFaulty_iff
    exact ⟨fun h => if_pos (hq.2 h), fun h => if_neg (fun k => h (hq.1 k))⟩

end Sys2Proof.Machine
end

section
/-! SUPPORT. The sensor image (R53): the reading that each kind gives, and the bytes of the status report that carry it
(section 12.5). -/

namespace Sys2Proof.Machine

/-! ### Flag bytes (R182) -/

/-- A number from its bits, bit 0 first. -/
def bitSum : List Bool → Nat
  | [] => 0
  | b :: rest => b.toNat + 2 * bitSum rest

theorem testBit_bitSum (bits : List Bool) (i : Nat) : (bitSum bits).testBit i = bits.getD i false := by
  induction bits generalizing i with
  | nil => simp [bitSum]
  | cons b rest ih =>
    cases i with
    | zero => cases b <;> simp [bitSum, Nat.add_mod]
    | succ i =>
      have hhalf : (b.toNat + 2 * bitSum rest) / 2 = bitSum rest := by
        have hb := Bool.toNat_le b
        omega
      rw [bitSum, Nat.testBit_succ, hhalf, ih]
      rfl

theorem flagBit_eq (n : Nat) (b : Bool) : flagBit n b = 2 ^ n * b.toNat := by cases b <;> simp [flagBit]

/-- R182: a bit of a flag field. -/
theorem getLsbD_bitSum (w : Nat) (bits : List Bool) (i : Nat) :
    (BitVec.ofNat w (bitSum bits)).getLsbD i = (decide (i < w) && bits.getD i false) := by
  rw [BitVec.getLsbD_ofNat, testBit_bitSum]

/-! ### The reading of a kind (R53) -/

theorem Ring.reading_of_none {r : Ring} {k : NodeKind} (h : r.supplier k = none) : r.reading k = none := by
  simp only [Ring.reading, h]

/-- R53: a reading is used only of a LINKED entry without an identity mismatch. -/
theorem Ring.reading_of_some {r : Ring} {k : NodeKind} {n : NodeEntry} (h : r.supplier k = some n) :
    r.reading k = if n.link = .linked ∧ n.mismatch = false then n.main else none := by
  simp [Ring.reading, h]

/-- R53: the readings that a kind gives the image are not valid. -/
def Image.lacks (i : Image) (k : NodeKind) : Prop :=
  (k = .cavityTemp → i.tc = none) ∧ (k = .coreProbe → i.tcore = none) ∧ (k = .humidity → i.humidity = none)
  ∧ (k = .boiler → i.boilerTemp = none ∧ i.lowWet = false ∧ i.highWet = false ∧ i.levelValid = false)
  ∧ (k = .waterTank → i.tankPresent = false ∧ i.tankLow = true ∧ i.tankValid = false)
  ∧ (k = .door → i.doorClosed = false ∧ i.doorLocked = false ∧ i.doorValid = false)
  ∧ (k = .vent → i.ventOpenEnd = false ∧ i.ventClosedEnd = false ∧ i.ventValid = false)

/-- R53: the readings of the image are those of a main reading of their kind. -/
def Image.shows (i : Image) (k : NodeKind) (m : Reading) : Prop :=
  (k = .cavityTemp → i.tc = if m.valid then some m.value else none)
  ∧ (k = .coreProbe → i.tcore = if m.valid ∧ m.status.getLsbD 0 then some m.value else none)
  ∧ (k = .humidity → i.humidity = if m.valid then some m.value else none)
  ∧ (k = .boiler → i.boilerTemp = (if m.valid then some m.value else none)
    ∧ i.lowWet = m.status.getLsbD 0 ∧ i.highWet = m.status.getLsbD 1 ∧ i.levelValid = true)
  ∧ (k = .waterTank → i.tankPresent = m.status.getLsbD 0 ∧ i.tankLow = m.status.getLsbD 1 ∧ i.tankValid = true)
  ∧ (k = .door → i.doorClosed = m.status.getLsbD 0 ∧ i.doorLocked = m.status.getLsbD 1 ∧ i.doorValid = true)
  ∧ (k = .vent → i.ventOpenEnd = m.status.getLsbD 0 ∧ i.ventClosedEnd = m.status.getLsbD 1 ∧ i.ventValid = true)

theorem Ring.deriveImage_lacks {r : Ring} {k : NodeKind} (h : r.reading k = none) : r.deriveImage.lacks k := by
  refine ⟨?_, ?_, ?_, ?_, ?_, ?_, ?_⟩ <;> rintro rfl <;>
    simp [Ring.deriveImage, Ring.value, Ring.coreValue, Ring.flagOne, Ring.flagTwo, h]

theorem Ring.deriveImage_shows {r : Ring} {k : NodeKind} {m : Reading} (h : r.reading k = some m) :
    r.deriveImage.shows k m := by
  refine ⟨?_, ?_, ?_, ?_, ?_, ?_, ?_⟩ <;> rintro rfl <;>
    simp [Ring.deriveImage, Ring.value, Ring.coreValue, Ring.flagOne, Ring.flagTwo, firstFlag, secondFlag, h]

/-! ### The image in the status report (section 12.5) -/

/-- Section 12.5: the flag byte of the valid values, with the found flag and the image validity flag. -/
def Ring.validityBits (r : Ring) : List Bool :=
  [r.image.tc.isSome, r.image.tcore.isSome, r.image.humidity.isSome, r.image.boilerTemp.isSome, r.found, r.imageValid]

/-- Section 12.5: the flag byte of the level, the tank, the door and the vent. -/
def Image.stateBits (i : Image) : List Bool :=
  [i.lowWet, i.highWet, i.tankPresent, i.tankLow, i.doorClosed, i.doorLocked, i.ventOpenEnd, i.ventClosedEnd]

/-- Section 12.5: the image stands at offsets 34 to 43 of a status report. -/
theorem Part.statusBytes_image (p : Part) (number : Nat) :
    ((p.statusBytes number).drop 34).take 8 = intBytes (p.ring.image.tc.getD (-32768))
        ++ intBytes (p.ring.image.tcore.getD (-32768)) ++ intBytes (p.ring.image.humidity.getD (-32768))
        ++ intBytes (p.ring.image.boilerTemp.getD (-32768))
      ∧ (p.statusBytes number)[42]? = some (BitVec.ofNat 8 (bitSum p.ring.validityBits))
      ∧ (p.statusBytes number)[43]? = some (BitVec.ofNat 8 (bitSum p.ring.image.stateBits)) := by
  refine ⟨rfl, ?_, ?_⟩
  · refine Eq.trans (b := some _) rfl (congrArg (fun n => some (byteOf n)) ?_)
    simp only [flagBit_eq, Ring.validityBits, bitSum]
    ring
  · refine Eq.trans (b := some _) rfl (congrArg (fun n => some (byteOf n)) ?_)
    simp only [flagBit_eq, Image.stateBits, bitSum]
    ring

/-- Settles O34: the image by the reading of the kind, and its bytes in the status report. -/
theorem imageTakesLowestUsableNode : Obligations.ImageTakesLowestUsableNode := by
  refine ⟨fun r k => ⟨fun h => ?unmapped, fun n h => ⟨fun m hu hm => ?shown, fun hu => ?unusable⟩⟩,
    fun n r m hf hm => ?reading, fun p => p.completeScan_image, fun p number => ?report⟩
  case unmapped => exact Ring.deriveImage_lacks (Ring.reading_of_none h)
  case shown =>
    exact Ring.deriveImage_shows (((Ring.reading_of_some h).trans (if_pos hu)).trans hm)
  case unusable =>
    refine Ring.deriveImage_lacks ((Ring.reading_of_some h).trans ?_)
    rcases hu with hu | hm
    · exact if_neg hu
    · rw [hm, ite_self]
  case reading =>
    obtain ⟨hmain, -⟩ := NodeEntry.good_main_stores hf n
    exact (Option.some.inj (hmain.symm.trans hm)).symm
  case report =>
    obtain ⟨hvalues, hvalid, hstate⟩ := p.statusBytes_image number
    refine ⟨hvalues, ⟨_, hvalid, ?_⟩, ⟨_, hstate, ?_⟩⟩ <;> simp only [getLsbD_bitSum]
    · exact ⟨rfl, rfl, rfl, rfl⟩
    · exact ⟨rfl, rfl, rfl, rfl, rfl, rfl, rfl, rfl⟩

end Sys2Proof.Machine
end

section
/-! SUPPORT. The records of the requests that read (section 12.4, section 12.6), each in the fields of its layout. -/

namespace Sys2Proof.Machine

/-- R156, R157: an admitted request whose owner only reads answers OK with its record. -/
theorem exec_readsRecord {s : State} {q : Request} {record fields : List Byte} (h : s.listening) (ha : s.admits q)
    (hr : (s.taken q).serve q = (s.taken q).plain (s.part, .okWith record)) (hf : record = fields) :
    exec q.command s = .next (s.replied q ⟨.ok, fields⟩) := by
  rw [← hf]
  exact exec_reads h ha hr

/-- A record is equal to another one field by field. -/
theorem append_congr {a b c d : List Byte} (h : a = b) (k : c = d) : a ++ c = b ++ d := by rw [h, k]

theorem readingValid_eq (m : Option Reading) : readingValid m = m.any Reading.valid := by cases m <;> rfl

/-! ### SCALE_GET (R97) -/

theorem lockThreshold_eq (due : Nat) : lockThreshold due = min 65535 (due * 5 / 4) := by
  rw [lockThreshold, clampNat_eq 0 65535 _ (by decide), Nat.zero_max]

theorem Part.scaleBytes_eq (p : Part) :
    let u := p.scale
    let due := p.store.num 13
    let threshold := min 65535 (due * 5 / 4)
    p.scaleBytes = natBytes u.load ++ [byteOf u.remainder] ++ natBytes due ++ natBytes threshold
      ++ natBytes u.progress ++ natBytes (p.store.num 17)
      ++ [byteOf u.owed, byteOf u.credit,
        byteOf (u.dueArmed.toNat + 2 * (decide (due ≤ u.load)).toNat + 4 * (u.lock && decide (threshold ≤ u.load)).toNat
          + 8 * (u.lock && p.descale.record.rinseOwed).toNat + 16 * u.flush.toNat
          + 32 * (decide (u.lull = .reached)).toNat + 64 * u.suspended.toNat),
        byteOf (u.inHand.toNat + 2 * p.boiler.inFlight.toNat)] := by
  simp only [Part.scaleBytes, Part.lockByLoad, lockThreshold_eq, flagBit_eq, Nat.reducePow, Nat.one_mul]

/-! ### FAULT_GET (R148) -/

/-- Section 12.3: the fault kinds in the order of their codes. -/
def faultKinds : List FaultKind :=
  [.cavityOvertemp, .cavityNodeLost, .doorNodeLost, .nodeMap, .fanStall, .boilerOverheat, .boilerNodeLost, .tankNodeLost,
    .fillFault, .drainTimeout, .storeDefaulted]

theorem faultKinds_getElem? (n : Nat) (k : FaultKind) : faultKinds[n]? = some k ↔ faultCode k = n := by
  have hcode : faultKinds[faultCode k]? = some k := by cases k <;> rfl
  refine ⟨fun h => ?_, fun h => h ▸ hcode⟩
  obtain ⟨hlt, -⟩ := List.getElem?_eq_some_iff.1 hcode
  exact (List.getElem?_inj hlt (by decide)).1 (hcode.trans h.symm)

/-- Section 12.6: a flag per fault kind, kind n in bit n. -/
theorem faultFlags_eq (f : FaultKind → Bool) :
    flagBit 0 (f .cavityOvertemp) + flagBit 1 (f .cavityNodeLost) + flagBit 2 (f .doorNodeLost) + flagBit 3 (f .nodeMap)
      + flagBit 4 (f .fanStall) + flagBit 5 (f .boilerOverheat) + flagBit 6 (f .boilerNodeLost)
      + flagBit 7 (f .tankNodeLost) + flagBit 8 (f .fillFault) + flagBit 9 (f .drainTimeout)
      + flagBit 10 (f .storeDefaulted) = bitSum (faultKinds.map f) := by
  simp only [flagBit_eq, faultKinds, List.map_cons, List.map_nil, bitSum]
  ring

theorem Part.causes_eq (p : Part) :
    p.causes = p.mode.faults &&& BitVec.ofNat 16 (bitSum (faultKinds.map p.causePresent)) := by
  rw [Part.causes, faultFlags_eq]

/-- R148: a bit of the causes is a latched kind whose cause is present. -/
theorem Part.causes_iff (p : Part) (n : Nat) : p.causes.getLsbD n = true
    ↔ ∃ k, faultCode k = n ∧ hasFault p.mode.faults k = true ∧ p.causePresent k = true := by
  have hbit : (faultKinds.map p.causePresent).getD n false = true
      ↔ ∃ k, faultCode k = n ∧ p.causePresent k = true := by
    rw [List.getD_eq_getElem?_getD, List.getElem?_map]
    cases hk : faultKinds[n]? with
    | none =>
      refine ⟨fun h => absurd h (by simp), fun ⟨k, hc, _⟩ => ?_⟩
      rw [(faultKinds_getElem? n k).2 hc] at hk
      cases hk
    | some k =>
      refine ⟨fun h => ⟨k, (faultKinds_getElem? n k).1 hk, h⟩, fun ⟨j, hc, hj⟩ => ?_⟩
      rw [(faultKinds_getElem? n j).2 hc] at hk
      exact Option.some.inj hk ▸ hj
  have hwidth : p.mode.faults.getLsbD n = true → n < 16 := BitVec.lt_of_getLsbD
  rw [Part.causes_eq, BitVec.getLsbD_and, getLsbD_bitSum, Bool.and_eq_true, Bool.and_eq_true, decide_eq_true_eq, hbit]
  refine ⟨fun ⟨hf, _, k, hc, hp⟩ => ⟨k, hc, ?_, hp⟩, fun ⟨k, hc, hf, hp⟩ => ?_⟩
  · rw [hasFault, hc]; exact hf
  · rw [hasFault, hc] at hf
    exact ⟨hf, hwidth hf, k, hc, hp⟩

theorem Part.faultBytes_eq (p : Part) : p.faultBytes = halfBytes p.mode.faults ++ halfBytes p.causes
    ++ [firstFaultByte p.mode.first, byteOf (p.mode.mainsLoss.toNat + 2 * p.safetyOut.toNat),
      byteOf (opModeCode p.mode.mode)] := by
  simp only [Part.faultBytes, Part.safetyByte, flagBit_eq, Nat.reducePow, Nat.one_mul]

/-! ### CAPTURE_GET (R173) -/

theorem captureStyle_byte (c : CaptureStyle) : byteOf (captureStyleCode c) = if c = .oneShot then 0 else 1 := by
  cases c <;> rfl

theorem snapshotEntries_eq (entries : List SnapshotEntry) :
    snapshotEntries entries = entries.flatMap (fun e =>
      byteOf (linkStateCode e.link + 4 * e.main.isSome.toNat + 8 * (e.main.any Reading.valid).toNat)
        :: readingBytes e.main) := by
  induction entries with
  | nil => rfl
  | cons e rest ih =>
    rw [snapshotEntries, ih, List.flatMap_cons]
    simp only [SnapshotEntry.bytes, flagBit_eq, readingValid_eq, Nat.reducePow]

theorem Capture.bytes_eq (c : Capture) : c.bytes = [byteOf (c.armed.toNat + 2 * c.snapshot.isSome.toNat),
    if c.style = .oneShot then 0 else 1] ++ halfBytes c.trigger ++ [byteOf c.missed] ++ snapshotBytes c.snapshot := by
  simp only [Capture.bytes, flagBit_eq, captureStyle_byte, Nat.reducePow, Nat.one_mul]

/-! ### SETTING_GET (R176) -/

theorem byteOf_toNat (b : Byte) : byteOf b.toNat = b := (BitVec.ofNat_toNat 8 b).trans (BitVec.setWidth_eq b)

theorem Store.entry_isSome_iff (t : Store) (n : Nat) : (t.entry n).isSome = true ↔ ∃ e ∈ t.queue, e.item = n := by
  simp [Store.entry, List.find?_isSome]

/-- R176: the source byte, by the queue and the run. -/
theorem Store.source_byte (t : Store) (n : Nat) : byteOf (sourceCode (t.source n)) =
    if ∃ e ∈ t.queue, e.item = n then 1 else if n ∈ t.run then 2 else 0 := by
  rw [if_congr (t.entry_isSome_iff n).symm rfl rfl, Store.source]
  cases t.entry n with
  | some e => rfl
  | none =>
    show byteOf (sourceCode (if n ∈ t.run then .defaults else .stored)) = if n ∈ t.run then 2 else 0
    split <;> rfl

/-! ### NODE_GET (R57) -/

/-- Section 12.6: an optional two-byte field, zero where it is absent. -/
def optWord {α : Type} (bytes : α → List Byte) : Option α → List Byte
  | some v => bytes v
  | none => [0, 0]

theorem intBytes_getD (o : Option Int) : intBytes (o.getD 0) = optWord intBytes o := by cases o <;> rfl

theorem natBytes_getD (o : Option Nat) : natBytes (o.getD 0) = optWord natBytes o := by cases o <;> rfl

theorem Ring.nodeBytes_eq (r : Ring) (a : Byte) :
    let n := r.entry a.toNat
    r.nodeBytes a.toNat = [a, byteOf (nodeKindCode n.kind),
          byteOf (n.masked.toNat + 2 * n.changed.toNat + 4 * n.requestSeen.toNat + 8 * n.mismatch.toNat
            + 16 * n.main.isSome.toNat + 32 * (n.main.any Reading.valid).toNat + 64 * n.alt.isSome.toNat
            + 128 * n.reference.isSome.toNat),
          byteOf (n.identity.isSome.toNat + 2 * n.identScan.isSome.toNat),
          byteOf (selectorCode n.selector), byteOf (linkStateCode n.link), byteOf n.misses]
        ++ natBytes n.totalMisses ++ natBytes n.crcErrors ++ readingBytes n.main ++ altBytes n.alt
        ++ optWord intBytes n.reference ++ [n.watch] ++ natBytes n.threshold ++ identityBytes n.identity
        ++ optWord natBytes n.identScan ++ natBytes r.image.scan := by
  simp only [Ring.nodeBytes, flagBit_eq, readingValid_eq, intBytes_getD, natBytes_getD, byteOf_toNat, Nat.reducePow,
    Nat.one_mul]

/-! ### STAGE_GET (R120) -/

/-- Section 12.4: an optional humidity setpoint: presence and value. -/
def humidityField : Option Int → List Byte
  | some h => [1, BitVec.ofInt 8 h]
  | none => [0, 0]

/-- Section 12.4: an optional steam pulse: presence, period and on-time. -/
def pulseField : Option SteamPulse → List Byte
  | some u => [1] ++ natBytes u.period ++ natBytes u.onTime
  | none => [0, 0, 0, 0, 0]

/-- Section 12.4: an optional delta: presence and value. -/
def deltaField : Option Int → List Byte
  | some d => [1] ++ intBytes d
  | none => [0, 0, 0]

/-- Section 12.4: the climate block of a held record, field by field. -/
theorem ClimateParams.block_bytes (c : ClimateParams) : climateBytes c.block =
    [byteOf (heatModeCode c.mode)] ++ intBytes c.setpoint ++ [byteOf c.fan] ++ humidityField c.humidity
      ++ pulseField c.pulse ++ deltaField c.delta := by
  have hhumidity : [c.block.humidityPresence, c.block.humidity] = humidityField c.humidity := by
    unfold ClimateParams.block
    cases c.humidity <;> rfl
  have hpulse : [c.block.pulsePresence, hiByte c.block.pulsePeriod, loByte c.block.pulsePeriod,
      hiByte c.block.pulseOnTime, loByte c.block.pulseOnTime] = pulseField c.pulse := by
    unfold ClimateParams.block
    cases c.pulse with
    | some u => rfl
    | none =>
      show [byteOf 0, hiByte 0, loByte 0, hiByte 0, loByte 0] = _
      decide
  have hdelta : [c.block.deltaPresence, hiByte c.block.delta, loByte c.block.delta] = deltaField c.delta := by
    unfold ClimateParams.block
    cases c.delta with
    | some d => rfl
    | none =>
      show [byteOf 0, hiByte 0, loByte 0] = _
      decide
  rw [← hhumidity, ← hpulse, ← hdelta]
  rfl

/-- Section 12.4: the stage record of a held stage, field by field. -/
theorem Stage.block_bytes (st : Stage) : stageBytes st.block =
    climateBytes st.params.block ++ [byteOf (endConditionCode st.endCondition)]
      ++ quadBytes (BitVec.ofNat 32 st.duration) ++ intBytes st.coreTarget
      ++ [byteOf (promptPointCode st.promptPoint), st.promptCode,
        byteOf (st.preheat.toNat + 2 * st.noInterrupt.toNat + 4 * st.steamPriority.toNat
          + 8 * st.doorContinue.toNat)] := by
  have hflags : st.block.flags = byteOf (st.preheat.toNat + 2 * st.noInterrupt.toNat + 4 * st.steamPriority.toNat
      + 8 * st.doorContinue.toNat) := by
    simp only [Stage.block, flagBit_eq, Nat.reducePow, Nat.one_mul]
  rw [← hflags]
  rfl

theorem Part.stageGet_held {p : Part} {i : Byte} {st : Stage} (h : p.program.stages[i.toNat]? = some st) :
    p.stageGet i = (p, .okWith ([i, byteOf p.program.stages.length] ++ stageBytes st.block)) := by
  simp only [Part.stageGet, h]

theorem Part.stageGet_beyond {p : Part} {i : Byte} (h : p.program.stages[i.toNat]? = none) :
    p.stageGet i = (p, .bare .badValue) := by
  simp only [Part.stageGet, h, Part.refuse]

/-- Settles O17, request by request, each by the fields of its record. -/
theorem readingRequestsAnswer : Obligations.ReadingRequestsAnswer := by
  intro s hl p answered reading
  have hstage (i : Byte) (h : p.program.stages[i.toNat]? = none) (ha : s.admits (.stageGet i)) :
      answered (.stageGet i) ⟨.badValue, []⟩ :=
    exec_reads hl ha (congrArg (State.plain _) (Part.stageGet_beyond h))
  refine ⟨?status, fun ha => ?scale, fun ha => ⟨p.causes, p.causes_iff, ?fault⟩, fun ha => ?capture, fun i ha => ?setting,
    fun a ha => ?node, fun i ha => ?stage, fun i ha he => hstage i (by rw [he]; rfl) ha⟩
  case status => exact exec_reads hl (admits_always rfl rfl) rfl
  case scale => exact exec_readsRecord hl ha rfl p.scaleBytes_eq
  case fault =>
    refine exec_readsRecord hl ha rfl (p.faultBytes_eq.trans ?_)
    cases p.mode.first <;> rfl
  case capture =>
    refine exec_readsRecord hl ha rfl (p.capture.bytes_eq.trans (append_congr rfl ?_))
    cases p.capture.snapshot with
    | none => rfl
    | some x =>
      rw [snapshotBytes, snapshotEntries_eq]
      rfl
  case setting =>
    intro n source
    have hsource : byteOf (sourceCode (p.store.source n)) = source := p.store.source_byte n
    by_cases hn : 34 ≤ n
    · rw [if_pos hn]
      exact exec_reads hl ha (congrArg (State.plain _) (if_pos hn))
    · rw [if_neg hn]
      refine exec_readsRecord hl ha (record := p.store.settingBytes n) (congrArg (State.plain _) (if_neg hn)) ?_
      rw [Store.settingBytes, hsource, byteOf_toNat]
      refine append_congr rfl ?_
      cases p.store.served n <;> rfl
  case node =>
    intro n
    by_cases h : 1 ≤ a.toNat ∧ a.toNat ≤ 12
    · rw [if_pos h]
      refine exec_readsRecord hl ha (record := p.ring.nodeBytes a.toNat) (congrArg (State.plain _) ?_) ?_
      · simp only [Part.nodeGet, addressOf_formed h]; rfl
      · rw [Ring.nodeBytes_eq]
        refine append_congr (append_congr (append_congr (append_congr (append_congr (append_congr (append_congr
          (append_congr rfl ?main) ?alt) ?reference) rfl) rfl) ?identity) ?identScan) rfl
        case main => cases n.main <;> rfl
        case alt => cases n.alt <;> rfl
        case reference => cases n.reference <;> rfl
        case identity => cases n.identity <;> rfl
        case identScan => cases n.identScan <;> rfl
    · rw [if_neg h]
      refine exec_reads hl ha (congrArg (State.plain _) ?_)
      simp only [Part.nodeGet, addressOf_unformed h]; rfl
  case stage =>
    cases hst : p.program.stages[i.toNat]? with
    | none => exact hstage i hst ha
    | some st =>
      refine exec_readsRecord hl ha (congrArg (State.plain _) (Part.stageGet_held hst)) ?_
      rw [Stage.block_bytes, ClimateParams.block_bytes]
      simp only [List.append_assoc]
      refine append_congr rfl (append_congr rfl (append_congr rfl (append_congr rfl (append_congr ?humidity
        (append_congr ?pulse (append_congr ?delta rfl))))))
      case humidity => cases st.params.humidity <;> rfl
      case pulse => cases st.params.pulse <;> rfl
      case delta => cases st.params.delta <;> rfl

end Sys2Proof.Machine
end

section
/-! SUPPORT. The status report (R161, section 12.5): its flag bytes, its codes that may be absent, and its layout. -/

namespace Sys2Proof.Machine

/-- R182: a flag byte with another sum of the same flags in it. -/
theorem some_byteOf_congr {m n : Nat} (h : m = n) : some (byteOf m) = some (byteOf n) := by rw [h]

theorem byteOf_flagBit_zero (c : Prop) [Decidable c] : byteOf (flagBit 0 (decide c)) = if c then 1 else 0 := by
  by_cases h : c <;> simp [h, flagBit, byteOf]

theorem firstFaultByte_eq (o : Option FaultKind) : firstFaultByte o = (match o with
    | some k => byteOf (faultCode k)
    | none => 0xFF) := by cases o <;> rfl

theorem optByte_climateState (o : Option ClimateState) : optByte (o.map climateStateCode) = (match o with
    | some st => byteOf (climateStateCode st)
    | none => 0xFF) := by cases o <;> rfl

/-- Section 12.5: the prompt code is 0 unless the reason is PROMPT. -/
theorem Program.promptByte_of_ne {g : Program} (h : g.reason ≠ some .prompt) : g.promptByte = 0 := by
  simp [Program.promptByte, h]

/-- Section 12.5: a prompt carries the code of the current stage. -/
theorem Program.promptByte_waiting {g : Program} {st : Stage} (hw : g.state = .waiting) (hr : g.reason = some .prompt)
    (hs : g.stages[g.index]? = some st) : g.promptByte = st.promptCode := by
  have hc : g.current = some st := (Program.current_of_runs (by rw [hw]; rfl)).trans hs
  simp [Program.promptByte, hw, hr, hc]

/-- Settles O19, field by field over the list of the bytes: the numbers and codes stand where the layout puts them, a flag
byte is the sum of its flags, and the last byte is the executor's prompt. -/
theorem statusReportLayout : Obligations.StatusReportLayout := by
  intro p n b
  have hb : b = p.statusBytes n := rfl
  simp only [Part.statusBytes, Part.reportHead, Part.reportPower, Ring.reportImage, Part.reportWater, Program.report,
    optIntBytes, intBytes, natBytes, quadBytes, halfBytes, elementWords, List.cons_append, List.nil_append] at hb
  clear_value b
  subst hb
  refine ⟨rfl, rfl, rfl, ?first, ?safety, rfl, ?returnTo, rfl, rfl, ?vent, rfl, rfl, rfl, rfl, rfl, rfl, rfl, rfl, rfl,
    ?curtailed, rfl, rfl, rfl, rfl, rfl, rfl, rfl, rfl, rfl, ?valid, ?state, rfl, rfl, rfl, rfl, rfl, rfl, ?water,
    rfl, rfl, rfl, rfl, rfl, rfl, rfl, rfl, rfl, rfl, fun h => ?idle, fun hw hr st hs => ?prompt⟩
  case first => exact congrArg some (firstFaultByte_eq p.mode.first)
  case returnTo => exact congrArg some (optByte_climateState p.climate.returnTo)
  case vent => exact congrArg some (byteOf_flagBit_zero (p.climate.ventTarget = .closed))
  case idle => exact congrArg some (Program.promptByte_of_ne h)
  case prompt => exact congrArg some (Program.promptByte_waiting hw hr hs)
  case safety => exact some_byteOf_congr (by simp only [flagBit_eq]; ring)
  case curtailed => exact some_byteOf_congr (by simp only [elementBits, flagBit_eq]; ring)
  case valid => exact some_byteOf_congr (by simp only [flagBit_eq]; ring)
  case state => exact some_byteOf_congr (by simp only [flagBit_eq]; ring)
  case water => exact some_byteOf_congr (by simp only [flagBit_eq, Part.steamDelivered]; ring)

end Sys2Proof.Machine
end

section
/-! SUPPORT. How fills and drains begin (R63, R65, R68, R73, R74): the boiler that a fill or a drain starts from, and what the
image in force makes of it. -/

namespace Sys2Proof.Machine

/-! ### Fills (R63, R65, R68) -/

/-- R65: a fill with its purpose and its continuation, before the image is judged. -/
def Part.fillBegun (p : Part) (purpose : Purpose) (next : Continuation) : Part :=
  { p with boiler := { p.boiler.stopTimers .filling with
    purpose := some purpose
    continuation := next
    flow := 0
    fillTimer := .stopped
    fillTimeout := if p.ring.image.lowWet then 20 else 60 } }

/-- R65, R68: with HIGH_WET wet a fill completes at once, with the tank out it pauses at once, else the pump runs. -/
theorem Part.startFill_eq (p : Part) (purpose : Purpose) (next : Continuation) : p.startFill purpose next =
    if p.ring.image.highWet then (p.fillBegun purpose next).fillDone
    else if p.ring.image.tankPresent then (p.fillBegun purpose next).runFill
    else (p.fillBegun purpose next).pauseFill .tankOut := rfl

theorem Part.startFill_runs {p : Part} (hw : p.ring.image.highWet = false) (ht : p.ring.image.tankPresent = true)
    (purpose : Purpose) (next : Continuation) : p.startFill purpose next = (p.fillBegun purpose next).runFill := by
  rw [Part.startFill_eq, hw, ht]; rfl

theorem Part.startFill_pauses {p : Part} (hw : p.ring.image.highWet = false) (ht : p.ring.image.tankPresent = false)
    (purpose : Purpose) (next : Continuation) :
    p.startFill purpose next = (p.fillBegun purpose next).pauseFill .tankOut := by
  rw [Part.startFill_eq, hw, ht]; rfl

/-- R65, R80: the pump runs, and the fill timer starts afresh. -/
theorem Part.runFill_boiler (p : Part) : p.runFill.boiler = { p.boiler with
    state := if p.boiler.purpose = some .topup then .topping else .filling
    fillTimer := Timer.startUnless p.mode.mainsLoss p.boiler.fillTimeout
    pauseReason := none
    tankSeenOut := false } := by
  unfold Part.runFill; dsimp only; split <;> rfl

@[simp] theorem Part.runFill_notice (p : Part) : p.runFill.notice = p.notice := by
  unfold Part.runFill; dsimp only; split <;> rfl

/-- R68: a paused fill. -/
theorem Part.pauseFill_boiler (p : Part) (reason : PauseReason) : (p.pauseFill reason).boiler = { p.boiler with
    state := .fillPaused
    fillTimer := .stopped
    pauseReason := some reason
    tankSeenOut := decide (reason = .tankOut) } := rfl

@[simp] theorem Part.pauseFill_boilerRequest (p : Part) (reason : PauseReason) :
    (p.pauseFill reason).power.boilerRequest = false := rfl

theorem Part.pauseFill_waterNeeded (p : Part) (reason : PauseReason) :
    (p.pauseFill reason).notice.pending.getLsbD (noticePosition .waterNeeded) = true := NoticeUnit.raise_self _ _

theorem Timer.startUnless_running (n : Nat) : Timer.startUnless false n = .running n := rfl

/-! ### Drains (R73, R74) -/

theorem Image.drainCool_iff (i : Image) : i.drainCool = true ↔ ∃ t, i.boilerTemp = some t ∧ t ≤ 850 := by
  unfold Image.drainCool
  cases i.boilerTemp <;> simp

/-- R73: a drain with its purpose and its continuation, before the temperature is judged. -/
def Part.drainBegun (p : Part) (purpose : Purpose) (next : Continuation) : Part :=
  Part.noBoilerRequest { p with boiler := { p.boiler.stopTimers .coolWait with
    purpose := some purpose
    continuation := next
    pauseReason := none
    tankSeenOut := false
    flow := 0 } }

/-- R73: BLOWDOWN and FLUSH drains and a cool boiler drain at once, every other waits. -/
theorem Part.startDrain_eq (p : Part) (purpose : Purpose) (next : Continuation) : p.startDrain purpose next =
    if purpose = .blowdown ∨ purpose = .flush ∨ p.ring.image.drainCool then (p.drainBegun purpose next).enterDraining
    else { p.drainBegun purpose next with boiler := { (p.drainBegun purpose next).boiler with
      state := .coolWait, coolWaitTimer := .running 1200 } } := rfl

/-- R74: LOW_WET wet starts the drain timer, dry the run-on. -/
theorem Part.enterDraining_boiler (p : Part) : p.enterDraining.boiler = { p.boiler.stopTimers .draining with
    state := .draining
    drainTimer := if p.ring.image.lowWet then Timer.startUnless p.mode.mainsLoss 90 else .stopped
    runOnTimer := if p.ring.image.lowWet then p.boiler.runOnTimer else Timer.startUnless p.mode.mainsLoss 10 } := by
  unfold Part.enterDraining
  dsimp only
  split
  · simp [*, Boiler.stopTimers]
  · simp [*, Part.startRunOn]

theorem Part.startDrain_leaves (p : Part) (purpose : Purpose) (next : Continuation) :
    let q := p.startDrain purpose next
    q.boiler.purpose = some purpose ∧ q.boiler.continuation = next ∧ q.boiler.flow = 0
      ∧ q.power.boilerRequest = false ∧ q.boiler.idleDrainTimer = .stopped ∧ q.boiler.levelTimer = .stopped
      ∧ q.boiler.fillTimer = .stopped := by
  dsimp only
  rw [Part.startDrain_eq]
  split
  · simp [Part.enterDraining_boiler, Part.drainBegun, Boiler.stopTimers]
  · exact ⟨rfl, rfl, rfl, rfl, rfl, rfl, rfl⟩

theorem Part.startDrain_waits {p : Part} {purpose : Purpose}
    (h : ¬(purpose = .blowdown ∨ purpose = .flush ∨ ∃ t, p.ring.image.boilerTemp = some t ∧ t ≤ 850))
    (next : Continuation) : (p.startDrain purpose next).boiler.state = .coolWait
      ∧ (p.startDrain purpose next).boiler.coolWaitTimer = .running 1200 := by
  rw [Part.startDrain_eq, if_neg (by rwa [Image.drainCool_iff])]
  exact ⟨rfl, rfl⟩

theorem Part.startDrain_drains {p : Part} {purpose : Purpose}
    (h : purpose = .blowdown ∨ purpose = .flush ∨ ∃ t, p.ring.image.boilerTemp = some t ∧ t ≤ 850)
    (next : Continuation) : p.startDrain purpose next = (p.drainBegun purpose next).enterDraining := by
  rw [Part.startDrain_eq, if_pos (by rwa [Image.drainCool_iff])]

end Sys2Proof.Machine
end

section
/-! SUPPORT. Scan completions in the states of the boiler (R66, R68, R69, R71 to R74), and what follows a completed fill. -/

namespace Sys2Proof.Machine

/-! ### The overheat watch (R72) and a completed fill (R66, R69, R70, R78) -/

theorem Part.overheatWatch_of_temp {p : Part} {t : Int} (h : p.ring.image.boilerTemp = some t) : p.overheatWatch =
    if 1500 ≤ t then
      (if p.boiler.overheat then p else Part.raiseFault { p with boiler.overheat := true } .boilerOverheat)
    else if t < 1400 then { p with boiler.overheat := false } else p := by
  simp [Part.overheatWatch, h]

theorem Part.overheatWatch_of_none {p : Part} (h : p.ring.image.boilerTemp = none) : p.overheatWatch = p := by
  simp [Part.overheatWatch, h]

/-- R66: the volume of a completed fill is kept, and the counter and the fill timer end. -/
def Part.fillMeasured (p : Part) : Part :=
  { p with boiler := { p.boiler with lastFill := p.boiler.flow / 2, flow := 0, fillTimer := .stopped } }

theorem Part.fillDone_topup {p : Part} (h : p.boiler.purpose = some .topup) :
    p.fillDone = (p.fillMeasured.accrue (p.boiler.flow / 2)).boilerSteamOrReady := by
  simp [Part.fillDone, h, Part.fillMeasured]

theorem Part.fillDone_normal {p : Part} (h : p.boiler.purpose = some .normal) :
    p.fillDone = p.fillMeasured.normalFilled := by
  simp [Part.fillDone, h, Part.fillMeasured]

theorem Part.fillDone_directed {p : Part} (h : p.boiler.purpose = some .dose ∨ p.boiler.purpose = some .rinse) :
    p.fillDone = p.fillMeasured.boilerReady.descaleFilled := by
  rcases h with h | h <;> simp [Part.fillDone, h, Part.fillMeasured]

theorem Part.normalFilled_eq (p : Part) : p.normalFilled = match p.boiler.owner with
    | .cooking => p.startHeating 980 (if p.scale.flush then .flushDrain else .none)
    | .none => p.boilerReady
    | .descale => p.startHeating p.boiler.target .report := rfl

theorem Part.maySteam_iff (p : Part) : p.maySteam = true ↔ p.boiler.owner = .cooking ∧ p.climate.steamWanted = true
    ∧ p.scale.lock = false ∧ p.scale.suspended = false ∧ p.ring.image.lowWet = true := by
  simp [Part.maySteam, and_assoc]

/-! ### A completion by the state of the boiler -/

theorem Part.scanBoiler_eq (p : Part) : p.scanBoiler = match p.overheatWatch.boiler.state with
    | .empty => p.overheatWatch
    | .filling => p.overheatWatch.scanFill
    | .fillPaused => p.overheatWatch.scanPaused
    | .heating => p.overheatWatch.scanHeating
    | .ready => p.overheatWatch.scanKeepHot.scanLevel
    | .steaming => p.overheatWatch.scanLevel
    | .topping => p.overheatWatch.scanFill
    | .coolWait => if p.overheatWatch.ring.image.drainCool then p.overheatWatch.enterDraining else p.overheatWatch
    | .draining => p.overheatWatch.scanDraining
    | .fault => p.overheatWatch := rfl

/-- R69: the keep-hot band moves the boiler request alone. -/
theorem Part.scanKeepHot_eq (p : Part) : p.scanKeepHot = { p with power := { p.power with
    boilerRequest := p.scanKeepHot.power.boilerRequest } } := by
  unfold Part.scanKeepHot
  repeat' split
  all_goals rfl

theorem Part.scanKeepHot_dry {p : Part} (ho : p.boiler.owner = .cooking)
    (h : p.ring.image.lowWet = false ∨ p.ring.image.boilerTemp = none) : p.scanKeepHot.power.boilerRequest = false := by
  rcases h with h | h
  · cases ht : p.ring.image.boilerTemp <;> simp [Part.scanKeepHot, ho, h, ht]
  · simp [Part.scanKeepHot, ho, h]

theorem Part.scanKeepHot_wet {p : Part} {t : Int} (ho : p.boiler.owner = .cooking) (hw : p.ring.image.lowWet = true)
    (ht : p.ring.image.boilerTemp = some t) : p.scanKeepHot.power.boilerRequest =
      if 980 ≤ t then false else if t < 950 then true else p.power.boilerRequest := by
  by_cases h : 980 ≤ t
  · simp [Part.scanKeepHot, ho, hw, ht, h]
  · by_cases h' : t < 950 <;> simp [Part.scanKeepHot, ho, hw, ht, h, h']

theorem Part.scanKeepHot_unowned {p : Part} (ho : p.boiler.owner ≠ .cooking) : p.scanKeepHot = p := if_neg ho

/-- R71: a completion moves the level delay timer alone. -/
theorem Part.scanLevel_eq (p : Part) : p.scanLevel = { p with boiler := { p.boiler with
    levelTimer := if p.ring.image.highWet then .stopped
      else if p.levelAllowed ∧ p.boiler.levelTimer = .stopped then .running 5 else p.boiler.levelTimer } } := by
  unfold Part.scanLevel
  by_cases hw : p.ring.image.highWet
  · simp [hw]
  · by_cases ha : p.levelAllowed ∧ p.boiler.levelTimer = .stopped
    · simp [hw, ha.1, ha.2]
    · simp [hw, ha]

theorem Part.levelAllowed_iff {p : Part} (h : p.boiler.state = .ready ∨ p.boiler.state = .steaming) :
    p.levelAllowed = true ↔ p.boiler.owner = .cooking ∧ p.scale.lock = false ∧ p.scale.suspended = false := by
  rcases h with h | h <;> simp [Part.levelAllowed, h, and_assoc]

/-- R69, R71: a completion in READY or STEAMING, for the boiler of the watch and the part after its keep-hot band. -/
theorem Part.scanLevel_rest {b r : Part} (hs : b.boiler.state = .ready ∨ b.boiler.state = .steaming)
    (hr : r = { b with power := { b.power with boilerRequest := r.power.boilerRequest } }) :
    let steamable := b.boiler.owner = .cooking ∧ b.scale.lock = false ∧ b.scale.suspended = false
    let q := r.scanLevel
    q.boiler.state = b.boiler.state ∧ q.notice = b.notice ∧ q.power = r.power
      ∧ (b.ring.image.highWet = true → q.boiler.levelTimer = .stopped)
      ∧ (b.ring.image.highWet = false → steamable → b.boiler.levelTimer = .stopped → q.boiler.levelTimer = .running 5)
      ∧ (b.ring.image.highWet = false → ¬steamable ∨ b.boiler.levelTimer ≠ .stopped →
        q.boiler.levelTimer = b.boiler.levelTimer) := by
  have hb : r.boiler = b.boiler := by rw [hr]
  have hring : r.ring = b.ring := by rw [hr]
  have hscale : r.scale = b.scale := by rw [hr]
  have ha := r.levelAllowed_iff (by rwa [hb])
  rw [hb, hscale] at ha
  dsimp only
  rw [← ha, Part.scanLevel_eq, hring, hb]
  refine ⟨rfl, by rw [hr], rfl, fun hw => if_pos hw, fun hw hsteam ht => ?_, fun hw h => ?_⟩
  · simp [hw, hsteam, ht]
  · dsimp only
    rw [hw, if_neg (by decide), if_neg (by tauto)]

/-- R66, R68: a completion in FILLING or TOPPING. -/
theorem Part.scanFill_cases (b : Part) :
    (b.ring.image.highWet = true → b.scanFill = b.fillDone)
      ∧ (b.ring.image.highWet = false → b.ring.image.tankPresent = true → b.scanFill = b)
      ∧ (b.ring.image.highWet = false → b.ring.image.tankPresent = false → b.scanFill = b.pauseFill .tankOut) := by
  refine ⟨fun hw => if_pos hw, fun hw ht => ?_, fun hw ht => ?_⟩ <;> simp [Part.scanFill, hw, ht]

/-- R68: a completion in FILL_PAUSED. -/
theorem Part.scanPaused_cases (b : Part) :
    (b.ring.image.tankPresent = false → b.scanPaused = { b with boiler.tankSeenOut := true })
      ∧ (b.ring.image.tankPresent = true → b.boiler.tankSeenOut = false → b.scanPaused = b)
      ∧ (b.ring.image.tankPresent = true → b.boiler.tankSeenOut = true → b.ring.image.highWet = true →
        b.scanPaused = b.fillDone)
      ∧ (b.ring.image.tankPresent = true → b.boiler.tankSeenOut = true → b.ring.image.highWet = false →
        b.scanPaused = b.runFill) := by
  refine ⟨fun ht => ?_, fun ht hs => ?_, fun ht hs hw => ?_, fun ht hs hw => ?_⟩
  · simp [Part.scanPaused, ht]
  · simp [Part.scanPaused, ht, hs]
  all_goals simp [Part.scanPaused, ht, hs, hw]

/-- R69: a completion in HEATING; LOW_WET dry comes before the temperature (log entry 57). -/
theorem Part.scanHeating_cases (b : Part) :
    (b.ring.image.lowWet = false → b.scanHeating = Part.startFill { b with power.boilerRequest := false } .normal .heating)
      ∧ (b.ring.image.lowWet = true → b.ring.image.boilerTemp = none →
        b.scanHeating = { b with power.boilerRequest := false })
      ∧ ∀ t, b.ring.image.lowWet = true → b.ring.image.boilerTemp = some t →
        (t < b.boiler.target → b.scanHeating = { b with power.boilerRequest := true })
        ∧ (b.boiler.target ≤ t → b.scanHeating = b.heatingEnd) := by
  refine ⟨fun hl => ?_, fun hl ht => ?_, fun t hl ht => ⟨fun h => ?_, fun h => ?_⟩⟩
  · rw [Part.scanHeating, hl]; rfl
  · simp [Part.scanHeating, hl, ht, Part.noBoilerRequest]
  all_goals simp [Part.scanHeating, hl, ht, h]

/-- R69, R70: what follows the heating in hand, by the owner and the continuation. -/
theorem Part.heatingEnd_cases (b : Part) :
    (b.boiler.owner = .descale → b.heatingEnd = b.boilerReady.descaleHeated)
      ∧ (b.boiler.owner ≠ .descale → b.boiler.continuation = .flushDrain → b.heatingEnd = b.startDrain .flush .refill)
      ∧ (b.boiler.owner ≠ .descale → b.boiler.continuation ≠ .flushDrain →
        let r : Part := { b with power.boilerRequest := false }
        b.heatingEnd = if r.maySteam then r.boilerRest .steaming else r.boilerReady) := by
  refine ⟨fun ho => if_pos ho, fun ho hc => ?_, fun ho hc => ?_⟩ <;> rw [Part.heatingEnd, if_neg ho]
  · rw [if_pos hc]
  · rw [if_neg hc]; rfl

/-- R74: a completion in DRAINING. -/
theorem Part.scanDraining_cases (b : Part) :
    (b.boiler.runOnTimer = .stopped → b.ring.image.lowWet = false → b.scanDraining = b.startRunOn)
      ∧ (b.boiler.runOnTimer ≠ .stopped ∨ b.ring.image.lowWet = true → b.scanDraining = b) := by
  refine ⟨fun ht hl => if_pos ⟨ht, hl⟩, fun h => if_neg fun ⟨ht, hl⟩ => ?_⟩
  rw [hl] at h
  exact h.elim (fun k => k ht) nofun

/-- R65, R68: what the image in force makes of a fill. -/
theorem Part.startFill_fields {p : Part} (purpose : Purpose) (next : Continuation) (hm : p.mode.mainsLoss = false)
    (hw : p.ring.image.highWet = false) :
    let i := p.ring.image
    let q := p.startFill purpose next
    q.boiler.purpose = some purpose ∧ q.boiler.continuation = next ∧ q.boiler.flow = 0
      ∧ q.boiler.fillTimeout = (if i.lowWet then 20 else 60)
      ∧ q.boiler.drainTimer = .stopped ∧ q.boiler.runOnTimer = .stopped ∧ q.boiler.coolWaitTimer = .stopped
      ∧ q.boiler.idleDrainTimer = .stopped ∧ q.boiler.levelTimer = .stopped
      ∧ (i.tankPresent = true → q.boiler.state = (if purpose = .topup then .topping else .filling)
        ∧ q.boiler.fillTimer = .running (if i.lowWet then 20 else 60) ∧ q.notice = p.notice)
      ∧ (i.tankPresent = false → q.boiler.state = .fillPaused ∧ q.boiler.pauseReason = some .tankOut
        ∧ q.boiler.fillTimer = .stopped ∧ q.power.boilerRequest = false
        ∧ q.notice.pending.getLsbD (noticePosition .waterNeeded) = true) := by
  dsimp only
  cases ht : p.ring.image.tankPresent with
  | true =>
    rw [Part.startFill_runs hw ht]
    simp [Part.runFill_boiler, Part.fillBegun, Boiler.stopTimers, hm, Timer.startUnless_running]
  | false =>
    rw [Part.startFill_pauses hw ht]
    simp [Part.pauseFill_boiler, Part.fillBegun, Boiler.stopTimers, Part.pauseFill_waterNeeded]

/-- R73, R74: what the image in force makes of a drain. -/
theorem Part.startDrain_fields {p : Part} (purpose : Purpose) (next : Continuation) (hm : p.mode.mainsLoss = false)
    (hd : purpose = .blowdown ∨ purpose = .flush ∨ ∃ t, p.ring.image.boilerTemp = some t ∧ t ≤ 850) :
    let q := p.startDrain purpose next
    q.boiler.state = .draining ∧ q.boiler.coolWaitTimer = .stopped
      ∧ (p.ring.image.lowWet = true → q.boiler.drainTimer = .running 90)
      ∧ (p.ring.image.lowWet = false → q.boiler.drainTimer = .stopped ∧ q.boiler.runOnTimer = .running 10) := by
  have hmains : (p.drainBegun purpose next).mode.mainsLoss = false := hm
  have hring : (p.drainBegun purpose next).ring = p.ring := rfl
  dsimp only
  rw [Part.startDrain_drains hd, Part.enterDraining_boiler, hmains, hring]
  refine ⟨rfl, rfl, fun hl => ?_, fun hl => ?_⟩ <;> simp [hl, Timer.startUnless_running]

/-- Settles O51: the beginnings by the image, the overheat watch by the temperature, a completed fill by its purpose, and a
completion by the state of the boiler. -/
theorem fillsAndDrainsStart : Obligations.FillsAndDrainsStart := by
  refine ⟨fun p purpose next hm => ⟨Part.startFill_fields purpose next hm, ?drain⟩, fun p => ⟨fun t ht => ?hot, ?cold⟩,
    fun p => ?filled, fun p => ?completion⟩
  case drain =>
    obtain ⟨hpurpose, hnext, hflow, hrequest, hidle, hlevel, hfill⟩ := p.startDrain_leaves purpose next
    exact ⟨hpurpose, hnext, hflow, hrequest, hidle, hlevel, hfill, p.startDrain_notice _ _, p.startDrain_scale _ _,
      fun h => Part.startDrain_waits h next, Part.startDrain_fields purpose next hm⟩
  case hot =>
    rw [Part.overheatWatch_of_temp ht]
    refine ⟨fun h ho => ?_, fun h ho => ?_, fun h => ?_, fun h h' => ?_⟩
    · rw [if_pos h, ho]; rfl
    · rw [if_pos h, ho]; rfl
    · rw [if_neg (by omega), if_pos h]
    · rw [if_neg (by omega), if_neg (by omega)]
  case cold => exact Part.overheatWatch_of_none
  case filled =>
    refine ⟨Part.fillDone_topup, fun h ho => ?_, fun h ho => ?_, fun h ho => ?_, Part.fillDone_directed,
      fun target next => ⟨rfl, rfl, rfl, rfl⟩, p.maySteam_iff⟩
    all_goals rw [Part.fillDone_normal h, Part.normalFilled_eq, show p.fillMeasured.boiler.owner = _ from ho]; rfl
  case completion =>
    dsimp only
    have hq := p.scanBoiler_eq
    generalize p.overheatWatch = b at hq
    refine ⟨?idle, ?filling, ?paused, ?heating, ?rest, ?coolWait, ?draining⟩
    case idle => rintro (h | h) <;> rw [hq, h]
    case filling =>
      intro h
      obtain ⟨hdone, hruns, hpauses⟩ := b.scanFill_cases
      rw [show p.scanBoiler = b.scanFill by rcases h with h | h <;> rw [hq, h]]
      refine ⟨hdone, hruns, fun hw ht => ?_⟩
      rw [hpauses hw ht]
      exact ⟨rfl, rfl, b.pauseFill_waterNeeded _⟩
    case paused =>
      intro h
      obtain ⟨hout, hunseen, hdone, hruns⟩ := b.scanPaused_cases
      rw [show p.scanBoiler = b.scanPaused by rw [hq, h]]
      refine ⟨hout, hunseen, hdone, fun ht hs hw hm => ?_⟩
      rw [hruns ht hs hw, Part.runFill_boiler, hm, Timer.startUnless_running]
    case heating =>
      intro h
      obtain ⟨hdry, hunknown, hwet⟩ := b.scanHeating_cases
      obtain ⟨hdescale, hflush, hrest⟩ := b.heatingEnd_cases
      rw [show p.scanBoiler = b.scanHeating by rw [hq, h]]
      refine ⟨hdry, hunknown, fun t hl ht => ⟨(hwet t hl ht).1, fun hle => ?_⟩⟩
      rw [(hwet t hl ht).2 hle]
      exact ⟨hdescale, hflush, hrest⟩
    case rest =>
      intro h
      by_cases hr : b.boiler.state = .ready
      · rw [show p.scanBoiler = b.scanKeepHot.scanLevel by rw [hq, hr], hr]
        obtain ⟨hstate, hnotice, hpower, hwet, hstarts, hstays⟩ := Part.scanLevel_rest h b.scanKeepHot_eq
        rw [hpower]
        refine ⟨hstate.trans hr, hnotice, hwet, hstarts, hstays, fun _ ho => ⟨Part.scanKeepHot_dry ho, fun t => Part.scanKeepHot_wet ho⟩,
          fun k => ?_⟩
        rw [Part.scanKeepHot_unowned (k.resolve_left (by decide))]
      · have hs := h.resolve_left hr
        rw [show p.scanBoiler = b.scanLevel by rw [hq, hs], hs]
        obtain ⟨hstate, hnotice, hpower, hwet, hstarts, hstays⟩ := Part.scanLevel_rest (r := b) h rfl
        exact ⟨hstate.trans hs, hnotice, hwet, hstarts, hstays, fun k => absurd k (by decide), fun _ => by rw [hpower]⟩
    case coolWait =>
      intro h
      rw [show p.scanBoiler = if b.ring.image.drainCool then b.enterDraining else b by rw [hq, h], ← Image.drainCool_iff]
      exact ⟨fun hc => if_pos hc, fun hc => if_neg hc⟩
    case draining =>
      intro h
      rw [show p.scanBoiler = b.scanDraining by rw [hq, h]]
      exact b.scanDraining_cases

end Sys2Proof.Machine
end

section
/-! SUPPORT. A settlement outside BOUNDARY_WAIT (R91, R128), what a completed drain leaves (R74, R95), and the expiries of the
boiler's timers. -/

namespace Sys2Proof.Machine

/-! ### Settlements outside BOUNDARY_WAIT (R91, R128) -/

/-- R91, R133: the settlement of the request in hand where no executor waits at its boundary: one paused from there keeps it. -/
def Part.settledElsewhere (p : Part) (how : Settlement) : Part := { p with
  scale.inHand := false
  program.settlement := if p.scale.inHand && p.program.pausedAtBoundary then some how else p.program.settlement }

theorem Part.settleBlowdown_elsewhere {p : Part} (h : p.program.state ≠ .boundaryWait) (how : Settlement) :
    p.settleBlowdown how = p.settledElsewhere how := by
  unfold Part.settleBlowdown Part.settledElsewhere Part.tellExecutor
  cases hi : p.scale.inHand with
  | false => rw [if_neg (by decide), Bool.false_and, if_neg (by decide), ← hi]
  | true => cases hp : p.program.pausedAtBoundary <;> simp [h]

/-! ### Drains completed (R74, R95) -/

/-- R74, R90: a completed drain changes the scale record and the write queue alone. -/
theorem Part.scaleDrained_leaves (p : Part) (purpose : Option Purpose) :
    let q := p.scaleDrained purpose
    q.boiler = p.boiler ∧ q.climate = p.climate ∧ q.ring = p.ring ∧ q.program = p.program ∧ q.power = p.power
      ∧ q.descale = p.descale ∧ q.notice = p.notice := by
  have howing (b q : Part) : (b.queueIfOwing q).queueScale.boiler = q.boiler
      ∧ (b.queueIfOwing q).queueScale.climate = q.climate ∧ (b.queueIfOwing q).queueScale.ring = q.ring
      ∧ (b.queueIfOwing q).queueScale.program = q.program ∧ (b.queueIfOwing q).queueScale.power = q.power
      ∧ (b.queueIfOwing q).queueScale.descale = q.descale ∧ (b.queueIfOwing q).queueScale.notice = q.notice := by
    unfold Part.queueIfOwing; split <;> exact ⟨rfl, rfl, rfl, rfl, rfl, rfl, rfl⟩
  have hpull : ∃ u, p.pullIn = { p with scale := u } := by
    unfold Part.pullIn; repeat' split
    exacts [⟨_, rfl⟩, ⟨_, rfl⟩, ⟨p.scale, rfl⟩]
  obtain ⟨u, hu⟩ := hpull
  unfold Part.scaleDrained
  split
  · rw [hu]; exact howing _ _
  all_goals exact howing _ _

/-- R90: what a completed drain leaves of the deposit, and its record in the store. -/
theorem Part.scaleDrained_load (p : Part) (purpose : Option Purpose) :
    let q := p.scaleDrained purpose
    q.scale.load = p.scale.load ∧ q.scale.remainder = p.scale.remainder
      ∧ q.store.served 14 = .scale p.scale.load p.scale.remainder := by
  have howing (b q : Part) (hl : q.scale.load = p.scale.load) (hr : q.scale.remainder = p.scale.remainder) :
      (b.queueIfOwing q).queueScale.scale.load = p.scale.load
        ∧ (b.queueIfOwing q).queueScale.scale.remainder = p.scale.remainder
        ∧ (b.queueIfOwing q).queueScale.store.served 14 = .scale p.scale.load p.scale.remainder := by
    have hs : (b.queueIfOwing q).scale = q.scale := by unfold Part.queueIfOwing; split <;> rfl
    refine ⟨(congrArg Scale.load hs).trans hl, (congrArg Scale.remainder hs).trans hr, ?_⟩
    rw [Part.queueScale, Part.queueItem_store, Store.enqueue_served_self, hs, hl, hr]
  have hpull : p.pullIn.scale.load = p.scale.load ∧ p.pullIn.scale.remainder = p.scale.remainder := by
    unfold Part.pullIn; repeat' split
    all_goals exact ⟨rfl, rfl⟩
  unfold Part.scaleDrained
  split
  · exact howing _ _ hpull.1 hpull.2
  all_goals exact howing _ _ rfl rfl

/-- R91, R95: a completed BLOWDOWN drain repays one owed blowdown. -/
theorem Part.scaleDrained_owed (p : Part) : (p.scaleDrained (some .blowdown)).scale.owed = p.scale.owed - 1 := by
  unfold Part.scaleDrained Part.queueIfOwing
  dsimp only
  split <;> rfl

/-- R66, R91: a NORMAL fill of the owner COOKING leaves the blowdown in flight and what is owed as they are. -/
theorem Part.startFill_cooking {p : Part} (ho : p.boiler.owner = .cooking) (next : Continuation) :
    (p.startFill .normal next).boiler.inFlight = p.boiler.inFlight
      ∧ (p.startFill .normal next).scale.owed = p.scale.owed := by
  cases hw : p.ring.image.highWet with
  | true =>
    have hdone : p.startFill .normal next = (p.fillBegun .normal next).fillMeasured.normalFilled := by
      rw [Part.startFill_eq, if_pos hw, Part.fillDone_normal rfl]
    rw [hdone, Part.normalFilled_eq, show (p.fillBegun .normal next).fillMeasured.boiler.owner = _ from ho]
    exact ⟨rfl, rfl⟩
  | false =>
    cases ht : p.ring.image.tankPresent with
    | true => rw [Part.startFill_runs hw ht]; exact ⟨rfl, rfl⟩
    | false => rw [Part.startFill_pauses hw ht]; exact ⟨rfl, rfl⟩

/-- R65, R68: a NORMAL fill begins in FILLING, or with the tank out in FILL_PAUSED. -/
theorem Part.startFill_normal {p : Part} (hw : p.ring.image.highWet = false) (next : Continuation) :
    let q := p.startFill .normal next
    q.boiler.purpose = some .normal ∧ q.boiler.continuation = next
      ∧ (q.boiler.state = .filling ∨ q.boiler.state = .fillPaused) := by
  cases ht : p.ring.image.tankPresent with
  | true => rw [Part.startFill_runs hw ht]; exact ⟨rfl, rfl, .inl rfl⟩
  | false => rw [Part.startFill_pauses hw ht]; exact ⟨rfl, rfl, .inr rfl⟩

/-- R91: a blowdown has drained to EMPTY and repaid what it owes, before its request is settled. -/
def Part.blowdownDrained (p : Part) : Part :=
  let q := p.boilerEmpty.scaleDrained (some .blowdown)
  { q with boiler.inFlight := false }

theorem Part.blowdownDrained_leaves (p : Part) :
    p.blowdownDrained.boiler = { p.boilerEmpty.boiler with inFlight := false }
      ∧ p.blowdownDrained.climate = p.climate ∧ p.blowdownDrained.ring = p.ring
      ∧ p.blowdownDrained.program = p.program ∧ p.blowdownDrained.scale.owed = p.scale.owed - 1 := by
  obtain ⟨hb, hc, hr, hg, -⟩ := p.boilerEmpty.scaleDrained_leaves (some .blowdown)
  exact ⟨by rw [← hb]; rfl, hc, hr, hg, p.boilerEmpty.scaleDrained_owed⟩

/-- R77, R95: with steam in use and no executor at its boundary, a completed blowdown refills for the reheat. -/
theorem Part.drainDone_blowdown {p : Part} (hp : p.boiler.purpose = some .blowdown)
    (hn : p.boiler.continuation = .refill) (ho : p.boiler.owner = .cooking) (hu : p.climate.usesSteam = true)
    (hs : p.program.state ≠ .boundaryWait) :
    p.drainDone = (p.blowdownDrained.settledElsewhere .completed).startFill .normal .reheat := by
  obtain ⟨hb, hc, -, hg, -⟩ := p.blowdownDrained_leaves
  have howner : (p.blowdownDrained.settledElsewhere .completed).boiler.owner = .cooking :=
    (congrArg Boiler.owner hb).trans ho
  have hwanted : (p.blowdownDrained.settledElsewhere .completed).ownerWanted = .cooking := by
    have husesSteam : (p.blowdownDrained.settledElsewhere .completed).climate.usesSteam = true :=
      (congrArg Climate.usesSteam hc).trans hu
    simp [Part.ownerWanted, howner, husesSteam]
  have hdone : p.drainDone =
      (p.blowdownDrained.settleBlowdown .completed).followOwner.afterDrain (some .blowdown) .refill := by
    rw [Part.drainDone, hp, hn]; rfl
  rw [hdone, Part.settleBlowdown_elsewhere (by rwa [hg]), Part.followOwner, if_pos (hwanted.trans howner.symm),
    Part.afterDrain, if_neg (by rw [howner]; decide), if_pos ⟨howner, rfl⟩, if_pos rfl]

/-- R74: a completed NORMAL drain of no owner leaves the boiler EMPTY. -/
theorem Part.drainDone_unowned {p : Part} (hp : p.boiler.purpose = some .normal) (ho : p.boiler.owner = .none) :
    p.drainDone = p.boilerEmpty.scaleDrained (some .normal) := by
  obtain ⟨hb, -⟩ := p.boilerEmpty.scaleDrained_leaves (some .normal)
  have howner : (p.boilerEmpty.scaleDrained (some .normal)).boiler.owner = .none := (congrArg Boiler.owner hb).trans ho
  rw [Part.drainDone, hp]
  dsimp only
  rw [if_neg (by decide), Part.afterDrain, if_neg (by rw [howner]; decide), if_neg (by rw [howner]; simp)]

/-! ### Expiries -/

theorem Part.noFlow_iff (p : Part) : p.noFlow = true ↔
    p.boiler.flow = 0 ∧ p.ring.image.tankPresent = true ∧ p.ring.image.tankLow = false := by
  simp [Part.noFlow, and_assoc]

/-- R67: the fill timer expires while it runs in FILLING or TOPPING. -/
theorem Part.fillTimeout_running {p : Part} {n : Nat} (ht : p.boiler.fillTimer = .running n)
    (hs : p.boiler.state = .filling ∨ p.boiler.state = .topping) : p.fillTimeout =
      if p.noFlow then p.raiseFault .fillFault
      else if p.boiler.purpose = some .dose then p.boilerEndFill.descaleDoseTimeout else p.pauseFill .noWater := by
  rcases hs with hs | hs <;> simp [Part.fillTimeout, ht, hs]

/-- Settles O52, timer by timer: an expiry acts where the timer runs in its state, and a completed drain by its purpose. -/
theorem boilerTimersExpire : Obligations.BoilerTimersExpire := by
  intro s n
  refine ⟨fun ht hs => ⟨fun hd => ?dry, fun hd hp => ?dose, fun hd hp => ?noWater⟩, fun ht hs => ?drain,
    fun ht hs => ⟨?runOn, fun hp hn ho hu hg => ?blowdown, fun hp ho => ?normal⟩, fun ht hs => ⟨?coolWait, ?drains⟩,
    fun ht hs => ?idle, fun ht hs => ?level⟩
  case dry =>
    refine next_settled ?_
    rw [Part.fillTimeout_running ht hs, if_pos ((Part.noFlow_iff _).2 hd)]
  case dose =>
    refine next_settled ?_
    rw [Part.fillTimeout_running ht hs, if_neg ((Part.noFlow_iff _).not.2 hd), if_pos hp]
  case noWater =>
    refine next_settled ?_
    rw [Part.fillTimeout_running ht hs, if_neg ((Part.noFlow_iff _).not.2 hd), if_neg hp]
    rfl
  case drain => exact next_settled (by simp [Part.drainTimeout, ht, hs])
  case runOn => exact next_settled (by simp [Part.runOnDone, ht, hs])
  case blowdown =>
    obtain ⟨hb, -, hr, -, howed⟩ := s.part.blowdownDrained_leaves
    have howner : (s.part.blowdownDrained.settledElsewhere .completed).boiler.owner = .cooking :=
      (congrArg Boiler.owner hb).trans ho
    dsimp only
    rw [Part.drainDone_blowdown hp hn ho hu hg]
    obtain ⟨hflight, howing⟩ := Part.startFill_cooking howner .reheat
    refine ⟨hflight.trans (congrArg Boiler.inFlight hb), howing.trans howed, fun hw => ?_⟩
    have hdry : (s.part.blowdownDrained.settledElsewhere .completed).ring.image.highWet = false :=
      (congrArg (fun r : Ring => r.image.highWet) hr).trans hw
    exact Part.startFill_normal hdry .reheat
  case normal =>
    obtain ⟨hb, -, -, -, hpower, -⟩ := s.part.boilerEmpty.scaleDrained_leaves (some .normal)
    obtain ⟨hload, -, hserved⟩ := s.part.boilerEmpty.scaleDrained_load (some .normal)
    dsimp only
    rw [Part.drainDone_unowned hp ho, hb, hpower]
    exact ⟨rfl, rfl, rfl, rfl, hload, hserved⟩
  case coolWait => exact next_settled (by simp [Part.coolWaitDone, ht, hs])
  case drains => rw [Part.enterDraining_boiler]
  case idle => exact next_settled (by simp [Part.idleDrain, ht, hs])
  case level => exact next_settled (by rcases hs with hs | hs <;> simp [Part.levelDelayDone, ht, hs])

end Sys2Proof.Machine
end

section
/-! SUPPORT. Requests whose effect other blocks follow (R156, R157), and the mode requests (R140 to R142, R145). -/

namespace Sys2Proof.Machine

/-! ### Requests that act -/

/-- R157: an admitted request that its owner carries out answers with a bare code, and the reactions follow. -/
theorem exec_accepts {s : State} {q : Request} {p : Part} {r : Part × Reply} {c : ResultCode} (h : s.listening)
    (ha : s.admits q) (hserve : (s.taken q).serve q = (s.taken q).acting r) (hr : r = (p, ⟨c, []⟩))
    (hc : carriedOut c = true) : exec q.command s = .next (s.carried q ⟨c, []⟩ p) :=
  exec_carried h ha (hserve.trans (congrArg _ hr)) hc

/-- R157: an admitted request that its owner refuses changes nothing but its reply. -/
theorem exec_declines {s : State} {q : Request} {p : Part} {r : Part × Reply} {c : ResultCode} (h : s.listening)
    (ha : s.admits q) (hserve : (s.taken q).serve q = (s.taken q).acting r) (hr : r = (p, ⟨c, []⟩))
    (hc : carriedOut c = false) : exec q.command s = .next (s.replied q ⟨c, []⟩) :=
  exec_declined h ha (hserve.trans (congrArg _ hr)) hc

theorem carriedOut_clamped (c : Prop) [Decidable c] : carriedOut (if c then .clamped else .ok) = true := by
  split <;> rfl

theorem carriedOut_ok (c : Prop) [Decidable c] : carriedOut (if c then .ok else .clamped) = true := by
  split <;> rfl

/-! ### Modes (R137) -/

theorem Part.setMode_mode (p : Part) (m : OpMode) : (p.setMode m).mode = { p.mode with mode := m } := by
  unfold Part.setMode; dsimp only; repeat' split
  all_goals rfl

/-- R160: between modes in which reports are allowed the report timer goes on. -/
theorem Part.setMode_reporting {p : Part} {m : OpMode} (hm : m.reports = true) (hp : p.mode.mode.reports = true) :
    p.setMode m = { p with mode.mode := m } := by
  simp [Part.setMode, hm, hp]

/-- R160: in a mode without reports the report timer has stopped and no report is pending. -/
theorem Part.setMode_silent {m : OpMode} (hm : m.reports = false) (p : Part) :
    p.setMode m = { p with mode.mode := m, report := p.report.halt } := by
  simp [Part.setMode, hm]

/-! ### HOLD (R140, R141) -/

theorem Part.writeClimate_params (p : Part) (c : ClimateParams) : (p.writeClimate c).climate.params = some c := by
  unfold Part.writeClimate
  split
  · exact (p.updateClimate_leaves c).1
  · exact (p.startCooking_leaves c).2.1

theorem Store.groupMax_hotAir (t : Store) : t.groupMax .hotAir = t.num 4 := rfl

/-- R140 checks 1 to 3. -/
theorem Part.holdRefusal_eq (p : Part) : p.holdRefusal =
    if p.program.state ∈ [.running, .waiting, .paused, .boundaryWait] ∨ p.descale.phase ≠ .idle ∨ p.store.num 4 = 0
    then some .refusedState else none := by
  simp only [← ProgramState.runs_iff, Part.holdRefusal, Store.groupMax_hotAir]
  split_ifs <;> simp_all

/-- R140: the checks, and the clamped setpoint. -/
theorem Part.holdEnter_eq (p : Part) (setpoint : Half) {moist : Byte} (hf : moist.toNat ≤ 1) :
    p.holdEnter setpoint moist =
      if p.program.state ∈ [.running, .waiting, .paused, .boundaryWait] ∨ p.descale.phase ≠ .idle ∨ p.store.num 4 = 0
      then (p, ⟨.refusedState, []⟩)
      else (p.enterHold (max 600 (min 900 setpoint.toInt)) (decide (moist = 1)),
        ⟨if max 600 (min 900 setpoint.toInt) = setpoint.toInt then .ok else .clamped, []⟩) := by
  have hclamp : clampInt 600 900 setpoint.toInt = max 600 (min 900 setpoint.toInt) := clampInt_eq _ _ _ (by decide)
  rw [Part.holdEnter, flagOf_formed hf, Part.holdRefusal_eq]
  by_cases hb : p.program.state ∈ [.running, .waiting, .paused, .boundaryWait] ∨ p.descale.phase ≠ .idle
      ∨ p.store.num 4 = 0
  · rw [if_pos hb, if_pos hb]; rfl
  · rw [if_neg hb, if_neg hb]
    dsimp only
    rw [hclamp]
    by_cases hs : max 600 (min 900 setpoint.toInt) = setpoint.toInt <;> simp [hs, okOrClamped, Reply.bare]

theorem Part.holdEnter_unformed (p : Part) (setpoint : Half) {moist : Byte} (hf : 1 < moist.toNat) :
    p.holdEnter setpoint moist = (p, ⟨.badValue, []⟩) := by
  rw [Part.holdEnter, flagOf_unformed (by omega)]; rfl

/-- R140, R160: entry to HOLD. -/
theorem Part.enterHold_leaves (p : Part) (setpoint : Int) (moist : Bool) :
    let r := p.enterHold setpoint moist
    r.mode.mode = .hold ∧ r.mode.holdSetpoint = some setpoint ∧ r.mode.holdMoist = moist
      ∧ r.mode.holdTimer = .running (p.store.num 18 * 60) ∧ r.report.timer = .stopped ∧ r.report.pending = false
      ∧ r.climate.params = some (holdClimate setpoint moist) := by
  dsimp only
  rw [Part.enterHold, Part.setMode_silent rfl]
  exact ⟨rfl, rfl, rfl, rfl, rfl, rfl, p.writeClimate_params _⟩

/-- R141: the end of the hold. -/
theorem Part.endHold_mode (p : Part) : p.endHold.mode = { p.mode with
    mode := .active, holdTimer := .stopped, holdSetpoint := none, holdMoist := false } := by
  rw [Part.endHold, Part.endCooking_mode, Part.setMode_mode]
  rfl

@[simp] theorem Part.endHold_boiler (p : Part) : p.endHold.boiler = p.boiler := by simp [Part.endHold]
@[simp] theorem Part.endHold_ring (p : Part) : p.endHold.ring = p.ring := by simp [Part.endHold]

theorem Part.refuseWaiting_idle {p : Part} (h : p.boiler.waiting = false) : p.refuseWaiting = p := by
  simp [Part.refuseWaiting, h]

theorem Part.blowdownRefill_iff (p : Part) : p.blowdownRefill = true ↔
    p.boiler.state ∈ [.filling, .fillPaused] ∧ p.boiler.owner = .cooking ∧ p.boiler.continuation = .reheat := by
  simp [Part.blowdownRefill, and_assoc]

theorem Part.boilerEndFill_state (p : Part) :
    p.boilerEndFill.boiler.state = if p.ring.image.lowWet then .ready else .empty := by
  unfold Part.boilerEndFill; split <;> rfl

theorem Part.boilerReady_state (p : Part) : p.boilerReady.boiler.state = .ready := by
  unfold Part.boilerReady; dsimp only; split <;> rfl

/-- R66, R68: a NORMAL fill leaves the boiler filling, paused, heating or READY. -/
theorem Part.normalFill_state (p : Part) : p.normalFill.boiler.state ∈ [.filling, .fillPaused, .heating, .ready] := by
  cases hw : p.ring.image.highWet with
  | false =>
    obtain ⟨-, -, h | h⟩ := Part.startFill_normal hw .heating <;> simp [Part.normalFill, h]
  | true =>
    rw [Part.normalFill, Part.startFill_eq, if_pos hw, Part.fillDone_normal rfl, Part.normalFilled_eq]
    split
    · simp [Part.startHeating]
    · simp [Part.boilerReady_state]
    · simp [Part.startHeating]

/-- R141: what a fill or the heating after it leaves at the end of the hold. -/
theorem Part.endRefill_state {p : Part} (h : p.boiler.state ∈ [.filling, .fillPaused, .heating, .ready]) :
    p.endRefill.boiler.state = if p.ring.image.lowWet then .ready else .empty := by
  have hend : p.endRefill = p.boilerEndFill := by
    simp only [List.mem_cons, List.not_mem_nil, or_false] at h
    rcases h with h | h | h | h <;> simp [Part.endRefill, h]
  rw [hend, Part.boilerEndFill_state]

theorem Part.holdExit_unformed (p : Part) {flag : Byte} (hf : 1 < flag.toNat) :
    p.holdExit flag = (p, ⟨.badValue, []⟩) := by
  rw [Part.holdExit, flagOf_unformed (by omega)]; rfl

/-- R77, R95, R141: HOLD_EXIT by the blowdown in hand. -/
theorem Part.holdExit_eq (p : Part) {flag : Byte} (hf : flag.toNat ≤ 1) : p.holdExit flag =
    if p.mode.mode = .hold then
      (if flag = 1 ∧ p.boiler.inFlight = true then p.abandonBlowdown.endHold.endRefill
        else if p.boiler.state ∈ [.filling, .fillPaused] ∧ p.boiler.owner = .cooking
          ∧ p.boiler.continuation = .reheat then p.endHold.refillRunsOn
        else p.endHold, ⟨.ok, []⟩)
    else (p, ⟨.refusedState, []⟩) := by
  rw [Part.holdExit, flagOf_formed hf]
  simp only [Part.blowdownRefill_iff, Bool.and_eq_true, decide_eq_true_eq]
  rfl

theorem Part.abandonBlowdown_ring (p : Part) : p.abandonBlowdown.ring = p.ring :=
  Part.ring_of_fixed (Part.abandonBlowdown_keeps (.refl p)).fixed

/-! ### STANDBY_ENTER (R142) and STOP (R145) -/

theorem Part.standbyRefusal_barred {p : Part} (h : p.descale.phase ≠ .idle
    ∨ p.climate.state ∈ [.preheat, .regulate, .doorPause]
    ∨ p.program.state ∈ [.running, .waiting, .paused, .boundaryWait]) : p.standbyRefusal = some .refusedState := by
  simp only [← ClimateState.cooking_iff, ← ProgramState.runs_iff] at h
  rcases h with h | h | h <;> simp [Part.standbyRefusal, h]

/-- R142: with no procedure, no cooking and no program the boiler decides. -/
theorem Part.standbyRefusal_open {p : Part} (hd : p.descale.phase = .idle)
    (hc : p.climate.state ∉ [.preheat, .regulate, .doorPause])
    (hg : p.program.state ∉ [.running, .waiting, .paused, .boundaryWait]) :
    (p.boiler.state ∈ [.filling, .topping] → p.standbyRefusal = some .busy)
      ∧ (p.boiler.state ∈ [.fillPaused, .heating, .steaming, .fault] → p.standbyRefusal = some .refusedState)
      ∧ (p.boiler.state ∈ [.empty, .ready, .coolWait, .draining] → p.standbyRefusal = none) := by
  rw [← ClimateState.cooking_iff] at hc
  rw [← ProgramState.runs_iff] at hg
  simp only [Part.standbyRefusal, hd, hc, hg]
  cases p.boiler.state <;> decide

theorem Part.standbyEnter_refused {p : Part} {c : ResultCode} (h : p.standbyRefusal = some c) :
    p.standbyEnter = (p, ⟨c, []⟩) := by
  rw [Part.standbyEnter, h]; rfl

theorem Part.standbyEnter_active {p : Part} (h : p.standbyRefusal = none) (hm : p.mode.mode = .active) :
    p.standbyEnter = ({ p with mode.mode := .standbyPending }, ⟨.ok, []⟩) := by
  rw [Part.standbyEnter, h]
  dsimp only
  rw [Part.setMode_reporting rfl (by rw [hm]; rfl)]
  rfl

/-- R145: STOP by the mode. -/
theorem Part.stopRequest_eq (p : Part) :
    (p.mode.mode = .active → p.stopRequest =
      (((if p.program.state ∈ [.running, .waiting, .paused, .boundaryWait] then p.abortProgram
        else p.endCooking).descaleAbort.1).stopBoiler, ⟨.ok, []⟩))
    ∧ (p.mode.mode = .hold → p.stopRequest = (p.endHold.stopBoiler, ⟨.ok, []⟩))
    ∧ (p.mode.mode = .standbyPending → p.stopRequest = (Part.stopBoiler { p with mode.mode := .active }, ⟨.ok, []⟩))
    ∧ (p.mode.mode = .safeStop → p.stopRequest = ((p.descaleAbort.1).stopBoiler, ⟨.ok, []⟩)) := by
  refine ⟨fun hm => ?_, fun hm => ?_, fun hm => ?_, fun hm => ?_⟩ <;> rw [Part.stopRequest, Part.stopped, hm]
  · simp only [ProgramState.runs_iff]; rfl
  · rfl
  · dsimp only
    rw [Part.setMode_reporting rfl (by rw [hm]; rfl)]
    rfl
  · rfl

/-- Settles O57, request by request: each answers by its checks in their order, and what it carries out is the owner's
effect. -/
theorem modeRequests : Obligations.ModeRequests := by
  intro s
  refine ⟨fun setpoint moist hl ha => ?holdEnter, fun flag hl ha => ?holdExit, fun n ht hm => ?holdTimer,
    fun hl ha => ?standby, fun hl ha => ?stop⟩
  case holdEnter =>
    refine ⟨fun hf => ?_, fun hf hb => ?_, fun hf hb => ?_⟩
    · exact exec_declines hl ha rfl (Part.holdEnter_unformed _ _ hf) rfl
    · exact exec_declines hl ha rfl ((Part.holdEnter_eq _ _ hf).trans (if_pos hb)) rfl
    · obtain ⟨hmode, hset, hmoist, htimer, hreport, hpending, hparams⟩ :=
        s.part.enterHold_leaves (max 600 (min 900 setpoint.toInt)) (decide (moist = 1))
      refine ⟨_, exec_accepts hl ha rfl ((Part.holdEnter_eq _ _ hf).trans (if_neg hb)) (carriedOut_ok _), hmode, hset,
        hmoist, htimer, hreport, hpending, ?_⟩
      refine hparams.trans ?_
      by_cases h : moist = 1 <;> simp [holdClimate, h]
  case holdExit =>
    refine ⟨fun hf => ?_, fun hf hm => ?_, fun hf hm => ⟨?_, fun _ hw => ?_, ?_, ?_⟩⟩
    · exact exec_declines hl ha rfl (Part.holdExit_unformed _ hf) rfl
    · exact exec_declines hl ha rfl ((Part.holdExit_eq _ hf).trans (if_neg hm)) rfl
    · exact exec_accepts hl ha rfl ((Part.holdExit_eq _ hf).trans (if_pos hm)) rfl
    · have hidle : s.part.endHold.boiler.waiting = false := by rwa [Part.endHold_boiler]
      refine (Part.refuseWaiting_idle ?_).trans ?_
      · exact hidle
      · rw [← s.part.endHold_boiler]
    · have hstate : s.part.abandonBlowdown.endHold.boiler.state ∈ [.filling, .fillPaused, .heating, .ready] := by
        rw [Part.endHold_boiler]; exact Part.normalFill_state _
      rw [Part.endRefill_state hstate, Part.endHold_ring, Part.abandonBlowdown_ring]
    · rw [Part.endHold_mode]
      exact ⟨rfl, rfl, rfl⟩
  case holdTimer => exact next_settled (by simp [Part.holdExpiry, ht, hm])
  case standby =>
    refine ⟨fun hb => ?_, fun hd hc hg => ?_⟩
    · exact exec_declines hl ha rfl (Part.standbyEnter_refused (Part.standbyRefusal_barred hb)) rfl
    · obtain ⟨hbusy, hrefused, hopen⟩ := Part.standbyRefusal_open hd hc hg
      exact ⟨fun hb => exec_declines hl ha rfl (Part.standbyEnter_refused (hbusy hb)) rfl,
        fun hb => exec_declines hl ha rfl (Part.standbyEnter_refused (hrefused hb)) rfl,
        fun hb hm => exec_accepts hl ha rfl (Part.standbyEnter_active (hopen hb) hm) rfl⟩
  case stop =>
    obtain ⟨hactive, hhold, hpending, hsafe⟩ := s.part.stopRequest_eq
    exact ⟨fun hm => exec_accepts hl ha rfl (hactive hm) rfl, fun hm => exec_accepts hl ha rfl (hhold hm) rfl,
      fun hm => exec_accepts hl ha rfl (hpending hm) rfl, fun hm => exec_accepts hl ha rfl (hsafe hm) rfl⟩

end Sys2Proof.Machine
end

section
/-! SUPPORT. BOILER_DRAIN (R75), the requests of the descale sequencer (R102, R104, R111), the drains that it directs (R100),
and the water step of the start-up (R82, R114). -/

namespace Sys2Proof.Machine

/-! ### BOILER_DRAIN (R75) -/

theorem Part.boilerDrain_refused {p : Part} (h : p.boiler.owner ≠ .none ∨ p.boiler.state = .fault) :
    p.boilerDrain = (p, ⟨.refusedState, []⟩) := by
  by_cases ho : p.boiler.owner = .none
  · rw [Part.boilerDrain, if_neg (not_not.2 ho), h.resolve_left (not_not.2 ho)]; rfl
  · exact if_pos ho

/-- R75: with owner NONE the boiler's state decides. -/
theorem Part.boilerDrain_unowned {p : Part} (ho : p.boiler.owner = .none) :
    (p.boiler.state = .ready → p.boilerDrain = (p.startDrain .normal .none, ⟨.ok, []⟩))
      ∧ (p.boiler.state ∈ [.empty, .coolWait, .draining] → p.boilerDrain = (p, ⟨.ok, []⟩))
      ∧ (p.boiler.state ∈ [.filling, .fillPaused, .topping] → p.boilerDrain = (p, ⟨.busy, []⟩)) := by
  have hopen : p.boilerDrain = _ := if_neg (not_not.2 ho)
  refine ⟨fun hs => ?_, fun hs => ?_, fun hs => ?_⟩
  · rw [hopen, hs]; rfl
  all_goals
    simp only [List.mem_cons, List.not_mem_nil, or_false] at hs
    rcases hs with hs | hs | hs <;> rw [hopen, hs] <;> rfl

/-! ### DESCALE_START and DESCALE_CONFIRM (R102, R104) -/

theorem Part.descaleRefusal_barred {p : Part} (h : p.climate.state ∈ [.preheat, .regulate, .doorPause]
    ∨ p.program.state ∈ [.running, .waiting, .paused, .boundaryWait]) : p.descaleRefusal = some .refusedState := by
  simp only [← ClimateState.cooking_iff, ← ProgramState.runs_iff] at h
  rcases h with h | h <;> simp [Part.descaleRefusal, h]

/-- R102: with no cooking and no program the boiler decides. -/
theorem Part.descaleRefusal_open {p : Part} (hc : p.climate.state ∉ [.preheat, .regulate, .doorPause])
    (hg : p.program.state ∉ [.running, .waiting, .paused, .boundaryWait]) :
    (p.boiler.state ∈ [.filling, .topping, .coolWait, .draining] → p.descaleRefusal = some .busy)
      ∧ (p.boiler.state ∉ [.filling, .topping, .coolWait, .draining] → p.boiler.state ∉ [.empty, .ready] →
        p.descaleRefusal = some .refusedState)
      ∧ (p.boiler.state ∈ [.empty, .ready] → p.descaleRefusal = none) := by
  rw [← ClimateState.cooking_iff] at hc
  rw [← ProgramState.runs_iff] at hg
  simp only [Part.descaleRefusal, hc, hg]
  cases p.boiler.state <;> decide

theorem Part.descaleStart_unformed (p : Part) {presence : Byte} (minutes : Byte) (hf : 1 < presence.toNat) :
    p.descaleStart presence minutes = (p, ⟨.badValue, []⟩) := by
  rw [Part.descaleStart, flagOf_unformed (by omega)]; rfl

theorem Part.descaleStart_working {p : Part} {presence : Byte} (minutes : Byte) (hf : presence.toNat ≤ 1)
    (h : p.descale.phase ≠ .idle) : p.descaleStart presence minutes = (p, ⟨.refusedState, []⟩) := by
  rw [Part.descaleStart, flagOf_formed hf]
  exact if_pos h

theorem Part.descaleStart_refused {p : Part} {presence : Byte} {c : ResultCode} (minutes : Byte)
    (hf : presence.toNat ≤ 1) (hd : p.descale.phase = .idle) (h : p.descaleRefusal = some c) :
    p.descaleStart presence minutes = (p, ⟨c, []⟩) := by
  rw [Part.descaleStart, flagOf_formed hf]
  dsimp only
  rw [if_neg (not_not.2 hd), h]
  rfl

/-- R102: the accepted start, with the soak time clamped. -/
theorem Part.descaleStart_accepted {p : Part} {presence : Byte} (minutes : Byte) (hf : presence.toNat ≤ 1)
    (hd : p.descale.phase = .idle) (h : p.descaleRefusal = none) :
    let soak := if presence = 1 then max 10 (min 60 minutes.toNat) else 30
    p.descaleStart presence minutes =
      (p.beginDescale soak, ⟨if presence = 1 ∧ soak ≠ minutes.toNat then .clamped else .ok, []⟩) := by
  dsimp only
  rw [Part.descaleStart, flagOf_formed hf]
  dsimp only
  rw [if_neg (not_not.2 hd), h, clampNat_eq 10 60 _ (by decide)]
  simp [okOrClamped, Reply.bare]

theorem Part.descaleConfirm_unready {p : Part} {c : ResultCode} (hd : p.descale.phase = .awaitSolution)
    (hp : p.descale.prompt = some .start) (h : p.descaleRefusal = some c) : p.descaleConfirm = (p, ⟨c, []⟩) := by
  simp only [Part.descaleConfirm, hd, hp, h]; rfl

theorem Part.descaleConfirm_started {p : Part} (hd : p.descale.phase = .awaitSolution)
    (hp : p.descale.prompt = some .start) (h : p.descaleRefusal = none) :
    p.descaleConfirm = (Part.enterDrainFirst { p with boiler.owner := .descale }, ⟨.ok, []⟩) := by
  simp only [Part.descaleConfirm, hd, hp, h]; rfl

theorem Part.descaleConfirm_solution {p : Part} (hd : p.descale.phase = .awaitSolution)
    (hp : p.descale.prompt ≠ some .start) : p.descaleConfirm = (p.enterDose, ⟨.ok, []⟩) := by
  unfold Part.descaleConfirm
  split
  case h_1 h => exact absurd h hp
  all_goals simp_all [Reply.bare]

theorem Part.descaleConfirm_rinse {p : Part} (hd : p.descale.phase = .awaitRinseWater) : p.descaleConfirm =
    (Part.directFill { p with descale := { p.descale with
      phase := .rinse, prompt := none, rinseStep := some .fill
      record := { p.descale.record with phase := .rinse } } } .rinse, ⟨.ok, []⟩) := by
  simp only [Part.descaleConfirm, hd]
  rfl

theorem Part.descaleConfirm_refused {p : Part} (h : p.descale.phase ∉ [.awaitSolution, .awaitRinseWater]) :
    p.descaleConfirm = (p, ⟨.refusedState, []⟩) := by
  simp only [List.mem_cons, List.not_mem_nil, or_false, not_or] at h
  obtain ⟨hs, hr⟩ := h
  unfold Part.descaleConfirm
  split
  case h_4 => rfl
  all_goals contradiction

/-! ### DESCALE_ABORT (R111) -/

theorem Part.abortDescale_accepted {p q : Part} (h : p.descaleAbort = (q, true)) : p.abortDescale = (q, ⟨.ok, []⟩) := by
  rw [Part.abortDescale, h]; rfl

theorem Part.abortDescale_refused {p : Part} (h : p.descaleAbort = (p, false)) :
    p.abortDescale = (p, ⟨.refusedState, []⟩) := by
  rw [Part.abortDescale, h]; rfl

theorem Part.descaleAbort_started {p : Part} (hd : p.descale.phase = .awaitSolution)
    (hp : p.descale.prompt = some .start) : p.descaleAbort = (p.descaleGiveUp, true) := by
  simp [Part.descaleAbort, hd, hp]

/-- R111: with the solution in, the abort drains it and owes a rinse. -/
theorem Part.descaleAbort_working {p : Part} (h : p.descale.phase ∈ [.dose, .warm, .soak]
    ∨ (p.descale.phase = .awaitSolution ∧ p.descale.prompt ≠ some .start)) :
    p.descaleAbort = ((p.setRinseOwed true).enterSoakDrain, true) := by
  simp only [List.mem_cons, List.not_mem_nil, or_false] at h
  unfold Part.descaleAbort
  rcases h with (h | h | h) | ⟨h, hp⟩ <;> simp only [h]

theorem Part.descaleAbort_drainFirst {p : Part} (hd : p.descale.phase = .drainFirst) :
    p.descaleAbort = (p.descaleReleaseDrainFirst, true) := by
  simp [Part.descaleAbort, hd]

theorem Part.descaleAbort_soakDrain {p : Part} (hd : p.descale.phase = .soakDrain) : p.descaleAbort =
    if p.descale.record.rinseOwed then (p, false) else (p.setRinseOwed true, true) := by
  simp [Part.descaleAbort, hd]

theorem Part.descaleAbort_idle {p : Part} (h : p.descale.phase = .idle ∨ p.descale.phase = .awaitRinseWater
    ∨ p.descale.phase = .rinse) : p.descaleAbort = (p, false) := by
  rcases h with h | h | h <;> simp [Part.descaleAbort, h]

/-! ### Directed drains (R100, R108) -/

theorem Part.startDrain_owner (p : Part) (purpose : Purpose) (next : Continuation) :
    (p.startDrain purpose next).boiler.owner = p.boiler.owner := by
  rw [Part.startDrain_eq]
  split
  · rw [Part.enterDraining_boiler]; rfl
  · rfl

/-- R100: a drain direction moves the direction held, and leaves the scale record and the owner alone. -/
theorem Part.directDrain_leaves (p : Part) (purpose : Purpose) :
    let q := p.directDrain purpose
    q.descale = { p.descale with held := q.descale.held } ∧ q.scale = p.scale ∧ q.boiler.owner = p.boiler.owner := by
  unfold Part.directDrain
  split
  case h_1 => exact ⟨rfl, rfl, rfl⟩
  case h_2 => exact ⟨rfl, rfl, rfl⟩
  case h_3 => exact ⟨rfl, rfl, rfl⟩
  all_goals exact ⟨by simp, by simp, Part.startDrain_owner _ _ _⟩

theorem Part.directDrain_fault {p : Part} (h : p.boiler.state = .fault) (purpose : Purpose) :
    p.directDrain purpose = { p with descale.held := some (.drain purpose) } := by
  simp [Part.directDrain, h]

theorem Part.directDrain_empty {p : Part} (h : p.boiler.state = .empty) (purpose : Purpose) :
    p.directDrain purpose = Part.startDrain { p with descale.held := none } purpose .report := by
  simp [Part.directDrain, h]

/-- R108: the sequencer on its entry to SOAK_DRAIN, before the drain is directed. -/
def Part.soakDrainBegun (p : Part) : Part :=
  Part.descalePhase { p with descale.soakTimer := .stopped, descale.rinseStep := none } .soakDrain none

theorem Part.enterSoakDrain_eq (p : Part) : p.enterSoakDrain = p.soakDrainBegun.directDrain .normal := rfl

/-- R108: what the entry to SOAK_DRAIN leaves of the sequencer. -/
theorem Part.enterSoakDrain_descale (p : Part) : p.enterSoakDrain.descale = { p.descale with
    phase := .soakDrain, prompt := none, rinseStep := none, soakTimer := .stopped
    record := { p.descale.record with phase := .soakDrain }, held := p.enterSoakDrain.descale.held } :=
  (p.soakDrainBegun.directDrain_leaves .normal).1

theorem Part.soakDone_running {p : Part} {n : Nat} (ht : p.descale.soakTimer = .running n)
    (hd : p.descale.phase = .soak) : p.soakDone = p.enterSoakDrain := by
  simp [Part.soakDone, ht, hd]

/-! ### The water step (R82, R114, R181) -/

theorem DescaleRecord.atOrAfterDose_iff (r : DescaleRecord) :
    r.atOrAfterDose = true ↔ r.phase ∉ [.idle, .awaitSolution, .drainFirst] := by
  unfold DescaleRecord.atOrAfterDose
  cases r.phase <;> decide

/-- R114: the boiler of a descaling that recovers, before the drain is directed. -/
def Part.recovering (p : Part) : Part :=
  { p.setRinseOwed true with descale.recovered := true, boiler.owner := .descale }

theorem Part.descaleRecover_eq (p : Part) : p.descaleRecover = p.recovering.enterSoakDrain.queueItem 16
    (.descale p.recovering.enterSoakDrain.descale.record) := rfl

/-- R114: the blocks at the water step, before the mode is entered. -/
def Part.watered (p : Part) : Part :=
  if p.descale.record.atOrAfterDose then p.descaleRecover else p.descaleNoRecovery.boilerStartup

theorem Part.watered_faults (p : Part) : p.watered.mode.faults = p.mode.faults := by
  unfold Part.watered Part.boilerStartup
  repeat' split
  · exact (Part.descaleRecover_keeps (.refl p)).faults
  · exact (Part.descaleNoRecovery_keeps (.refl p)).faults
  · exact (Part.startDrain_keeps _ _ (Part.descaleNoRecovery_keeps (.refl p))).faults
  · exact (Part.descaleNoRecovery_keeps (.refl p)).faults

theorem Part.waterStep_eq {p : Part} (h : p.mode.startup = .water) :
    p.waterStep = Part.setMode { p.watered with mode.startup := .done } (if p.critical then .safeStop else .active) := by
  rw [Part.waterStep, if_pos h, Part.critical, ← p.watered_faults]
  rfl

/-- R114: a recovery goes on with SOAK_DRAIN, a rinse owed and the boiler its own, and queues its record. -/
theorem Part.watered_recovers {p : Part} (h : p.descale.record.phase ∉ [.idle, .awaitSolution, .drainFirst]) :
    let q := p.watered
    q.descale.phase = .soakDrain ∧ q.descale.record = ⟨.soakDrain, p.descale.record.rinses, true⟩
      ∧ q.descale.recovered = true ∧ q.scale.lock = true ∧ q.boiler.owner = .descale
      ∧ q.store.served 16 = .descale ⟨.soakDrain, p.descale.record.rinses, true⟩
      ∧ (p.boiler.state = .fault → q.boiler.state = .fault ∧ q.descale.held = some (.drain .normal))
      ∧ (p.boiler.state = .empty → q.descale.held = none ∧ q.boiler.purpose = some .normal
        ∧ (q.boiler.state = .coolWait ∨ q.boiler.state = .draining)) := by
  have hrecover : p.watered = p.descaleRecover := if_pos ((DescaleRecord.atOrAfterDose_iff _).2 h)
  have hdescale := p.recovering.enterSoakDrain_descale
  obtain ⟨-, hscale, howner⟩ := p.recovering.soakDrainBegun.directDrain_leaves .normal
  have hrecord : p.recovering.enterSoakDrain.descale.record = ⟨.soakDrain, p.descale.record.rinses, true⟩ := by
    rw [hdescale]; rfl
  dsimp only
  rw [hrecover, Part.descaleRecover_eq]
  refine ⟨by rw [Part.queueItem_descale, hdescale], hrecord, by rw [Part.queueItem_descale, hdescale]; rfl, ?_, howner,
    ?_, fun hs => ?_, fun hs => ?_⟩
  · rw [Part.queueItem_scale, Part.enterSoakDrain_eq, hscale]
    exact Bool.or_true _
  · rw [Part.queueItem_store, Store.enqueue_served_self, hrecord]
  · have hfault : p.recovering.soakDrainBegun.boiler.state = .fault := hs
    rw [Part.queueItem_boiler, Part.queueItem_descale, Part.enterSoakDrain_eq, Part.directDrain_fault hfault]
    exact ⟨hfault, rfl⟩
  · have hempty : p.recovering.soakDrainBegun.boiler.state = .empty := hs
    rw [Part.queueItem_boiler, Part.queueItem_descale, Part.enterSoakDrain_eq, Part.directDrain_empty hempty,
      Part.startDrain_descale]
    exact ⟨rfl, (Part.startDrain_leaves _ _ _).1, Part.startDrain_state _ _ _⟩

/-- R114: without a recovery the record returns to IDLE and the sequencer and the boiler stay. -/
theorem Part.descaleNoRecovery_leaves (p : Part) :
    let q := p.descaleNoRecovery
    q.boiler = p.boiler ∧ q.ring = p.ring ∧ q.descale.phase = p.descale.phase
      ∧ q.descale.record = if p.descale.record.phase = .idle then p.descale.record else ⟨.idle, 0, false⟩ := by
  unfold Part.descaleNoRecovery
  split <;> exact ⟨rfl, rfl, rfl, rfl⟩

/-- R82: the start-up drain of a boiler that holds water and is not in FAULT. -/
theorem Part.boilerStartup_cases (p : Part) :
    (p.boiler.state = .fault → p.boilerStartup = p)
      ∧ (p.boiler.state ≠ .fault → p.ring.image.lowWet = false → p.ring.image.highWet = false → p.boilerStartup = p)
      ∧ (p.boiler.state ≠ .fault → p.ring.image.lowWet = true ∨ p.ring.image.highWet = true →
        p.boilerStartup = p.startDrain .normal .none) := by
  refine ⟨fun hf => if_pos hf, fun hf hl hw => ?_, fun hf hw => ?_⟩
  · rw [Part.boilerStartup, if_neg hf, hl, hw]; rfl
  · rw [Part.boilerStartup, if_neg hf, if_pos (by rwa [Bool.or_eq_true])]

theorem Part.boilerStartup_leaves (p : Part) :
    p.boilerStartup.descale = p.descale ∧ p.boilerStartup.boiler.owner = p.boiler.owner := by
  unfold Part.boilerStartup
  repeat' split
  · exact ⟨rfl, rfl⟩
  · exact ⟨Part.startDrain_descale _ _ _, Part.startDrain_owner _ _ _⟩
  · exact ⟨rfl, rfl⟩

theorem Part.watered_drains {p : Part} (h : ¬p.descale.record.phase ∉ [.idle, .awaitSolution, .drainFirst]) :
    let q := p.watered
    q.descale.phase = p.descale.phase ∧ q.boiler.owner = p.boiler.owner
      ∧ q.descale.record = (if p.descale.record.phase = .idle then p.descale.record else ⟨.idle, 0, false⟩)
      ∧ (p.boiler.state = .fault → q.boiler = p.boiler)
      ∧ (p.boiler.state ≠ .fault → p.ring.image.lowWet = false → p.ring.image.highWet = false → q.boiler = p.boiler)
      ∧ (p.boiler.state ≠ .fault → p.ring.image.lowWet = true ∨ p.ring.image.highWet = true →
        q.boiler.purpose = some .normal ∧ q.boiler.continuation = .none
        ∧ (q.boiler.state = .coolWait ∨ q.boiler.state = .draining)) := by
  have hdrains : p.watered = p.descaleNoRecovery.boilerStartup :=
    if_neg ((DescaleRecord.atOrAfterDose_iff _).not.2 h)
  obtain ⟨hboiler, hring, hphase, hrecord⟩ := p.descaleNoRecovery_leaves
  obtain ⟨hdescale, howner⟩ := p.descaleNoRecovery.boilerStartup_leaves
  obtain ⟨hfault, hdry, hwet⟩ := p.descaleNoRecovery.boilerStartup_cases
  rw [hboiler, hring] at hdry hwet
  rw [hboiler] at hfault howner
  dsimp only
  rw [hdrains, hdescale]
  refine ⟨hphase, howner, hrecord, fun hs => by rw [hfault hs, hboiler], fun hs hl hw => by rw [hdry hs hl hw, hboiler],
    fun hs hw => ?_⟩
  rw [hwet hs hw]
  obtain ⟨hpurpose, hnext, -⟩ := p.descaleNoRecovery.startDrain_leaves .normal .none
  exact ⟨hpurpose, hnext, Part.startDrain_state _ _ _⟩

/-- Settles O56, request by request and then the water step: each answers by its checks in their order, and the start-up by
the stored phase. -/
theorem waterRequests : Obligations.WaterRequests := by
  refine ⟨fun s => ⟨fun hl ha => ?drain, fun presence minutes hl ha => ?start, fun hl ha => ?confirm, fun hl ha => ?abort,
    fun n ht hd => ?soak⟩, fun p => ⟨fun h => if_neg h, fun h => ?water⟩⟩
  case drain =>
    refine ⟨fun h => exec_declines hl ha rfl (Part.boilerDrain_refused h) rfl, fun ho hs => ?_, fun ho hs => ?_,
      fun ho hs => ?_⟩ <;> obtain ⟨hready, hdry, hbusy⟩ := Part.boilerDrain_unowned ho
    · exact exec_accepts hl ha rfl (hready hs) rfl
    · exact exec_accepts hl ha rfl (hdry hs) rfl
    · exact exec_declines hl ha rfl (hbusy hs) rfl
  case start =>
    refine ⟨fun hf => exec_declines hl ha rfl (Part.descaleStart_unformed _ minutes hf) rfl, fun hf h => ?_,
      fun hf hd hc hg => ⟨fun hb => ?_, fun hb hb' => ?_, fun hb => ?_⟩⟩
    · by_cases hd : s.part.descale.phase = .idle
      · have hbarred := Part.descaleRefusal_barred (h.resolve_left (not_not.2 hd))
        exact exec_declines hl ha rfl (Part.descaleStart_refused minutes hf hd hbarred) rfl
      · exact exec_declines hl ha rfl (Part.descaleStart_working minutes hf hd) rfl
    all_goals obtain ⟨hbusy, hrefused, hopen⟩ := Part.descaleRefusal_open hc hg
    · exact exec_declines hl ha rfl (Part.descaleStart_refused minutes hf hd (hbusy hb)) rfl
    · exact exec_declines hl ha rfl (Part.descaleStart_refused minutes hf hd (hrefused hb hb')) rfl
    · exact exec_accepts hl ha rfl (Part.descaleStart_accepted minutes hf hd (hopen hb)) (carriedOut_clamped _)
  case confirm =>
    refine ⟨fun ⟨hd, hp⟩ h => ?_, fun ⟨hd, hp⟩ hc hg => ⟨fun hb => ?_, fun hb hb' => ?_, fun hb => ?_⟩, fun hd hp => ?_,
      fun hd => ?_, fun hd => ?_⟩
    · exact exec_declines hl ha rfl (Part.descaleConfirm_unready hd hp (Part.descaleRefusal_barred h)) rfl
    · exact exec_declines hl ha rfl (Part.descaleConfirm_unready hd hp ((Part.descaleRefusal_open hc hg).1 hb)) rfl
    · exact exec_declines hl ha rfl (Part.descaleConfirm_unready hd hp ((Part.descaleRefusal_open hc hg).2.1 hb hb')) rfl
    · exact exec_accepts hl ha rfl (Part.descaleConfirm_started hd hp ((Part.descaleRefusal_open hc hg).2.2 hb)) rfl
    · exact exec_accepts hl ha rfl (Part.descaleConfirm_solution hd fun h => hp ⟨hd, h⟩) rfl
    · exact exec_accepts hl ha rfl (Part.descaleConfirm_rinse hd) rfl
    · exact exec_declines hl ha rfl (Part.descaleConfirm_refused hd) rfl
  case abort =>
    refine ⟨fun hd hp => ?_, fun h => ?_, fun hd => ?_, fun hd hr => ?_, fun h => ?_⟩
    · exact exec_accepts hl ha rfl (Part.abortDescale_accepted (Part.descaleAbort_started hd hp)) rfl
    · exact exec_accepts hl ha rfl (Part.abortDescale_accepted (Part.descaleAbort_working h)) rfl
    · exact exec_accepts hl ha rfl (Part.abortDescale_accepted (Part.descaleAbort_drainFirst hd)) rfl
    · have howes : s.part.descaleAbort = (s.part.setRinseOwed true, true) := by
        rw [Part.descaleAbort_soakDrain hd, hr]; rfl
      exact exec_accepts hl ha rfl (Part.abortDescale_accepted howes) rfl
    · have hrefused : s.part.descaleAbort = (s.part, false) := by
        rcases h with h | h | h | ⟨hd, hr⟩
        · exact Part.descaleAbort_idle (.inl h)
        · exact Part.descaleAbort_idle (.inr (.inl h))
        · exact Part.descaleAbort_idle (.inr (.inr h))
        · rw [Part.descaleAbort_soakDrain hd, if_pos hr]
      exact exec_declines hl ha rfl (Part.abortDescale_refused hrefused) rfl
  case soak =>
    refine ⟨next_settled (Part.soakDone_running ht hd), ?_⟩
    rw [Part.enterSoakDrain_descale]
    exact ⟨rfl, rfl⟩
  case water =>
    rw [Part.waterStep_eq h, Part.setMode_mode, Part.setMode_descale, Part.setMode_scale, Part.setMode_boiler,
      Part.setMode_store]
    exact ⟨rfl, rfl, p.watered_faults, Part.watered_recovers, Part.watered_drains⟩

end Sys2Proof.Machine
end

section
/-! SUPPORT. The regulator and the executor leave the boiler alone (R4, R7, R123, R128), and so a settlement does (R91). -/

namespace Sys2Proof.Machine

@[simp] theorem Part.passGate_boiler (p : Part) : p.passGate.boiler = p.boiler := by
  unfold Part.passGate; repeat' split
  all_goals rfl
@[simp] theorem Part.cavityReached_boiler (p : Part) : p.cavityReached.boiler = p.boiler := by
  unfold Part.cavityReached Part.tellReached; dsimp only; repeat' split
  all_goals simp
@[simp] theorem Part.writeTail_boiler (p : Part) (c : ClimateParams) : (p.writeTail c).boiler = p.boiler := by
  rw [Part.writeTail, Part.ventTest, Part.setVent_boiler, Part.steamTest_boiler, Part.pulseAtWrite_eq]
@[simp] theorem Part.cookingTested_boiler (p : Part) (c : ClimateParams) : (p.cookingTested c).boiler = p.boiler := by
  unfold Part.cookingTested Part.ventAtStart
  rw [Part.demandOf_eq]
  split <;> exact Part.writeTail_boiler _ c
@[simp] theorem Part.writeClimate_boiler (p : Part) (c : ClimateParams) : (p.writeClimate c).boiler = p.boiler := by
  unfold Part.writeClimate
  split
  · rw [Part.updateClimate_eq, Part.writeTail_boiler, Part.rewriteDemand_eq, Part.rewritten_eq]
  · rw [Part.startCooking_eq]; split <;> simp
@[simp] theorem Part.testDegraded_boiler (p : Part) (beginning : Bool) : (p.testDegraded beginning).boiler = p.boiler := by
  unfold Part.testDegraded; repeat' split
  all_goals simp
@[simp] theorem Part.beginStage_boiler (p : Part) (st : Stage) : (p.beginStage st).boiler = p.boiler := by
  rw [Part.beginStage_eq, Part.testDegraded_boiler]
  unfold Part.stageGated
  split <;> exact p.writeClimate_boiler _
@[simp] theorem Part.enterStage_boiler (p : Part) (i : Nat) : (p.enterStage i).boiler = p.boiler := by
  unfold Part.enterStage; dsimp only; repeat' split
  · rfl
  · exact Part.beginStage_boiler _ _
  · rfl
@[simp] theorem Part.endAction_boiler (p : Part) : p.endAction.boiler = p.boiler := by
  rw [Part.endAction_eq]
  split
  · exact (Part.setMode_boiler _ _).trans (p.writeClimate_boiler _)
  · exact p.endCooking_boiler
@[simp] theorem Part.goOn_boiler (p : Part) : p.goOn.boiler = p.boiler := by
  rw [Part.goOn_eq]
  split
  · exact p.leaving.endAction_boiler
  · exact p.leaving.enterStage_boiler _

/-- R91: the settlement of the request in hand leaves the boiler alone. -/
@[simp] theorem Part.settleBlowdown_boiler (p : Part) (how : Settlement) : (p.settleBlowdown how).boiler = p.boiler := by
  unfold Part.settleBlowdown Part.tellExecutor; repeat' split
  · exact Part.goOn_boiler _
  all_goals rfl

/-- R64, R76: a waiting request is dropped, and nothing else changes in the boiler. -/
theorem Part.refuseWaiting_boiler (p : Part) : p.refuseWaiting.boiler = { p.boiler with waiting := false } := by
  unfold Part.refuseWaiting
  split
  · rw [Part.settleBlowdown_boiler]
  · next h => rw [← Bool.eq_false_iff.2 h]

end Sys2Proof.Machine
end

section
/-! SUPPORT. What the boiler and the sequencer do on a critical fault (R79, R111, R112, R147), where no executor waits at its
boundary. -/

namespace Sys2Proof.Machine

/-- What the boiler and the sequencer leave of the other blocks when they stop: all but the boiler request and a kept
settlement. -/
structure Part.Halts (p q : Part) : Prop where
  climate : q.climate = p.climate
  mode : q.mode = p.mode
  program : q.program.state = p.program.state
  power : q.power = { p.power with boilerRequest := q.power.boilerRequest }

theorem Part.Halts.refl (p : Part) : p.Halts p := ⟨rfl, rfl, rfl, rfl⟩

theorem Part.Halts.trans {p q r : Part} (h : p.Halts q) (k : q.Halts r) : p.Halts r :=
  ⟨k.climate.trans h.climate, k.mode.trans h.mode, k.program.trans h.program, by rw [k.power, h.power]⟩

theorem Part.Halts.of_eq {p q : Part} (hc : q.climate = p.climate) (hm : q.mode = p.mode) (hg : q.program = p.program)
    (hp : q.power = p.power) : p.Halts q := ⟨hc, hm, by rw [hg], by rw [hp]⟩

/-! ### The boiler (R64, R79) -/

theorem Part.accrue_halts (p : Part) (volume : Nat) : p.Halts (p.accrue volume) := by
  unfold Part.accrue
  dsimp only
  split <;> exact .of_eq (by simp) (by simp) (by simp) (by simp)

theorem Part.handOver_halts (p : Part) : p.Halts p.handOver := by
  unfold Part.handOver
  split
  · exact p.accrue_halts _
  · exact .refl p

theorem Part.boilerEndFill_halts (p : Part) : p.Halts p.boilerEndFill := by
  unfold Part.boilerEndFill
  split <;> exact ⟨rfl, rfl, rfl, rfl⟩

theorem Part.startDrain_halts (p : Part) (purpose : Purpose) (next : Continuation) :
    p.Halts (p.startDrain purpose next) := by
  refine ⟨by simp, by simp, by simp, ?_⟩
  rw [Part.startDrain_eq]
  split
  · rw [Part.enterDraining_power]; rfl
  · rfl

theorem Part.refuseWaiting_halts {p : Part} (h : p.program.state ≠ .boundaryWait) : p.Halts p.refuseWaiting := by
  unfold Part.refuseWaiting
  split
  · exact (Part.settleBlowdown_elsewhere (p := { p with boiler.waiting := false }) h .refused) ▸ ⟨rfl, rfl, rfl, rfl⟩
  · exact .refl p

/-- R79: STOP ends fills and heating and drops the continuation of a drain, before a waiting request is refused. -/
theorem Part.boilerStop_eq (p : Part) : ∃ q : Part, p.boilerStop = q.refuseWaiting ∧ p.Halts q
    ∧ q.boiler.state ∉ [.filling, .fillPaused, .topping, .heating, .steaming] := by
  have hfill : p.Halts p.handOver.boilerEndFill ∧ p.handOver.boilerEndFill.boiler.state
      ∉ [.filling, .fillPaused, .topping, .heating, .steaming] := by
    refine ⟨p.handOver_halts.trans (Part.boilerEndFill_halts _), ?_⟩
    rw [Part.boilerEndFill_state]
    split <;> decide
  have hheat : p.Halts (p.boilerRest .ready).noBoilerRequest := ⟨rfl, rfl, rfl, rfl⟩
  have hdrain : p.Halts { p with boiler.continuation := .none } := ⟨rfl, rfl, rfl, rfl⟩
  unfold Part.boilerStop
  cases hs : p.boiler.state
  case filling => exact ⟨_, rfl, hfill⟩
  case fillPaused => exact ⟨_, rfl, hfill⟩
  case topping => exact ⟨_, rfl, hfill⟩
  case heating => exact ⟨_, rfl, hheat, by simp⟩
  case steaming => exact ⟨_, rfl, hheat, by simp⟩
  case coolWait => exact ⟨_, rfl, hdrain, by simp [hs]⟩
  case draining => exact ⟨_, rfl, hdrain, by simp [hs]⟩
  case empty => exact ⟨_, rfl, .refl p, by simp [hs]⟩
  case ready => exact ⟨_, rfl, .refl p, by simp [hs]⟩
  case fault => exact ⟨_, rfl, .refl p, by simp [hs]⟩

/-- R79, R147: after STOP no fill, heating or steaming is in hand. -/
theorem Part.boilerStop_halts {p : Part} (h : p.program.state ≠ .boundaryWait) : p.Halts p.boilerStop
    ∧ p.boilerStop.boiler.state ∉ [.filling, .fillPaused, .topping, .heating, .steaming] := by
  obtain ⟨q, hq, hh, hs⟩ := p.boilerStop_eq
  have hwait : q.program.state ≠ .boundaryWait := by rwa [hh.program]
  rw [hq]
  refine ⟨hh.trans (Part.refuseWaiting_halts hwait), ?_⟩
  rw [Part.refuseWaiting_boiler]
  exact hs

/-! ### The sequencer (R111, R112) -/

/-- R100: a directed drain starts a drain, or leaves the boiler in the state that it finds. -/
theorem Part.directDrain_halts (p : Part) (purpose : Purpose) : p.Halts (p.directDrain purpose)
    ∧ ((p.directDrain purpose).boiler.state = p.boiler.state ∨ (p.directDrain purpose).boiler.state = .coolWait
      ∨ (p.directDrain purpose).boiler.state = .draining) := by
  have hdrain : p.Halts (Part.startDrain { p with descale.held := none } purpose .report) :=
    Part.Halts.trans (q := { p with descale.held := none }) ⟨rfl, rfl, rfl, rfl⟩ (Part.startDrain_halts _ _ _)
  unfold Part.directDrain
  split
  case h_1 => exact ⟨⟨rfl, rfl, rfl, rfl⟩, .inl rfl⟩
  case h_2 => exact ⟨⟨rfl, rfl, rfl, rfl⟩, .inl rfl⟩
  case h_3 => exact ⟨⟨rfl, rfl, rfl, rfl⟩, .inl rfl⟩
  all_goals exact ⟨hdrain, .inr (Part.startDrain_state _ _ _)⟩

/-- R111: what STOP makes of the sequencer, by the cases of the abort. -/
theorem Part.descaleAbort_cases (p : Part) : p.descaleAbort.1 = p ∨ p.descaleAbort.1 = p.descaleGiveUp
    ∨ p.descaleAbort.1 = (p.setRinseOwed true).enterSoakDrain ∨ p.descaleAbort.1 = p.descaleReleaseDrainFirst
    ∨ p.descaleAbort.1 = p.setRinseOwed true := by
  unfold Part.descaleAbort
  repeat' split
  all_goals simp

/-- R111, R112: the sequencer on a critical fault. -/
theorem Part.descaleCritical_halts (p : Part) : p.Halts p.descaleCritical
    ∧ (p.descaleCritical.boiler.state = p.boiler.state ∨ p.descaleCritical.boiler.state = .coolWait
      ∨ p.descaleCritical.boiler.state = .draining) := by
  have hbegun : p.Halts (p.setRinseOwed true).soakDrainBegun := ⟨rfl, rfl, rfl, rfl⟩
  obtain ⟨hdrained, hstate⟩ := (p.setRinseOwed true).soakDrainBegun.directDrain_halts .normal
  unfold Part.descaleCritical
  split
  · exact ⟨⟨rfl, rfl, rfl, rfl⟩, .inl rfl⟩
  · exact ⟨⟨rfl, rfl, rfl, rfl⟩, .inl rfl⟩
  · rcases p.descaleAbort_cases with h | h | h | h | h <;> rw [Part.descaleStop, h]
    · exact ⟨.refl p, .inl rfl⟩
    · exact ⟨⟨rfl, rfl, rfl, rfl⟩, .inl rfl⟩
    · exact ⟨hbegun.trans hdrained, hstate⟩
    · exact ⟨⟨rfl, rfl, rfl, rfl⟩, .inl rfl⟩
    · exact ⟨⟨rfl, rfl, rfl, rfl⟩, .inl rfl⟩

/-! ### The regulator, the allocator and the executor (R36, R37, R134, R147) -/

/-- R147: a critical fault has withdrawn the grants, woken the part, forced the climate OFF and aborted the program. -/
def Part.cookingCut (p : Part) : Part := p.withdrawCavity.withdrawBoiler.wake.forcedOff.programAborted

theorem Part.criticalEffects_eq (p : Part) :
    p.criticalEffects = p.cookingCut.boilerStop.descaleCritical.safeStop := rfl

theorem Part.withdrawBoiler_grants (p : Part) : p.withdrawBoiler.power.grants.watts = p.power.grants.watts
    ∧ p.withdrawBoiler.power.withdrawn = p.power.withdrawn := by
  unfold Part.withdrawBoiler Power.openRelay
  repeat' split
  all_goals exact ⟨rfl, rfl⟩

theorem Part.forcedOff_grants (p : Part) : p.forcedOff.power.grants = p.power.grants
    ∧ p.forcedOff.power.withdrawn = p.power.withdrawn ∧ p.forcedOff.power.relay = p.power.relay := by
  unfold Part.forcedOff
  split
  · exact ⟨rfl, rfl, rfl⟩
  · rw [Part.clearClimate_eq]; exact ⟨rfl, rfl, rfl⟩

theorem Part.forcedOff_ends {p : Part} (h : p.climate.state ≠ .off) :
    p.forcedOff.climate.params = none ∧ p.forcedOff.power.demands = .all 0 := by
  rw [Part.forcedOff, if_neg h, Part.clearClimate_eq]
  exact ⟨rfl, rfl⟩

/-- R134: an abort touches the executor and the notices alone. -/
theorem Part.programAborted_leaves (p : Part) :
    p.programAborted.program.state = (if p.program.state.runs then .aborted else p.program.state)
      ∧ p.programAborted.climate = p.climate ∧ p.programAborted.power = p.power ∧ p.programAborted.mode = p.mode
      ∧ p.programAborted.boiler = p.boiler := by
  unfold Part.programAborted
  split <;> exact ⟨rfl, rfl, rfl, rfl, rfl⟩

theorem Part.wake_mode_mode (p : Part) :
    p.wake.mode.mode = if p.mode.mode = .standby then .active else p.mode.mode := by
  unfold Part.wake
  split
  · exact Part.setMode_mode_mode _ _
  · rfl

theorem Part.cookingCut_leaves (p : Part) :
    let q := p.cookingCut
    q.climate.state = .off ∧ q.power.grants.watts = .all 0 ∧ q.power.withdrawn = true ∧ q.power.relay = false
      ∧ q.program.state = (if p.program.state.runs then .aborted else p.program.state)
      ∧ q.mode.mode = (if p.mode.mode = .standby then .active else p.mode.mode)
      ∧ (p.climate.state ≠ .off → p.mode.mode ≠ .standby → q.climate.params = none ∧ q.power.demands = .all 0) := by
  obtain ⟨hstate, hclimate, hpower, hmode, -⟩ := p.withdrawCavity.withdrawBoiler.wake.forcedOff.programAborted_leaves
  obtain ⟨hgrants, hwithdrawn, hrelay⟩ := p.withdrawCavity.withdrawBoiler.wake.forcedOff_grants
  obtain ⟨hwatts, hheld⟩ := p.withdrawCavity.withdrawBoiler_grants
  rw [Part.wake_power] at hgrants hwithdrawn hrelay
  dsimp only
  rw [Part.cookingCut, hstate, hclimate, hpower, hmode, hgrants, hwithdrawn, hrelay, hwatts, hheld]
  refine ⟨Part.forcedOff_state _, rfl, rfl, Part.withdrawBoiler_relay _, by simp, ?_, fun hc hm => ?_⟩
  · rw [Part.forcedOff_mode, Part.wake_mode_mode]; simp
  · have hawake : p.withdrawCavity.withdrawBoiler.mode.mode ≠ .standby := by simpa using hm
    rw [Part.wake_of_ne hawake]
    exact Part.forcedOff_ends (by simpa using hc)

/-! ### The mode (R137, R147) -/

theorem Part.safeStop_leaves (p : Part) :
    p.safeStop.climate = p.climate ∧ p.safeStop.power = p.power ∧ p.safeStop.program = p.program
      ∧ p.safeStop.boiler = p.boiler
      ∧ p.safeStop.mode.mode = (if p.mode.mode = .starting then .starting else .safeStop)
      ∧ (p.mode.mode ≠ .starting → p.safeStop.mode.holdTimer = .stopped) := by
  unfold Part.safeStop
  split
  · next h => exact ⟨rfl, rfl, rfl, rfl, h, fun k => absurd h k⟩
  · refine ⟨by simp, by simp, by simp, by simp, by simp, fun _ => ?_⟩
    rw [Part.setMode_mode]; rfl

/-- R147: what the first critical fault leaves. -/
theorem Part.criticalEffects_leaves (p : Part) :
    let q := p.criticalEffects
    q.power.grants.watts = .all 0 ∧ q.power.withdrawn = true ∧ q.power.relay = false ∧ q.climate.state = .off
      ∧ (p.climate.state ≠ .off → p.mode.mode ≠ .standby → q.climate.params = none ∧ q.power.demands = .all 0)
      ∧ q.program.state = (if p.program.state ∈ [.running, .waiting, .paused, .boundaryWait] then .aborted
          else p.program.state)
      ∧ q.boiler.state ∉ [.filling, .fillPaused, .topping, .heating, .steaming]
      ∧ q.mode.mode = (if p.mode.mode = .starting then .starting else .safeStop)
      ∧ (p.mode.mode ≠ .starting → q.mode.holdTimer = .stopped) := by
  obtain ⟨hoff, hwatts, hwithdrawn, hrelay, hprogram, hmode, hended⟩ := p.cookingCut_leaves
  have haway : p.cookingCut.program.state ≠ .boundaryWait := by
    rw [hprogram]
    cases p.program.state <;> decide
  obtain ⟨hstop, hquiet⟩ := Part.boilerStop_halts haway
  obtain ⟨hcritical, hstate⟩ := p.cookingCut.boilerStop.descaleCritical_halts
  have hh := hstop.trans hcritical
  obtain ⟨hclimate, hpower, hg, hboiler, hm, htimer⟩ := p.cookingCut.boilerStop.descaleCritical.safeStop_leaves
  rw [hh.mode, hmode] at hm htimer
  dsimp only
  rw [Part.criticalEffects_eq, hclimate, hpower, hg, hboiler, hh.power, hh.climate, hh.program, hm]
  simp only [← ProgramState.runs_iff]
  refine ⟨hwatts, hwithdrawn, hrelay, hoff, hended, hprogram, ?_, ?_, fun hs => htimer ?_⟩
  · rcases hstate with h | h | h <;> rw [h]
    · exact hquiet
    · decide
    · decide
  · cases p.mode.mode <;> rfl
  · revert hs
    cases p.mode.mode <;> decide

end Sys2Proof.Machine
end

section
/-! SUPPORT. The fault set (R146, R149), what a steam fault leaves (R81, R142, R146), and the causes (section 8.5). -/

namespace Sys2Proof.Machine

/-! ### The fault set -/

theorem faultCode_inj {j k : FaultKind} : faultCode j = faultCode k ↔ j = k := by
  cases j <;> cases k <;> decide

theorem faultCode_lt (k : FaultKind) : faultCode k < 16 := by cases k <;> decide

/-- R146: the flag of a kind, alone. -/
theorem hasFault_faultFlag (j k : FaultKind) : hasFault (faultFlag k) j = decide (j = k) := by
  have hj := faultCode_lt j
  by_cases h : j = k
  · subst h
    simp [hasFault, faultFlag, hj]
  · have hcode : faultCode j ≠ faultCode k := mt faultCode_inj.1 h
    simp only [hasFault, faultFlag, BitVec.getLsbD_shiftLeft, BitVec.getLsbD_one, h, decide_false]
    simp; omega

theorem hasFault_or (a b : Half) (j : FaultKind) : hasFault (a ||| b) j = (hasFault a j || hasFault b j) :=
  BitVec.getLsbD_or

theorem hasFault_clear (a : Half) (j k : FaultKind) :
    hasFault (a &&& ~~~ faultFlag k) j = (hasFault a j && !decide (j = k)) := by
  have hj := faultCode_lt j
  rw [← hasFault_faultFlag]
  simp [hasFault, hj]

/-- R146, R147: the effects of a latched fault keep the fault set and its first kind, and clear no notice. -/
structure Part.Effects (p q : Part) : Prop where
  faults : q.mode.faults = p.mode.faults
  first : q.mode.first = p.mode.first
  pending : ∀ i, p.notice.pending.getLsbD i = true → q.notice.pending.getLsbD i = true

theorem Part.Keeps.effects {p q : Part} (h : p.Keeps q) : p.Effects q :=
  ⟨h.faults, congrArg Fixed.first h.fixed, h.adds.pending⟩

theorem Part.criticalEffects_effects (p : Part) : p.Effects p.criticalEffects := by
  have hk := p.criticalEffects_keeps.effects
  have hfirst : p.withdrawCavity.withdrawBoiler.wake.mode.first = p.mode.first := by
    unfold Part.wake
    split
    · rw [Part.setMode_mode]; simp
    · simp
  exact ⟨hk.faults.trans (by simp), hk.first.trans hfirst, fun i hi => hk.pending i (by simpa using hi)⟩

/-- R146: a raise latches the fault, and its effects follow. -/
theorem Part.raiseFault_effects {p : Part} {k : FaultKind} (h : hasFault p.mode.faults k = false) :
    (p.latch k).Effects (p.raiseFault k) := by
  rw [Part.raiseFault, if_neg (by simp [h])]
  split
  · split
    · exact (Part.Keeps.refl _).effects
    · exact (p.latch k).criticalEffects_effects
  · exact (Part.stallEffects_keeps _).effects
  · exact (Part.steamEffects_keeps _).effects
  · exact (Part.Keeps.refl _).effects

theorem Part.raiseFault_latched {p : Part} {k : FaultKind} (h : hasFault p.mode.faults k = true) :
    p.raiseFault k = p := if_pos h

theorem Part.raiseFault_set {p : Part} {k : FaultKind} (h : hasFault p.mode.faults k = false) :
    (∀ j, hasFault (p.raiseFault k).mode.faults j = true ↔ j = k ∨ hasFault p.mode.faults j = true)
      ∧ (p.raiseFault k).mode.first = (if p.mode.faults = 0 then some k else p.mode.first)
      ∧ (p.raiseFault k).notice.pending.getLsbD (noticePosition .fault) = true := by
  obtain ⟨hfaults, hfirst, hpending⟩ := Part.raiseFault_effects h
  refine ⟨fun j => ?_, hfirst, hpending _ (NoticeUnit.raise_self _ .fault)⟩
  have hset : (p.raiseFault k).mode.faults = p.mode.faults ||| faultFlag k := hfaults
  rw [hset, hasFault_or, hasFault_faultFlag, Bool.or_eq_true, decide_eq_true_eq, or_comm]

/-! ### The classes -/

theorem criticalLatched_iff (f : Half) : criticalLatched f = true ↔
    ∃ k ∈ [FaultKind.cavityOvertemp, .cavityNodeLost, .doorNodeLost, .nodeMap], hasFault f k = true := by
  simp [criticalLatched, or_assoc]

theorem Part.raiseFault_critical {p : Part} {k : FaultKind} (h : hasFault p.mode.faults k = false)
    (hc : p.critical = false) (hk : k ∈ [.cavityOvertemp, .cavityNodeLost, .doorNodeLost, .nodeMap]) :
    p.raiseFault k = (p.latch k).criticalEffects := by
  have hclass : faultClass k = .critical := by revert hk; cases k <;> decide
  rw [Part.raiseFault, if_neg (by simp [h]), hclass]
  dsimp only
  rw [hc]
  rfl

theorem Part.raiseFault_steam {p : Part} {k : FaultKind} (h : hasFault p.mode.faults k = false)
    (hk : k ∈ [.boilerOverheat, .boilerNodeLost, .tankNodeLost, .fillFault, .drainTimeout]) :
    p.raiseFault k = (p.latch k).steamEffects := by
  have hclass : faultClass k = .steam := by revert hk; cases k <;> decide
  rw [Part.raiseFault, if_neg (by simp [h]), hclass]

/-! ### Steam faults (R81, R112, R142) -/

/-- R112: the sequencer leaves a boiler in FAULT alone. -/
theorem Part.descaleBoilerFault_leaves {p : Part} (h : p.boiler.state = .fault) :
    p.descaleBoilerFault.boiler = p.boiler ∧ p.descaleBoilerFault.power = p.power := by
  have hdrain (q : Part) (hq : q.boiler.state = .fault) :
      (q.directDrain .normal).boiler = q.boiler ∧ (q.directDrain .normal).power = q.power := by
    rw [Part.directDrain_fault hq]; exact ⟨rfl, rfl⟩
  unfold Part.descaleBoilerFault
  split
  case h_1 => exact ⟨rfl, rfl⟩
  case h_2 => exact hdrain _ h
  case h_3 => exact ⟨rfl, rfl⟩
  case h_8 => exact ⟨rfl, rfl⟩
  case h_9 => exact ⟨rfl, rfl⟩
  all_goals exact hdrain _ h

theorem Part.faultSettled_state (p : Part) : p.faultSettled.boiler.state = .fault := by
  unfold Part.faultSettled
  split
  · rw [Part.settleBlowdown_boiler]; rfl
  · rw [Part.refuseWaiting_boiler]; rfl

theorem Part.faultSettled_mode {p : Part} (h : p.program.state ≠ .boundaryWait) : p.faultSettled.mode = p.mode := by
  have haway : p.boilerFaulted.program.state ≠ .boundaryWait := h
  unfold Part.faultSettled
  split
  · rw [Part.settleBlowdown_elsewhere haway]; rfl
  · exact (Part.refuseWaiting_halts haway).mode

/-- R81: the boiler enters FAULT. -/
theorem Part.enterFault_leaves (p : Part) : p.enterFault.boiler.state = .fault
    ∧ p.enterFault.power.relay = p.power.relay
    ∧ (p.program.state ≠ .boundaryWait → p.enterFault.mode = p.mode) := by
  have hsupply : p.faultSettled.supply.relay = p.supply.relay := by rw [p.faultSettled_calm.supply]
  have hrelay : p.faultSettled.power.relay = p.power.relay := hsupply
  obtain ⟨hboiler, hpower⟩ := Part.descaleBoilerFault_leaves p.faultSettled_state
  rw [Part.enterFault_eq]
  split
  · next h => exact ⟨h, rfl, fun _ => rfl⟩
  split
  · exact ⟨by rw [hboiler, p.faultSettled_state], by rw [hpower, hrelay], fun h => by
      rw [Part.descaleBoilerFault_mode, Part.faultSettled_mode h]⟩
  · exact ⟨p.faultSettled_state, hrelay, Part.faultSettled_mode⟩

theorem Part.cancelStandby_leaves (p : Part) : p.cancelStandby.boiler = p.boiler ∧ p.cancelStandby.power = p.power
    ∧ p.cancelStandby.mode.mode = if p.mode.mode = .standbyPending then .active else p.mode.mode := by
  unfold Part.cancelStandby
  split
  · exact ⟨by simp, by simp, by simp⟩
  · exact ⟨rfl, rfl, rfl⟩

/-- R81, R142, R146: what a steam fault leaves. -/
theorem Part.steamEffects_leaves (p : Part) : p.steamEffects.boiler.state = .fault ∧ p.steamEffects.power.relay = false
    ∧ (p.program.state ≠ .boundaryWait →
      p.steamEffects.mode.mode = if p.mode.mode = .standbyPending then .active else p.mode.mode) := by
  obtain ⟨hstate, hrelay, hmode⟩ := p.withdrawBoiler.enterFault_leaves
  obtain ⟨hboiler, hpower, hcancelled⟩ := p.withdrawBoiler.enterFault.cancelStandby_leaves
  rw [Part.withdrawBoiler_program, Part.withdrawBoiler_mode] at hmode
  rw [Part.steamEffects, hboiler, hpower, hcancelled]
  exact ⟨hstate, hrelay.trans (Part.withdrawBoiler_relay p), fun h => by rw [hmode h]⟩

/-! ### FAN_STALL (R11, R146; log entry 18) -/

/-- R11: cooking in a fan mode, whose demand FAN_STALL removes. -/
def Part.fanHeat (p : Part) : Prop :=
  p.climate.state ∈ [.preheat, .regulate] ∧ ∃ c, p.climate.params = some c
    ∧ c.mode ∈ [.hotAir, .hotAirBottom, .grillFan, .steam, .combi]

theorem Part.stallEffects_fanHeat {p : Part} (h : p.fanHeat) : p.stallEffects = p.noDemand := by
  obtain ⟨hs, c, hc, hm⟩ := h
  have hactive : p.climate.state.active = true := by
    rw [ClimateState.active_iff]; simpa using hs
  simp [Part.stallEffects, hc, hactive, (HeatMode.fanMode_iff _).2 hm]

theorem Part.stallEffects_other {p : Part} (h : ¬p.fanHeat) : p.stallEffects = p := by
  unfold Part.stallEffects
  split
  · next c hc =>
    refine if_neg fun hb => h ?_
    rw [Bool.and_eq_true, ClimateState.active_iff, HeatMode.fanMode_iff] at hb
    exact ⟨by simpa using hb.1, c, hc, hb.2⟩
  · rfl

/-! ### Causes (section 8.5) -/

/-- R50: the cause of NODE_MAP. -/
theorem Ring.mapUnsound_iff (r : Ring) : (!r.mapSound) = true ↔ (∃ n ∈ r.nodes, n.mismatch = true)
    ∨ ∃ k ∈ [NodeKind.cavityTemp, .boiler, .waterTank, .door],
      r.linked k = false ∨ (r.nodes.filter (fun n => n.kind = k)).length ≠ 1 := by
  rw [Bool.not_eq_true', Bool.eq_false_iff, Ne, Ring.mapSound, Ring.mapNamesRequired, Bool.and_eq_true, Bool.and_eq_true,
    List.all_eq_true, List.all_eq_true, List.all_eq_true, not_and_or, not_and_or]
  simp only [decide_eq_true_eq, Bool.not_eq_true', not_forall, exists_prop, Bool.not_eq_false, Bool.not_eq_true,
    and_or_left, exists_or, requiredKinds, ne_eq]
  exact or_assoc.trans (or_comm.trans or_assoc)

end Sys2Proof.Machine
end

section
/-! SUPPORT. What the clearing of a fault leaves (R81, R112, R149), and FAULT_CLEAR. -/

namespace Sys2Proof.Machine

/-! ### The exit from FAULT (R81, R112) -/

theorem Part.directHeat_state (p : Part) (target : Int) (h : p.boiler.state ≠ .fault) :
    (p.directHeat target).boiler.state ≠ .fault := by
  unfold Part.directHeat
  split
  · exact nofun
  · exact h

theorem Part.descaleFilled_state (p : Part) (h : p.boiler.state ≠ .fault) : p.descaleFilled.boiler.state ≠ .fault := by
  unfold Part.descaleFilled
  split
  · exact Part.directHeat_state _ _ h
  · exact Part.directHeat_state _ _ h
  · exact h

/-- R66: a completed fill leaves no FAULT. -/
theorem Part.fillDone_state (p : Part) : p.fillDone.boiler.state ≠ .fault := by
  have hready (q : Part) : q.boilerReady.boiler.state ≠ .fault := by rw [q.boilerReady_state]; decide
  unfold Part.fillDone
  dsimp only
  split
  · unfold Part.boilerSteamOrReady
    split
    · exact nofun
    · exact hready _
  · rw [Part.normalFilled_eq]
    split
    · exact nofun
    · exact hready _
    · exact nofun
  · exact Part.descaleFilled_state _ (hready _)
  · exact Part.descaleFilled_state _ (hready _)
  all_goals exact hready _

theorem Part.startFill_state (p : Part) (purpose : Purpose) (next : Continuation) :
    (p.startFill purpose next).boiler.state ≠ .fault := by
  rw [Part.startFill_eq]
  repeat' split
  · exact Part.fillDone_state _
  · rw [Part.runFill_boiler]
    dsimp only
    split <;> decide
  · exact nofun

theorem Part.directFill_state {p : Part} (purpose : Purpose) (h : p.boiler.state ≠ .fault) :
    (p.directFill purpose).boiler.state ≠ .fault := by
  unfold Part.directFill
  split
  · exact Part.startFill_state _ _ _
  · exact h

theorem Part.descaleEnd_boiler (p : Part) :
    p.descaleEnd.boiler = { p.boiler with owner := .none, continuation := .none } := by
  unfold Part.descaleEnd
  split <;> rfl

theorem Part.nextRinse_state {p : Part} (h : p.boiler.state ≠ .fault) : p.nextRinse.boiler.state ≠ .fault := by
  unfold Part.nextRinse
  dsimp only
  split
  · exact Part.directFill_state _ h
  · rw [Part.descaleEnd_boiler]; exact h

/-- R105, R108, R109: a completed drain brings the boiler into no FAULT. -/
theorem Part.descaleDrained_state {p : Part} (h : p.boiler.state ≠ .fault) : p.descaleDrained.boiler.state ≠ .fault := by
  unfold Part.descaleDrained
  repeat' split
  · exact Part.directFill_state _ h
  · exact h
  · rw [Part.descaleEnd_boiler]; exact h
  · exact Part.nextRinse_state h
  · exact h

@[simp] theorem Part.directFill_mode (p : Part) (purpose : Purpose) : (p.directFill purpose).mode = p.mode := by
  unfold Part.directFill; split <;> simp
@[simp] theorem Part.scaleDescaled_mode (p : Part) : p.scaleDescaled.mode = p.mode := by simp [Part.scaleDescaled]
@[simp] theorem Part.descaleEnd_mode (p : Part) : p.descaleEnd.mode = p.mode := by
  unfold Part.descaleEnd; split <;> simp
@[simp] theorem Part.nextRinse_mode (p : Part) : p.nextRinse.mode = p.mode := by
  unfold Part.nextRinse; dsimp only; split <;> simp
@[simp] theorem Part.descaleDrained_mode (p : Part) : p.descaleDrained.mode = p.mode := by
  unfold Part.descaleDrained; repeat' split
  all_goals simp [Part.enterDose]

/-- R81, R112: the boiler leaves FAULT for a NORMAL drain where LOW_WET is wet, and else for EMPTY, from which the sequencer
may go on. -/
theorem Part.exitFault_eq {p : Part} (h : p.boiler.state = .fault) : p.exitFault =
    if p.ring.image.lowWet then p.startDrain .normal p.drainReport
    else if p.boiler.owner = .descale ∧ (p.descale.phase = .drainFirst ∨ p.descale.phase = .soakDrain) then
      Part.descaleDrained { p.boilerEmpty with descale.held := none }
    else p.boilerEmpty := by
  rw [Part.exitFault, if_neg (not_not.2 h)]
  rfl

theorem Part.exitFault_of_ne {p : Part} (h : p.boiler.state ≠ .fault) : p.exitFault = p := if_pos h

@[simp] theorem Part.exitFault_mode (p : Part) : p.exitFault.mode = p.mode := by
  by_cases h : p.boiler.state = .fault
  · rw [Part.exitFault_eq h]
    repeat' split
    all_goals simp
  · rw [Part.exitFault_of_ne h]

theorem Part.exitFault_state (p : Part) : p.exitFault.boiler.state ≠ .fault := by
  by_cases h : p.boiler.state = .fault
  · rw [Part.exitFault_eq h]
    repeat' split
    · rcases p.startDrain_state .normal p.drainReport with hs | hs <;> rw [hs] <;> decide
    · exact Part.descaleDrained_state nofun
    · exact nofun
  · rwa [Part.exitFault_of_ne h]

/-! ### The flag (R149) -/

/-- R149: the flag has been cleared, and SAFE_STOP has ended with the last critical one. -/
def Part.flagCleared (p : Part) (k : FaultKind) : Part :=
  if p.critical && !(p.unlatch k).critical && (p.unlatch k).mode.mode = .safeStop then (p.unlatch k).setMode .active
  else p.unlatch k

theorem Part.clearFault_eq (p : Part) (k : FaultKind) : p.clearFault k =
    if p.steamFault && !(p.flagCleared k).steamFault then (p.flagCleared k).exitFault else p.flagCleared k := rfl

theorem Part.flagCleared_leaves (p : Part) (k : FaultKind) :
    let q := p.flagCleared k
    q.mode.faults = p.mode.faults &&& ~~~ faultFlag k
      ∧ q.mode.first = (if p.mode.faults &&& ~~~ faultFlag k = 0 then none else p.mode.first)
      ∧ q.boiler = p.boiler ∧ q.climate = p.climate ∧ q.program = p.program ∧ q.ring = p.ring
      ∧ q.descale = p.descale
      ∧ q.mode.mode = (if p.critical = true ∧ (p.unlatch k).critical = false ∧ p.mode.mode = .safeStop then .active
          else p.mode.mode) := by
  have hmode : (p.unlatch k).mode.mode = p.mode.mode := rfl
  dsimp only
  unfold Part.flagCleared
  by_cases h : p.critical = true ∧ (p.unlatch k).critical = false ∧ p.mode.mode = .safeStop
  · rw [if_pos (by simp [h, hmode]), if_pos h, Part.setMode_mode]
    exact ⟨rfl, rfl, by simp, by simp, by simp, by simp, by simp, rfl⟩
  · rw [if_neg (by simpa [hmode, and_assoc] using h), if_neg h]
    exact ⟨rfl, rfl, rfl, rfl, rfl, rfl, rfl, rfl⟩

@[simp] theorem Part.clearFault_mode (p : Part) (k : FaultKind) : (p.clearFault k).mode = (p.flagCleared k).mode := by
  rw [Part.clearFault_eq]; split <;> simp

/-- R149: the fault set after a clearing is that of the flag's clearing, so are its classes. -/
theorem Part.clearFault_classes (p : Part) (k : FaultKind) :
    (p.clearFault k).mode.faults = p.mode.faults &&& ~~~ faultFlag k
      ∧ (p.clearFault k).critical = (p.unlatch k).critical
      ∧ (p.clearFault k).steamFault = (p.flagCleared k).steamFault := by
  have hfaults : (p.clearFault k).mode.faults = p.mode.faults &&& ~~~ faultFlag k := by
    rw [Part.clearFault_mode, (p.flagCleared_leaves k).1]
  exact ⟨hfaults, congrArg criticalLatched hfaults, by rw [Part.steamFault, Part.clearFault_mode]; rfl⟩

/-- R146: a kind is of one class, so the clearing that ends the critical faults leaves the steam faults as they are. -/
theorem Part.clearFault_oneClass {p : Part} {k : FaultKind} (hc : p.critical = true)
    (hr : (p.clearFault k).critical = false) : (p.clearFault k).steamFault = p.steamFault := by
  have hset := (p.clearFault_classes k).1
  obtain ⟨j, hj, hf⟩ := (criticalLatched_iff _).1 hc
  have hj' : ¬hasFault (p.clearFault k).mode.faults j = true := fun h => by
    have hlatched : (p.clearFault k).critical = true := (criticalLatched_iff _).2 ⟨j, hj, h⟩
    rw [hr] at hlatched
    cases hlatched
  rw [hset, hasFault_clear, hf] at hj'
  have hjk : j = k := by simpa using hj'
  subst hjk
  simp only [Part.steamFault, hset, steamLatched, hasFault_clear]
  revert hj
  cases j <;> simp

/-! ### FAULT_CLEAR (R149) -/

theorem faultOf_unknown {n : Nat} (h : 10 < n) : faultOf n = none := by
  unfold faultOf
  split <;> first | rfl | omega

theorem Part.faultClear_unknown {p : Part} {kind : Byte} (h : 10 < kind.toNat) :
    p.faultClear kind = (p, ⟨.badValue, []⟩) := by
  rw [Part.faultClear, faultOf_unknown h]; rfl

/-- R149: FAULT_CLEAR by the flag and its cause. -/
theorem Part.faultClear_eq {p : Part} {kind : Byte} {k : FaultKind} (h : faultOf kind.toNat = some k) :
    p.faultClear kind = if hasFault p.mode.faults k = false then (p, ⟨.ok, []⟩)
      else if p.causePresent k then (p, ⟨.faultActive, []⟩) else (p.clearFault k, ⟨.ok, []⟩) := by
  rw [Part.faultClear, h]
  simp only [Bool.not_eq_true']
  rfl

/-- R149: what FAULT_CLEAR leaves of a latched fault whose cause has gone. -/
theorem Part.clearFault_leaves {p : Part} (k : FaultKind) :
    let r := p.clearFault k
    (∀ j, hasFault r.mode.faults j = true ↔ j ≠ k ∧ hasFault p.mode.faults j = true)
      ∧ r.mode.first = (if r.mode.faults = 0 then none else p.mode.first)
      ∧ (p.critical = true → r.critical = false → r.safetyOut = true
        ∧ r.mode.mode = (if p.mode.mode = .safeStop then .active else p.mode.mode)
        ∧ r.climate = p.climate ∧ r.program = p.program)
      ∧ (r.critical = p.critical → r.mode.mode = p.mode.mode)
      ∧ (p.steamFault = true → r.steamFault = false → r.boiler.state ≠ .fault
        ∧ (p.boiler.state = .fault →
          (p.ring.image.lowWet = true → r.boiler.purpose = some .normal
            ∧ (r.boiler.state = .coolWait ∨ r.boiler.state = .draining))
          ∧ (p.ring.image.lowWet = false →
            p.boiler.owner ≠ .descale ∨ p.descale.phase ∉ [.drainFirst, .soakDrain] → r.boiler.state = .empty)))
      ∧ (p.steamFault = r.steamFault → r.boiler = p.boiler) := by
  obtain ⟨hset, hcritical, hsteam⟩ := p.clearFault_classes k
  obtain ⟨hfaults, hfirst, hboiler, hclimate, hprogram, hring, hdescale, hmode⟩ := p.flagCleared_leaves k
  have hkept (h : (p.clearFault k).steamFault = p.steamFault) : p.clearFault k = p.flagCleared k := by
    rw [hsteam] at h
    rw [Part.clearFault_eq, h, if_neg (by simp)]
  dsimp only
  refine ⟨fun j => ?_, ?_, fun hc hr => ?_, fun h => ?_, fun hs hr => ?_, fun h => ?_⟩
  · rw [hset, hasFault_clear]
    simp [and_comm]
  · rw [Part.clearFault_mode, hfaults, hfirst]
  · have hone := hkept (Part.clearFault_oneClass hc hr)
    refine ⟨by rw [Part.safetyOut, hr]; rfl, ?_, by rw [hone, hclimate], by rw [hone, hprogram]⟩
    rw [hcritical] at hr
    rw [Part.clearFault_mode, hmode]
    simp [hc, hr]
  · rw [Part.clearFault_mode, hmode, ← hcritical, h, if_neg fun ⟨h1, h2, _⟩ => by rw [h1] at h2; cases h2]
  · rw [hsteam] at hr
    have hexit : p.clearFault k = (p.flagCleared k).exitFault := by rw [Part.clearFault_eq, hs, hr]; rfl
    rw [hexit]
    refine ⟨Part.exitFault_state _, fun hf => ?_⟩
    rw [← hboiler] at hf
    rw [Part.exitFault_eq hf, hring, hboiler, hdescale]
    refine ⟨fun hl => ?_, fun hl ho => ?_⟩
    · rw [if_pos hl]
      exact ⟨(Part.startDrain_leaves _ _ _).1, Part.startDrain_state _ _ _⟩
    · rw [if_neg (by simp [hl]), if_neg fun ⟨h1, h2⟩ => ho.elim (fun h => h h1) fun h => h (by simpa using h2)]
      rfl
  · rw [hkept h.symm, hboiler]

/-- Settles O58: a raise by the class of the kind, the causes by the table, and FAULT_CLEAR by the flag and its cause. -/
theorem faultsLatchAndClear : Obligations.FaultsLatchAndClear := by
  refine ⟨fun p k => ⟨Part.raiseFault_latched, Part.raiseFault_set, fun h hc hk => ?critical, fun h hk => ?steam,
    fun h hk => ?stall, fun h hk => ?warning⟩, fun p => ?causes,
    fun s kind hl ha => ⟨fun hn => ?unknown, fun k hk => ?clear⟩⟩
  case critical =>
    have hset := (Part.raiseFault_set h).1 k
    have hlatched : (p.raiseFault k).critical = true := (criticalLatched_iff _).2 ⟨k, hk, hset.2 (.inl rfl)⟩
    refine ⟨by rw [Part.safetyOut, hlatched]; rfl, ?_⟩
    rw [Part.raiseFault_critical h hc hk]
    exact (p.latch k).criticalEffects_leaves
  case steam =>
    rw [Part.raiseFault_steam h hk]
    exact (p.latch k).steamEffects_leaves
  case stall =>
    subst hk
    have hraise : p.raiseFault .fanStall = (p.latch .fanStall).stallEffects :=
      (Part.raiseFault_fanStall p).trans (if_neg (by simp [h]))
    dsimp only
    rw [hraise]
    by_cases hf : (p.latch .fanStall).fanHeat
    · rw [Part.stallEffects_fanHeat hf]
      exact ⟨rfl, (if_pos hf).symm, rfl, rfl, rfl, rfl, rfl⟩
    · rw [Part.stallEffects_other hf]
      exact ⟨rfl, (if_neg hf).symm, rfl, rfl, rfl, rfl, rfl⟩
  case warning =>
    subst hk
    rw [Part.raiseFault_storeDefaulted, if_neg (by simp [h])]
    rfl
  case causes =>
    refine ⟨Iff.rfl, ?_, ?_, p.ring.mapUnsound_iff, decide_eq_true_iff, Iff.rfl, ?_, ?_, nofun, nofun, nofun⟩ <;>
      exact iff_of_eq (Bool.not_eq_true' _)
  case unknown => exact exec_declines hl ha rfl (Part.faultClear_unknown hn) rfl
  case clear =>
    have hclear := Part.faultClear_eq (p := s.part) hk
    refine ⟨fun hf hc => ?_, fun hf => ?_, fun hf hc => ⟨?_, s.part.clearFault_leaves k⟩⟩
    · exact exec_declines hl ha rfl (hclear.trans (by rw [if_neg (by simp [hf]), if_pos hc])) rfl
    · exact exec_accepts hl ha rfl (hclear.trans (if_pos hf)) rfl
    · exact exec_accepts hl ha rfl (hclear.trans (by rw [if_neg (by simp [hf]), if_neg (by simp [hc])])) rfl

end Sys2Proof.Machine
end

section
/-! SUPPORT. The stored forms of the items (R178, R184) and their values (O41). -/

namespace Sys2Proof.Machine

/-! ### Fields and their bytes (R182, R184) -/

theorem natBytes_halfOf (a b : Byte) : natBytes (halfOf a b).toNat = [a, b] := by
  have hhi : hiByte (halfOf a b) = a := BitVec.extractLsb'_append_eq_left
  have hlo : loByte (halfOf a b) = b := BitVec.extractLsb'_append_eq_right
  rw [natBytes, BitVec.ofNat_toNat, BitVec.setWidth_eq, halfBytes, hhi, hlo]

theorem halfOf_natBytes {n : Nat} (h : n ≤ 65535) :
    (halfOf (hiByte (BitVec.ofNat 16 n)) (loByte (BitVec.ofNat 16 n))).toNat = n := by
  rw [halfOf_bytes]
  exact Nat.mod_eq_of_lt (by omega)

theorem toNat_byteOf {n : Nat} (h : n ≤ 255) : (byteOf n).toNat = n := Nat.mod_eq_of_lt (by omega)

theorem flagOf_byteOf (b : Bool) : flagOf (byteOf b.toNat) = some b := by cases b <;> rfl

theorem byteOf_of_flagOf {b : Byte} {f : Bool} (h : flagOf b = some f) : byteOf f.toNat = b := by
  unfold flagOf at h
  split at h
  · next hb => cases h; exact hb.symm
  · split at h
    · next hb => cases h; exact hb.symm
    · cases h

theorem descalePhaseOf_code (f : DescalePhase) : descalePhaseOf (byteOf (descalePhaseCode f)).toNat = some f := by
  cases f <;> rfl

theorem code_of_descalePhaseOf {n : Nat} {f : DescalePhase} (h : descalePhaseOf n = some f) : descalePhaseCode f = n := by
  unfold descalePhaseOf at h
  split at h <;> cases h <;> rfl

theorem nodeKindOf_code (k : NodeKind) : nodeKindOf (byteOf (nodeKindCode k)).toNat = some k := by
  cases k <;> rfl

theorem code_of_nodeKindOf {n : Nat} {k : NodeKind} (h : nodeKindOf n = some k) : nodeKindCode k = n := by
  unfold nodeKindOf at h
  split at h <;> cases h <;> rfl

/-! ### Values and their bytes (R184) -/

section
variable {item : Nat}

theorem readValue_number {n : Nat} (hi : item < 22) (hr : item ∉ [14, 15, 16]) (h : n ≤ 65535) :
    readValue item (ItemValue.number n).bytes = some (.number n) := by
  obtain ⟨h14, h15, h16⟩ : item ≠ 14 ∧ item ≠ 15 ∧ item ≠ 16 := by simpa using hr
  simp only [readValue, if_neg h14, if_neg h15, if_neg h16, if_pos hi, ItemValue.bytes, natBytes, halfBytes]
  rw [halfOf_natBytes h]

theorem readValue_scale {load remainder : Nat} (hl : load ≤ 65535) (hr : remainder ≤ 99) :
    readValue 14 (ItemValue.scale load remainder).bytes = some (.scale load remainder) := by
  simp only [readValue, if_pos, ItemValue.bytes, natBytes, halfBytes, List.cons_append, List.nil_append]
  rw [halfOf_natBytes hl, toNat_byteOf (by omega)]

theorem readValue_blowdown {progress owed credit : Nat} (flush : Bool) (hp : progress ≤ 65535) (ho : owed ≤ 5)
    (hc : credit ≤ 2) : readValue 15 (ItemValue.blowdown progress owed credit flush).bytes
      = some (.blowdown progress owed credit flush) := by
  simp only [readValue, ItemValue.bytes, natBytes, halfBytes, List.cons_append, List.nil_append]
  rw [halfOf_natBytes hp, toNat_byteOf (by omega : owed ≤ 255), toNat_byteOf (by omega : credit ≤ 255), flagOf_byteOf]
  rfl

theorem readValue_descale {r : DescaleRecord} (hr : r.rinses ≤ 3) :
    readValue 16 (ItemValue.descale r).bytes = some (.descale r) := by
  simp only [readValue, if_neg (show (16 : Nat) ≠ 14 by decide), if_neg (show (16 : Nat) ≠ 15 by decide), if_pos,
    ItemValue.bytes, descalePhaseOf_code, flagOf_byteOf, toNat_byteOf (show r.rinses ≤ 255 by omega)]

theorem readValue_kind (k : NodeKind) (hi : 22 ≤ item) :
    readValue item (ItemValue.kind k).bytes = some (.kind k) := by
  simp only [readValue, if_neg (show item ≠ 14 by omega), if_neg (show item ≠ 15 by omega),
    if_neg (show item ≠ 16 by omega), if_neg (Nat.not_lt_of_le hi), ItemValue.bytes, nodeKindOf_code, Option.map_some]

/-- R184: bytes that are read as a value are that value's bytes. -/
theorem bytes_of_readValue {bytes : List Byte} {v : ItemValue} (h : readValue item bytes = some v) : v.bytes = bytes := by
  unfold readValue at h
  split at h
  · split at h
    · next a b c =>
      cases h
      simp only [ItemValue.bytes, natBytes_halfOf, byteOf_toNat, List.cons_append, List.nil_append]
    · cases h
  split at h
  · split at h
    · next a b c d e =>
      obtain ⟨flush, hf, rfl⟩ := Option.map_eq_some_iff.1 h
      simp only [ItemValue.bytes, natBytes_halfOf, byteOf_toNat, byteOf_of_flagOf hf, List.cons_append, List.nil_append]
    · cases h
  split at h
  · split at h
    · next a b c =>
      split at h
      · next phase owed hp ho =>
        cases h
        simp only [ItemValue.bytes, code_of_descalePhaseOf hp, byteOf_toNat, byteOf_of_flagOf ho]
      · cases h
    · cases h
  split at h
  · split at h
    · cases h; exact natBytes_halfOf _ _
    · cases h
  · split at h
    · obtain ⟨k, hk, rfl⟩ := Option.map_eq_some_iff.1 h
      simp only [ItemValue.bytes, code_of_nodeKindOf hk, byteOf_toNat]
    · cases h

/-! ### Stored forms (R178, R180) -/

/-- R180: an item is without damage where its form has the item's length and check byte and is read as a legal value. -/
theorem loadForm_eq_some_iff {f : StoredForm} {v : ItemValue} : loadForm item f = some v ↔
    (f.bytes.length = itemBytes item ∧ f.check = crc8 (byteOf item :: f.bytes)) ∧ readValue item f.bytes = some v
      ∧ legalValue item v = true := by
  unfold loadForm
  split
  · next hf =>
    cases hr : readValue item f.bytes with
    | none => simp [hf]
    | some w =>
      dsimp only
      split
      · next hl =>
        constructor
        · intro h
          cases h
          exact ⟨hf, rfl, hl⟩
        · exact fun h => h.2.1
      · next hl =>
        constructor
        · nofun
        · rintro ⟨-, hw, hv⟩
          cases hw
          exact absurd hv hl
  · next hf => exact ⟨nofun, fun h => absurd h.1 hf⟩

/-- R178, R180: a legal value that its bytes spell is read back from its stored form. -/
theorem loadForm_storedForm {v : ItemValue} (hlen : v.bytes.length = itemBytes item)
    (hr : readValue item v.bytes = some v) (hl : legalValue item v = true) :
    loadForm item (storedForm item v) = some v := loadForm_eq_some_iff.2 ⟨⟨hlen, rfl⟩, hr, hl⟩

/-- R175: the ranges lie within what two bytes carry. -/
theorem itemRange_bounds (item : Nat) : (itemRange item).1 ≤ (itemRange item).2 ∧ (itemRange item).2 ≤ 65535 := by
  unfold itemRange
  split <;> decide

theorem clampItem_le (item n : Nat) : clampItem item n ≤ 65535 := by
  obtain ⟨hlow, hhigh⟩ := itemRange_bounds item
  have hc := (clampNat_bounds n hlow).2
  unfold clampItem
  dsimp only
  repeat' split
  all_goals omega

end

/-! ### The values that an item's form may hold (R175, R184) -/

section
variable {bytes : List Byte} {v : ItemValue}

theorem number_of_readValue {item : Nat} (hi : item < 22) (hr : item ∉ [14, 15, 16]) (h : readValue item bytes = some v) :
    ∃ n, v = .number n := by
  obtain ⟨h14, h15, h16⟩ : item ≠ 14 ∧ item ≠ 15 ∧ item ≠ 16 := by simpa using hr
  simp only [readValue, if_neg h14, if_neg h15, if_neg h16, if_pos hi] at h
  split at h
  · cases h; exact ⟨_, rfl⟩
  · cases h

theorem scale_of_readValue (h : readValue 14 bytes = some v) : ∃ load remainder, v = .scale load remainder := by
  simp only [readValue, if_pos] at h
  split at h
  · cases h; exact ⟨_, _, rfl⟩
  · cases h

theorem blowdown_of_readValue (h : readValue 15 bytes = some v) :
    ∃ progress owed credit flush, v = .blowdown progress owed credit flush := by
  simp only [readValue, if_neg (show (15 : Nat) ≠ 14 by decide), if_pos] at h
  split at h
  · obtain ⟨flush, -, rfl⟩ := Option.map_eq_some_iff.1 h
    exact ⟨_, _, _, flush, rfl⟩
  · cases h

theorem descale_of_readValue (h : readValue 16 bytes = some v) : ∃ r, v = .descale r := by
  simp only [readValue, if_neg (show (16 : Nat) ≠ 14 by decide), if_neg (show (16 : Nat) ≠ 15 by decide), if_pos] at h
  split at h
  · split at h
    · cases h; exact ⟨_, rfl⟩
    · cases h
  · cases h

end

/-- Settles O41: each kind of value is read back from its bytes, bytes that are read as a value are that value's, and the
check byte of a stored form is the CRC of its bytes. -/
theorem storedFormsRoundTrip : Obligations.StoredFormsRoundTrip := by
  refine ⟨fun item n hi hr hn => ?_, fun load rest hl hr => ?_, fun progress owed credit flush hp ho hc ha => ?_,
    fun r hr => ?_, fun item k hi _ => ?_, fun item f v _ hf => ?_, fun item v check hc => ?_⟩
  · obtain ⟨h14, h15, h16⟩ : item ≠ 14 ∧ item ≠ 15 ∧ item ≠ 16 := by simpa using hr
    exact loadForm_storedForm (by simp [itemBytes, h14, h15, h16, hi, ItemValue.bytes, natBytes, halfBytes])
      (readValue_number hi hr (hn ▸ clampItem_le item n)) (by simpa [legalValue] using hn)
  · exact loadForm_storedForm rfl (readValue_scale hl hr) (by simpa [legalValue] using hr)
  · exact loadForm_storedForm rfl (readValue_blowdown flush hp ho hc) (by simp [legalValue, ho, hc, ha])
  · exact loadForm_storedForm rfl (readValue_descale hr) (by simpa [legalValue] using hr)
  · have hlen : itemBytes item = 1 := by
      rw [itemBytes, if_neg (by omega), if_neg (by omega), if_neg (by omega), if_neg (by omega)]
    exact loadForm_storedForm hlen.symm (readValue_kind k hi) rfl
  · obtain ⟨⟨-, hcheck⟩, hread, hlegal⟩ := loadForm_eq_some_iff.1 hf
    refine ⟨?_, hlegal⟩
    rw [storedForm, bytes_of_readValue hread, ← hcheck]
  · exact if_neg fun h => hc h.2

end Sys2Proof.Machine
end

section
/-! SUPPORT. The items as the load step reads them from their stored forms (R180). -/

namespace Sys2Proof.Machine

/-! ### Lists read by place -/

theorem getAt_eq_getD {α : Type} (d : α) (xs : List α) (n : Nat) : getAt d xs n = xs[n]?.getD d := by
  induction xs generalizing n with
  | nil => rfl
  | cons x xs ih =>
    cases n with
    | zero => rfl
    | succ n => exact (ih n).trans (by rw [List.getElem?_cons_succ])

/-! ### The items as read (R180) -/

/-- R180: a sound item at its value, a damaged one at its default. -/
theorem loadItem_eq (i : Nat) (f : StoredForm) :
    loadItem i f = ((loadForm i f).getD (defaultValue i), (loadForm i f).isNone) := by
  unfold loadItem
  cases loadForm i f <;> rfl

theorem getElem?_loadItems (n i : Nat) (flash : List StoredForm) :
    (loadItems n flash)[i]? = flash[i]?.map (loadItem (n + i)) := by
  induction flash generalizing n i with
  | nil => rfl
  | cons f rest ih =>
    cases i with
    | zero => rfl
    | succ i => simpa [loadItems, Nat.add_right_comm n 1 i, Nat.add_assoc] using ih (n + 1) i

/-- R180: the store with every item read from its stored form. -/
def Part.itemsLoaded (p : Part) (flash : List StoredForm) : Part :=
  { p with store.base := baseValues (loadItems 0 flash), store.defaulted := (loadItems 0 flash).map Prod.snd }

/-- R180: the damaged internal items queued for writing. -/
def Part.damageQueued (p : Part) : Part := ((p.queueDamaged 14).queueDamaged 15).queueDamaged 16

theorem Part.loadStep_eq (p : Part) (flash : List StoredForm) : p.loadStep flash =
    { (p.itemsLoaded flash).damageQueued.reportDamage.descaleLoaded.scaleLoaded.startReports with
      mode.startup := .frequency, power.measure := .waiting } := by
  unfold Part.loadStep Part.damageQueued Part.itemsLoaded
  rfl

theorem Part.itemsLoaded_defaulted (p : Part) {flash : List StoredForm} {i : Nat} {f : StoredForm}
    (hf : flash[i]? = some f) : getAt false (p.itemsLoaded flash).store.defaulted i = (loadForm i f).isNone := by
  simp [Part.itemsLoaded, getAt_eq_getD, getElem?_loadItems, hf, loadItem_eq]

theorem getAt_baseValues_ne {loaded : List (ItemValue × Bool)} {i : Nat} (hi : i ≠ 14) :
    getAt (.number 0) (baseValues loaded) i = getAt (.number 0) (loaded.map Prod.fst) i := by
  unfold baseValues
  dsimp only
  split
  · exact getAt_setAt_ne _ _ _ hi
  · rfl

theorem Part.itemsLoaded_base (p : Part) {flash : List StoredForm} {i : Nat} {f : StoredForm} (hi : i ≠ 14)
    (hf : flash[i]? = some f) :
    getAt (.number 0) (p.itemsLoaded flash).store.base i = (loadForm i f).getD (defaultValue i) := by
  rw [show (p.itemsLoaded flash).store.base = baseValues (loadItems 0 flash) from rfl, getAt_baseValues_ne hi]
  simp [getAt_eq_getD, getElem?_loadItems, hf, loadItem_eq]

/-! ### Damaged records queued (R180) -/

/-- No entry is queued and no defaults run is held: the store before the load step (R180). -/
structure Store.Fresh (t : Store) : Prop where
  queue : t.queue = []
  run : t.run = []

@[simp] theorem Part.queueDamaged_base (p : Part) (i : Nat) : (p.queueDamaged i).store.base = p.store.base := by
  unfold Part.queueDamaged Part.queueItem; split <;> simp
@[simp] theorem Part.queueDamaged_defaulted (p : Part) (i : Nat) :
    (p.queueDamaged i).store.defaulted = p.store.defaulted := by
  unfold Part.queueDamaged Part.queueItem; split <;> simp
@[simp] theorem Part.queueDamaged_run (p : Part) (i : Nat) : (p.queueDamaged i).store.run = p.store.run := by
  unfold Part.queueDamaged Part.queueItem; split <;> simp

theorem Part.queueDamaged_entry_self (p : Part) (i : Nat) : (p.queueDamaged i).store.entry i =
    if getAt false p.store.defaulted i then some ⟨i, getAt (.number 0) p.store.base i⟩ else p.store.entry i := by
  unfold Part.queueDamaged
  split
  · exact Store.enqueue_entry_self _ _ _
  · rfl

theorem Part.queueDamaged_entry_ne (p : Part) {i j : Nat} (h : j ≠ i) :
    (p.queueDamaged i).store.entry j = p.store.entry j := by
  unfold Part.queueDamaged
  split
  · exact Store.enqueue_entry_ne _ _ _ _ h
  · rfl

@[simp] theorem Part.damageQueued_base (p : Part) : p.damageQueued.store.base = p.store.base := by
  simp [Part.damageQueued]
@[simp] theorem Part.damageQueued_defaulted (p : Part) : p.damageQueued.store.defaulted = p.store.defaulted := by
  simp [Part.damageQueued]
@[simp] theorem Part.damageQueued_run (p : Part) : p.damageQueued.store.run = p.store.run := by
  simp [Part.damageQueued]

theorem Store.Fresh.entry {t : Store} (h : t.Fresh) (i : Nat) : t.entry i = none := by
  rw [Store.entry, h.queue]; rfl

/-- R180: exactly the damaged internal items have an entry, at their base values. -/
theorem Part.damageQueued_entry {p : Part} (h : p.store.Fresh) (i : Nat) : p.damageQueued.store.entry i =
    if (i = 14 ∨ i = 15 ∨ i = 16) ∧ getAt false p.store.defaulted i = true then some ⟨i, getAt (.number 0) p.store.base i⟩
    else none := by
  unfold Part.damageQueued
  by_cases h16 : i = 16
  · subst h16
    simp [Part.queueDamaged_entry_self, Part.queueDamaged_entry_ne, h.entry]
  · rw [Part.queueDamaged_entry_ne _ h16]
    by_cases h15 : i = 15
    · subst h15
      simp [Part.queueDamaged_entry_self, Part.queueDamaged_entry_ne, h.entry]
    · rw [Part.queueDamaged_entry_ne _ h15]
      by_cases h14 : i = 14
      · subst h14
        simp [Part.queueDamaged_entry_self, h.entry]
      · rw [Part.queueDamaged_entry_ne _ h14, h.entry]
        simp [h14, h15, h16]

/-- R180: every item is served at its base value. -/
theorem Part.damageQueued_served {p : Part} (h : p.store.Fresh) (i : Nat) :
    p.damageQueued.store.served i = getAt (.number 0) p.store.base i := by
  rw [Store.served, p.damageQueued_entry h, Part.damageQueued_run, Part.damageQueued_base, h.run]
  by_cases hq : (i = 14 ∨ i = 15 ∨ i = 16) ∧ getAt false p.store.defaulted i = true
  · rw [if_pos hq]
  · rw [if_neg hq]
    exact if_neg List.not_mem_nil

theorem Part.reset_itemsLoaded_fresh (flash : List StoredForm) : (Part.reset.itemsLoaded flash).store.Fresh := ⟨rfl, rfl⟩

/-! ### The items of the stored forms (R98, R114, R180) -/

/-- R180: the value of an item in the stored forms, or none where it is damaged or there is no form for it. -/
def loadedItem (flash : List StoredForm) (i : Nat) : Option ItemValue := flash[i]?.bind (loadForm i)

theorem loadedItem_of_form {flash : List StoredForm} {i : Nat} {f : StoredForm} (hf : flash[i]? = some f) :
    loadedItem flash i = loadForm i f := by rw [loadedItem, hf, Option.bind_some]

/-- An item with a value has a stored form that is read as it. -/
theorem form_of_loadedItem {flash : List StoredForm} {i : Nat} {v : ItemValue} (h : loadedItem flash i = some v) :
    ∃ f, loadForm i f = some v := by
  obtain ⟨f, -, hf⟩ := Option.bind_eq_some_iff.1 h
  exact ⟨f, hf⟩

section
variable (flash : List StoredForm)

theorem loaded_due : ∃ n, (loadedItem flash 13).getD (defaultValue 13) = .number n := by
  cases h : loadedItem flash 13 with
  | none => exact ⟨30000, rfl⟩
  | some v =>
    obtain ⟨f, hf⟩ := form_of_loadedItem h
    exact number_of_readValue (by decide) (by decide) (loadForm_eq_some_iff.1 hf).2.1

/-- R175, R180: an interval as loaded is at least 1000 mL. -/
theorem loaded_interval : ∃ n, (loadedItem flash 17).getD (defaultValue 17) = .number n ∧ 0 < n := by
  cases h : loadedItem flash 17 with
  | none => exact ⟨2000, rfl, by decide⟩
  | some v =>
    obtain ⟨f, hf⟩ := form_of_loadedItem h
    obtain ⟨-, hread, hlegal⟩ := loadForm_eq_some_iff.1 hf
    obtain ⟨n, rfl⟩ := number_of_readValue (by decide) (by decide) hread
    have hlow : 1000 ≤ clampItem 17 n := (clampNat_bounds n (by decide)).1
    have hclamped : clampItem 17 n = n := by simpa [legalValue] using hlegal
    exact ⟨n, rfl, by omega⟩

theorem loaded_scale (due : Nat) : ∃ load remainder, (loadedItem flash 14).getD (.scale due 0) = .scale load remainder := by
  cases h : loadedItem flash 14 with
  | none => exact ⟨due, 0, rfl⟩
  | some v =>
    obtain ⟨f, hf⟩ := form_of_loadedItem h
    exact scale_of_readValue (loadForm_eq_some_iff.1 hf).2.1

/-- R88, R180: a blowdown record as loaded lies within its bounds. -/
theorem loaded_blowdown : ∃ progress owed credit flush,
    (loadedItem flash 15).getD (defaultValue 15) = .blowdown progress owed credit flush
      ∧ owed ≤ 5 ∧ credit ≤ 2 ∧ (owed = 0 ∨ credit = 0) := by
  cases h : loadedItem flash 15 with
  | none => exact ⟨0, 0, 0, false, rfl, by decide, by decide, Or.inl rfl⟩
  | some v =>
    obtain ⟨f, hf⟩ := form_of_loadedItem h
    obtain ⟨-, hread, hlegal⟩ := loadForm_eq_some_iff.1 hf
    obtain ⟨progress, owed, credit, flush, rfl⟩ := blowdown_of_readValue hread
    exact ⟨progress, owed, credit, flush, rfl, by simpa [legalValue, and_assoc] using hlegal⟩

theorem loaded_descale : ∃ r, (loadedItem flash 16).getD (defaultValue 16) = .descale r := by
  cases h : loadedItem flash 16 with
  | none => exact ⟨.initial, rfl⟩
  | some v =>
    obtain ⟨f, hf⟩ := form_of_loadedItem h
    exact descale_of_readValue (loadForm_eq_some_iff.1 hf).2.1

end

/-- R98, R180: the blowdown record as served after the items were read lies within R88's bounds. -/
theorem Part.served_blowdown_bounded (flash : List StoredForm) {progress owed credit : Nat} {flush : Bool}
    (h : (Part.reset.itemsLoaded flash).damageQueued.store.served 15 = .blowdown progress owed credit flush) :
    owed ≤ 5 ∧ credit ≤ 2 ∧ (owed = 0 ∨ credit = 0) := by
  rw [Part.damageQueued_served (Part.reset_itemsLoaded_fresh flash)] at h
  cases hf : flash[15]? with
  | none =>
    have hmiss : getAt (.number 0) (Part.reset.itemsLoaded flash).store.base 15 = .number 0 := by
      rw [show (Part.reset.itemsLoaded flash).store.base = baseValues (loadItems 0 flash) from rfl,
        getAt_baseValues_ne (by decide)]
      simp [getAt_eq_getD, getElem?_loadItems, hf]
    rw [hmiss] at h
    cases h
  | some f =>
    obtain ⟨_, _, _, _, hread, hbounds⟩ := loaded_blowdown flash
    rw [Part.itemsLoaded_base _ (by decide) hf, ← loadedItem_of_form hf, hread] at h
    cases h
    exact hbounds

/-! ### What the load step leaves of the store (R180) -/

theorem Part.reportDamage_store (p : Part) : p.reportDamage.store = p.store := by
  unfold Part.reportDamage
  split
  · rw [Part.raiseFault_storeDefaulted]; split <;> rfl
  · rfl
theorem Part.descaleLoaded_store (p : Part) : p.descaleLoaded.store = p.store := by
  unfold Part.descaleLoaded; split <;> rfl
theorem Part.recordLoaded_store (p : Part) : p.recordLoaded.store = p.store := by
  unfold Part.recordLoaded; split <;> rfl

end Sys2Proof.Machine
end

section
/-! SUPPORT. What the bounds of R88 and R119 speak of, and the operations of the blocks that leave it alone. -/

namespace Sys2Proof.Machine

/-- What the bounds speak of: the executor's place in its program (R119) and the blowdown record's counts (R88). -/
structure BoundsView where
  stages : List Stage
  index : Nat
  runs : Bool
  owed : Nat
  credit : Nat

/-- The values of a part that the bounds speak of. -/
def Part.boundsView (p : Part) : BoundsView where
  stages := p.program.stages
  index := p.program.index
  runs := p.program.state.runs
  owed := p.scale.owed
  credit := p.scale.credit

/-- The bounds of a part, in the view's words. -/
theorem Part.bounded_iff (p : Part) : p.Bounded ↔ p.boundsView.stages.length ≤ 16
    ∧ (p.boundsView.runs = true → p.boundsView.index < p.boundsView.stages.length) ∧ p.boundsView.owed ≤ 5
    ∧ p.boundsView.credit ≤ 2 ∧ (p.boundsView.owed = 0 ∨ p.boundsView.credit = 0) :=
  ⟨fun h => ⟨h.stages, h.index, h.owed, h.credit, h.apart⟩, fun ⟨hs, hi, ho, hc, ha⟩ => ⟨hs, hi, ho, hc, ha⟩⟩

section
variable {p q : Part}

theorem Part.Bounded.of_view (h : p.Bounded) (e : q.boundsView = p.boundsView) : q.Bounded := by
  rw [Part.bounded_iff, e, ← Part.bounded_iff]; exact h

/-- The executor is at another stage of its program, or no longer runs it. -/
theorem Part.Bounded.of_place {i : Nat} {b : Bool} (h : p.Bounded)
    (e : q.boundsView = { p.boundsView with index := i, runs := b })
    (hi : b = true → i < p.program.stages.length) : q.Bounded := by
  rw [Part.bounded_iff, e]
  exact ⟨h.stages, hi, h.owed, h.credit, h.apart⟩

theorem Part.boundsView_congr (hg : q.program = p.program) (hs : q.scale = p.scale) : q.boundsView = p.boundsView := by
  rw [Part.boundsView, hg, hs, Part.boundsView]

end

/-! ### The regulator and the executor's conditions (R4, R124, R130, R131) -/

@[simp] theorem Part.raiseNotice_boundsView (p : Part) (n : Notice) : (p.raiseNotice n).boundsView = p.boundsView := rfl
@[simp] theorem Part.queueItem_boundsView (p : Part) (i : Nat) (v : ItemValue) :
    (p.queueItem i v).boundsView = p.boundsView := rfl

theorem Part.runs_of_current {p : Part} {st : Stage} (h : p.program.current = some st) : p.program.state.runs = true := by
  unfold Program.current at h
  split at h
  · assumption
  · cases h

theorem Part.waitFor_boundsView (p : Part) (r : WaitReason) :
    (p.waitFor r).boundsView = { p.boundsView with runs := true } := rfl

/-- A view whose program runs already. -/
theorem Part.boundsView_runs {p : Part} (h : p.program.state.runs = true) :
    { p.boundsView with runs := true } = p.boundsView := by rw [← h]; rfl

theorem Part.waitFor_boundsView_of_runs {p : Part} (h : p.program.state.runs = true) (r : WaitReason) :
    (p.waitFor r).boundsView = p.boundsView := (p.waitFor_boundsView r).trans (Part.boundsView_runs h)

/-- R124: the gate is passed in a running program alone. -/
@[simp] theorem Part.passGate_boundsView (p : Part) : p.passGate.boundsView = p.boundsView := by
  unfold Part.passGate
  split
  case h_1 h =>
    split
    · exact Part.waitFor_boundsView_of_runs (Part.runs_of_current h) .prompt
    · rfl
  · rfl

@[simp] theorem Part.tellReached_boundsView (p : Part) : p.tellReached.boundsView = p.boundsView := by
  unfold Part.tellReached
  dsimp only
  repeat' split
  · exact Part.passGate_boundsView _
  all_goals rfl

@[simp] theorem Part.cavityReached_boundsView (p : Part) : p.cavityReached.boundsView = p.boundsView :=
  Part.tellReached_boundsView _

theorem Part.boundsView_of_heatView {p q : Part} (h : q.heatView = p.heatView) : q.boundsView = p.boundsView :=
  have hview : q.heatView.boundsView = p.heatView.boundsView := congrArg Part.boundsView h
  hview

@[simp] theorem Part.demandOf_boundsView (p : Part) (st : ClimateState) (c : ClimateParams) :
    (p.demandOf st c).boundsView = p.boundsView := by rw [Part.demandOf_eq]; rfl

@[simp] theorem Part.cookingTested_boundsView (p : Part) (c : ClimateParams) :
    (p.cookingTested c).boundsView = p.boundsView := by
  rw [Part.boundsView_of_heatView (q := p.cookingTested c)
    (p := (p.cookingBegun c).demandOf (p.cookingBegun c).climate.state c)
    (by rw [Part.cookingTested, Part.ventAtStart_heatView, Part.writeTail_heatView]), Part.demandOf_boundsView]
  rfl

@[simp] theorem Part.writeClimate_boundsView (p : Part) (c : ClimateParams) :
    (p.writeClimate c).boundsView = p.boundsView := by
  unfold Part.writeClimate
  split
  · rw [Part.updateClimate_eq, Part.boundsView_of_heatView (Part.writeTail_heatView _ c), Part.rewriteDemand_eq,
      Part.rewritten_eq]
    rfl
  · rw [Part.startCooking_eq]
    split <;> simp

@[simp] theorem Part.endCooking_boundsView (p : Part) : p.endCooking.boundsView = p.boundsView :=
  Part.boundsView_congr p.endCooking_program p.endCooking_scale
@[simp] theorem Part.forcedOff_boundsView (p : Part) : p.forcedOff.boundsView = p.boundsView :=
  Part.boundsView_congr p.forcedOff_program p.forcedOff_scale
@[simp] theorem Part.climateDoorOpen_boundsView (p : Part) : p.climateDoorOpen.boundsView = p.boundsView := by
  unfold Part.climateDoorOpen; split <;> rfl
@[simp] theorem Part.climateDoorClose_boundsView (p : Part) : p.climateDoorClose.boundsView = p.boundsView := by
  unfold Part.climateDoorClose
  split
  · dsimp only
    split
    · exact (Part.cavityReached_boundsView _).trans (Part.demandOf_boundsView _ _ _)
    · exact Part.demandOf_boundsView _ _ _
  · rfl
@[simp] theorem Part.climateScan_boundsView (p : Part) : p.climateScan.boundsView = p.boundsView := by
  have hcool : p.coolRunEnd.boundsView = p.boundsView := by unfold Part.coolRunEnd; split <;> rfl
  have hend (q : Part) : q.ventEndSwitch.boundsView = q.boundsView := by
    unfold Part.ventEndSwitch; repeat' split
    all_goals rfl
  rw [Part.climateScan, hend, Part.boundsView_of_heatView (Part.ventTest_heatView _),
    Part.boundsView_of_heatView (Part.steamTest_heatView _), hcool]
@[simp] theorem Part.climatePeriod_boundsView (p : Part) : p.climatePeriod.boundsView = p.boundsView := by
  have hraise (q : Part) (rise : Bool) : (q.raiseReturn rise).boundsView = q.boundsView := by
    rw [Part.raiseReturn_eq]; rfl
  have hdemand (q : Part) (c : ClimateParams) (ts : Int) : (q.periodDemand c ts).boundsView = q.boundsView := by
    unfold Part.periodDemand; dsimp only; repeat' split
    · exact Part.cavityReached_boundsView _
    all_goals rfl
  unfold Part.climatePeriod
  repeat' split
  · rfl
  · rfl
  · exact (hdemand _ _ _).trans (hraise _ _)
@[simp] theorem Part.climateMainsLoss_boundsView (p : Part) : p.climateMainsLoss.boundsView = p.boundsView := by
  unfold Part.climateMainsLoss Part.stopVentDrive; split <;> rfl

/-- R130, R131: the test lets a running program wait at most. -/
@[simp] theorem Part.testDegraded_boundsView (p : Part) (beginning : Bool) :
    (p.testDegraded beginning).boundsView = p.boundsView := by
  unfold Part.testDegraded
  split
  case h_1 hs _ _ =>
    repeat' split
    · exact Part.waitFor_boundsView_of_runs (by rw [hs]; rfl) _
    · exact Part.passGate_boundsView p
    · rfl
  case h_2 hs _ _ =>
    split
    · exact Part.waitFor_boundsView_of_runs (by rw [hs]; rfl) _
    · rfl
  case h_3 => rfl
@[simp] theorem Part.probeGone_boundsView (p : Part) : p.probeGone.boundsView = p.boundsView := by
  unfold Part.probeGone
  split
  case h_3 => rfl
  all_goals
    next hs _ _ =>
      split
      · exact Part.waitFor_boundsView_of_runs (by rw [hs]; rfl) _
      · rfl

/-! ### Modes and the allocator (R36, R37, R137) -/

@[simp] theorem Part.setMode_boundsView (p : Part) (m : OpMode) : (p.setMode m).boundsView = p.boundsView :=
  Part.boundsView_congr (p.setMode_program m) (p.setMode_scale m)
@[simp] theorem Part.wake_boundsView (p : Part) : p.wake.boundsView = p.boundsView :=
  Part.boundsView_congr p.wake_program p.wake_scale
@[simp] theorem Part.withdrawCavity_boundsView (p : Part) : p.withdrawCavity.boundsView = p.boundsView := rfl
@[simp] theorem Part.withdrawBoiler_boundsView (p : Part) : p.withdrawBoiler.boundsView = p.boundsView :=
  Part.boundsView_congr p.withdrawBoiler_program p.withdrawBoiler_scale
@[simp] theorem Part.enterStandby_boundsView (p : Part) : p.enterStandby.boundsView = p.boundsView := by
  rw [Part.enterStandby_eq]; rfl
@[simp] theorem Part.endHold_boundsView (p : Part) : p.endHold.boundsView = p.boundsView := by
  rw [Part.endHold, Part.endCooking_boundsView, Part.setMode_boundsView]; rfl
theorem Part.enterHold_boundsView (p : Part) (setpoint : Int) (moist : Bool) :
    (p.enterHold setpoint moist).boundsView = p.boundsView := by
  rw [Part.enterHold, Part.setMode_boundsView]
  exact p.writeClimate_boundsView _
@[simp] theorem Part.safeStop_boundsView (p : Part) : p.safeStop.boundsView = p.boundsView := by
  unfold Part.safeStop; split
  · rfl
  · rw [Part.setMode_boundsView]; rfl
@[simp] theorem Part.cancelStandby_boundsView (p : Part) : p.cancelStandby.boundsView = p.boundsView := by
  unfold Part.cancelStandby; split <;> simp
@[simp] theorem Part.stallEffects_boundsView (p : Part) : p.stallEffects.boundsView = p.boundsView := by
  rcases p.stallEffects_eq with h | h <;> rw [h]
  rfl

/-! ### The boiler (R66 to R74) -/

@[simp] theorem Part.boilerReady_boundsView (p : Part) : p.boilerReady.boundsView = p.boundsView :=
  Part.boundsView_congr p.boilerReady_program p.boilerReady_scale
@[simp] theorem Part.boilerEndFill_boundsView (p : Part) : p.boilerEndFill.boundsView = p.boundsView :=
  Part.boundsView_congr p.boilerEndFill_program p.boilerEndFill_scale
@[simp] theorem Part.boilerSteamOrReady_boundsView (p : Part) : p.boilerSteamOrReady.boundsView = p.boundsView := by
  unfold Part.boilerSteamOrReady; split
  · rfl
  · exact p.boilerReady_boundsView
@[simp] theorem Part.startHeating_boundsView (p : Part) (t : Int) (n : Continuation) :
    (p.startHeating t n).boundsView = p.boundsView := rfl
@[simp] theorem Part.enterDraining_boundsView (p : Part) : p.enterDraining.boundsView = p.boundsView :=
  Part.boundsView_congr p.enterDraining_program p.enterDraining_scale
@[simp] theorem Part.startDrain_boundsView (p : Part) (u : Purpose) (n : Continuation) :
    (p.startDrain u n).boundsView = p.boundsView :=
  Part.boundsView_congr (p.startDrain_program u n) (p.startDrain_scale u n)
@[simp] theorem Part.startBlowdown_boundsView (p : Part) : p.startBlowdown.boundsView = p.boundsView :=
  Part.startDrain_boundsView _ _ _
@[simp] theorem Part.runFill_boundsView (p : Part) : p.runFill.boundsView = p.boundsView := by
  unfold Part.runFill; dsimp only; split <;> rfl
@[simp] theorem Part.pauseFill_boundsView (p : Part) (reason : PauseReason) :
    (p.pauseFill reason).boundsView = p.boundsView := rfl
@[simp] theorem Part.normalFilled_boundsView (p : Part) : p.normalFilled.boundsView = p.boundsView := by
  unfold Part.normalFilled; split <;> simp

/-! ### The sequencer outside its fills (R100 to R114) -/

@[simp] theorem Part.directHeat_boundsView (p : Part) (target : Int) : (p.directHeat target).boundsView = p.boundsView := by
  unfold Part.directHeat; split <;> rfl
@[simp] theorem Part.directDrain_boundsView (p : Part) (purpose : Purpose) :
    (p.directDrain purpose).boundsView = p.boundsView := by
  unfold Part.directDrain
  split
  case h_1 => rfl
  case h_2 => rfl
  case h_3 => rfl
  all_goals exact Part.startDrain_boundsView _ _ _
@[simp] theorem Part.enterSoakDrain_boundsView (p : Part) : p.enterSoakDrain.boundsView = p.boundsView :=
  Part.directDrain_boundsView _ _
@[simp] theorem Part.setRinseOwed_boundsView (p : Part) (b : Bool) : (p.setRinseOwed b).boundsView = p.boundsView := rfl
@[simp] theorem Part.descaleFilled_boundsView (p : Part) : p.descaleFilled.boundsView = p.boundsView := by
  unfold Part.descaleFilled
  split
  · exact Part.directHeat_boundsView _ _
  · exact Part.directHeat_boundsView _ _
  · rfl
@[simp] theorem Part.descaleEnd_boundsView (p : Part) : p.descaleEnd.boundsView = p.boundsView := by
  unfold Part.descaleEnd; split <;> rfl
@[simp] theorem Part.descaleHeated_boundsView (p : Part) : p.descaleHeated.boundsView = p.boundsView := by
  unfold Part.descaleHeated
  split
  · rfl
  · exact Part.directDrain_boundsView _ _
  · rfl
@[simp] theorem Part.descaleRewarm_boundsView (p : Part) : p.descaleRewarm.boundsView = p.boundsView := by
  unfold Part.descaleRewarm; repeat' split
  all_goals simp
@[simp] theorem Part.descaleDoseTimeout_boundsView (p : Part) : p.descaleDoseTimeout.boundsView = p.boundsView := by
  unfold Part.descaleDoseTimeout; split <;> rfl
@[simp] theorem Part.soakDone_boundsView (p : Part) : p.soakDone.boundsView = p.boundsView := by
  unfold Part.soakDone; split <;> simp
@[simp] theorem Part.descaleStop_boundsView (p : Part) : p.descaleStop.boundsView = p.boundsView := by
  rcases p.descaleAbort_cases with h | h | h | h | h <;> rw [Part.descaleStop, h]
  · rfl
  · exact Part.enterSoakDrain_boundsView _
  · rfl
  · rfl
@[simp] theorem Part.descaleCritical_boundsView (p : Part) : p.descaleCritical.boundsView = p.boundsView := by
  unfold Part.descaleCritical
  split
  · rfl
  · rfl
  · exact p.descaleStop_boundsView
@[simp] theorem Part.descaleBoilerFault_boundsView (p : Part) : p.descaleBoilerFault.boundsView = p.boundsView := by
  unfold Part.descaleBoilerFault; split <;> simp
  all_goals rfl
@[simp] theorem Part.descaleRecover_boundsView (p : Part) : p.descaleRecover.boundsView = p.boundsView :=
  Part.enterSoakDrain_boundsView _
@[simp] theorem Part.descaleNoRecovery_boundsView (p : Part) : p.descaleNoRecovery.boundsView = p.boundsView := by
  unfold Part.descaleNoRecovery; split <;> rfl
@[simp] theorem Part.storeDescale_boundsView (p : Part) : p.storeDescale.boundsView = p.boundsView := by
  unfold Part.storeDescale; split <;> rfl

/-! ### The executor's places (R119, R121, R123) -/

theorem Part.pauseProgram_boundsView (p : Part) (r : WaitReason) :
    (p.pauseProgram r).boundsView = { p.boundsView with runs := true } := rfl
theorem Part.programEnded_boundsView (p : Part) : p.programEnded.boundsView = { p.boundsView with runs := false } := rfl
theorem Part.returnRunning_boundsView (p : Part) : p.returnRunning.boundsView = { p.boundsView with runs := true } :=
  Part.testDegraded_boundsView _ _
theorem Part.beginStage_boundsView (p : Part) (st : Stage) :
    (p.beginStage st).boundsView = { p.boundsView with runs := true } := by
  have hwritten : (p.stageWritten st).boundsView = { p.boundsView with runs := true } := by
    rw [← p.writeClimate_boundsView st.params]; rfl
  have hgated : (p.stageGated st).boundsView = { p.boundsView with runs := true } := by
    unfold Part.stageGated; split <;> exact hwritten
  rw [Part.beginStage_eq, Part.testDegraded_boundsView, hgated]
theorem Part.enterStage_boundsView (p : Part) (i : Nat) :
    (p.enterStage i).boundsView = { p.boundsView with index := i, runs := true } := by
  unfold Part.enterStage
  dsimp only
  repeat' split
  · rfl
  · exact Part.beginStage_boundsView _ _
  · rfl
theorem Part.endAction_boundsView (p : Part) : p.endAction.boundsView = { p.boundsView with runs := false } := by
  rw [Part.endAction_eq]
  split
  · rw [Part.programEnded_boundsView, Part.enterHold_boundsView]
  · rw [Part.programEnded_boundsView, Part.endCooking_boundsView]

end Sys2Proof.Machine
end

section
/-! SUPPORT. The bounds of the executor and of the blowdown record (R88, R119) through the operations that move them, up to the reactions. -/

namespace Sys2Proof.Machine

/-! ### The blowdown record (R88, R89, R95) -/

/-- R88: the bounds of the blowdown record. -/
def Scale.Bounded (t : Scale) : Prop := t.owed ≤ 5 ∧ t.credit ≤ 2 ∧ (t.owed = 0 ∨ t.credit = 0)

/-- R88, R89: the loop spends the credit before owed rises, and owed stops at five. -/
theorem Scale.Bounded.evaporate (interval : Nat) : ∀ (n : Nat) {t : Scale}, t.Bounded → (t.evaporate interval n).Bounded
  | 0, _, h => h
  | n + 1, t, ⟨ho, hc, ha⟩ => by
    unfold Scale.evaporate
    dsimp only
    repeat' split
    · exact ⟨ho, hc, ha⟩
    · exact Scale.Bounded.evaporate interval n ⟨ho, by dsimp only; omega, by dsimp only; omega⟩
    · exact Scale.Bounded.evaporate interval n ⟨by dsimp only; omega, hc, by dsimp only; omega⟩
    · exact ⟨ho, hc, ha⟩

section
variable {p q : Part}

theorem Part.Bounded.scale (h : p.Bounded) : p.scale.Bounded := ⟨h.owed, h.credit, h.apart⟩

/-- The blowdown record changes within its bounds. -/
theorem Part.Bounded.of_scale (h : p.Bounded) (hg : q.program = p.program) (hs : q.scale.Bounded) : q.Bounded :=
  ⟨hg ▸ h.stages, hg ▸ h.index, hs.1, hs.2.1, hs.2.2⟩

theorem Part.Bounded.accrueEvaporation (h : p.Bounded) (volume : Nat) : (p.accrueEvaporation volume).Bounded :=
  h.of_scale rfl (Scale.Bounded.evaporate _ 100 h.scale)

theorem Part.dueTest_boundsView (p : Part) : p.dueTest.boundsView = p.boundsView := by
  unfold Part.dueTest; split <;> rfl

theorem Part.Bounded.accrue (h : p.Bounded) (volume : Nat) : (p.accrue volume).Bounded := by
  have hdeposit : (p.deposit volume).Bounded := h.of_view rfl
  have hdue := (hdeposit.accrueEvaporation volume).of_view (Part.dueTest_boundsView _)
  unfold Part.accrue
  dsimp only
  split <;> exact hdue.of_view rfl

theorem Part.queueIfOwing_boundsView (p q : Part) : (p.queueIfOwing q).boundsView = q.boundsView := by
  unfold Part.queueIfOwing; split <;> rfl
theorem Part.queueIfChanged_boundsView (p q : Part) : (p.queueIfChanged q).boundsView = q.boundsView := by
  unfold Part.queueIfChanged; split <;> rfl

theorem Part.Bounded.pullIn (h : p.Bounded) : p.pullIn.Bounded := by
  obtain ⟨ho, hc, ha⟩ := h.scale
  unfold Part.pullIn
  repeat' split
  · exact h.of_scale rfl ⟨by dsimp only; omega, hc, by dsimp only; omega⟩
  · exact h.of_scale rfl ⟨ho, by dsimp only; omega, by dsimp only; omega⟩
  · exact h

theorem Part.Bounded.repay (h : p.Bounded) : p.repay.Bounded :=
  h.of_scale rfl ⟨(Nat.sub_le _ _).trans h.owed, h.credit, h.apart.imp_left fun h0 => by rw [Part.repay, h0]⟩

theorem Part.Bounded.scaleDrained (h : p.Bounded) (purpose : Option Purpose) : (p.scaleDrained purpose).Bounded := by
  have hqueued {q : Part} (hq : q.Bounded) : (p.queueIfOwing q).queueScale.Bounded :=
    hq.of_view (p.queueIfOwing_boundsView q)
  unfold Part.scaleDrained
  split
  · exact hqueued h.pullIn
  · exact hqueued h.repay
  all_goals exact hqueued (h.of_view rfl)

theorem Part.Bounded.scaleTold (h : p.Bounded) (item : Nat) : (p.scaleTold item).Bounded := by
  unfold Part.scaleTold
  repeat' split
  · exact h.of_view p.dueTest_boundsView
  · exact (h.accrueEvaporation 0).of_view (Part.queueIfChanged_boundsView _ _)
  · exact h

/-! ### Fills (R65, R66, R70, R109) -/

theorem Part.Bounded.handOver (h : p.Bounded) : p.handOver.Bounded := by
  unfold Part.handOver
  split
  · exact h.accrue _
  · exact h

theorem Part.Bounded.fillDone (h : p.Bounded) : p.fillDone.Bounded := by
  have hmeasured : p.fillMeasured.Bounded := h.of_view rfl
  unfold Part.fillDone
  dsimp only
  split
  · exact (hmeasured.accrue (p.boiler.flow / 2)).of_view (Part.boilerSteamOrReady_boundsView _)
  all_goals exact hmeasured.of_view (by simp [Part.fillMeasured])

theorem Part.Bounded.startFill (h : p.Bounded) (purpose : Purpose) (next : Continuation) :
    (p.startFill purpose next).Bounded := by
  have hbegun : (p.fillBegun purpose next).Bounded := h.of_view rfl
  rw [Part.startFill_eq]
  repeat' split
  · exact hbegun.fillDone
  · exact hbegun.of_view (Part.runFill_boundsView _)
  · exact hbegun.of_view (Part.pauseFill_boundsView _ _)

theorem Part.Bounded.normalFill (h : p.Bounded) : p.normalFill.Bounded := h.startFill _ _

theorem Part.Bounded.directFill (h : p.Bounded) (purpose : Purpose) : (p.directFill purpose).Bounded := by
  have hgiven : Part.Bounded { p with descale.held := none } := h.of_view rfl
  unfold Part.directFill
  split
  · exact hgiven.startFill _ _
  · exact h.of_view rfl

theorem Part.Bounded.giveHeld (h : p.Bounded) : p.giveHeld.Bounded := by
  unfold Part.giveHeld
  repeat' split
  · exact h.directFill _
  · exact h.of_view (p.directHeat_boundsView _)
  · exact h.of_view (p.directDrain_boundsView _)
  all_goals exact h

theorem Part.Bounded.enterDose (h : p.Bounded) : p.enterDose.Bounded :=
  have hdose : (p.descalePhase .dose none).Bounded := h.of_view rfl
  hdose.directFill _

theorem Part.Bounded.enterDrainFirst (h : p.Bounded) : p.enterDrainFirst.Bounded := by
  have hdrain : (p.descalePhase .drainFirst none).Bounded := h.of_view rfl
  unfold Part.enterDrainFirst
  dsimp only
  split
  · exact hdrain.of_view (Part.directDrain_boundsView _ _)
  · exact hdrain.enterDose

theorem Part.Bounded.nextRinse (h : p.Bounded) : p.nextRinse.Bounded := by
  have hcounted : Part.Bounded { p with
      descale.record.rinses := bump 3 p.descale.record.rinses, descale.rinseStep := some .fill } := h.of_view rfl
  unfold Part.nextRinse
  dsimp only
  split
  · exact hcounted.directFill _
  · exact h.of_view (Part.descaleEnd_boundsView _)

theorem Part.Bounded.descaleDrained (h : p.Bounded) : p.descaleDrained.Bounded := by
  unfold Part.descaleDrained
  repeat' split
  · exact h.enterDose
  · exact h.of_view rfl
  · exact h.of_view p.descaleEnd_boundsView
  · exact h.nextRinse
  · exact h

/-! ### The executor (R121 to R135) -/

/-- R128: the next stage lies within the program, and after the last one the program ends. -/
theorem Part.Bounded.goOn (h : p.Bounded) : p.goOn.Bounded := by
  rw [Part.goOn_eq]
  split
  · exact h.of_place (i := p.program.index) (Part.endAction_boundsView _) nofun
  · exact h.of_place (Part.enterStage_boundsView _ _) fun _ => by omega

/-- A program whose index lies within it may run. -/
theorem Part.Bounded.of_running (h : p.Bounded) (hi : p.program.index < p.program.stages.length)
    (e : q.boundsView = { p.boundsView with runs := true }) : q.Bounded :=
  h.of_place (i := p.program.index) e fun _ => hi

theorem Part.Bounded.resumeProgram (h : p.Bounded) (hi : p.program.index < p.program.stages.length) :
    p.resumeProgram.Bounded := by
  unfold Part.resumeProgram
  dsimp only
  split
  case h_1 => exact h.of_running hi (Part.returnRunning_boundsView _)
  case h_2 =>
    split
    · exact h.of_running hi rfl
    · exact h.of_running hi (Part.returnRunning_boundsView _)
  case h_3 => exact h.of_running hi rfl
  case h_4 =>
    split
    · exact Part.Bounded.goOn (h.of_running hi rfl)
    · exact h.of_running hi rfl
  all_goals exact h

theorem Part.Bounded.programMainsLoss (h : p.Bounded) : p.programMainsLoss.Bounded := by
  unfold Part.programMainsLoss
  split
  case h_1 hs => exact h.of_running (h.index (by rw [hs]; rfl)) rfl
  case h_2 hs => exact h.of_running (h.index (by rw [hs]; rfl)) rfl
  case h_3 hs => exact h.of_running (h.index (by rw [hs]; rfl)) rfl
  all_goals exact h

theorem Part.Bounded.programMainsReturn (h : p.Bounded) : p.programMainsReturn.Bounded := by
  unfold Part.programMainsReturn
  split
  · next hs => exact h.resumeProgram (h.index (by rw [hs.1]; rfl))
  · exact h

theorem Part.Bounded.programAborted (h : p.Bounded) : p.programAborted.Bounded := by
  unfold Part.programAborted
  split
  · exact h.of_place (i := p.program.index) (b := false) rfl nofun
  · exact h

theorem Part.Bounded.followDegraded (h : p.Bounded) : p.followDegraded.Bounded := by
  have hruns {g : ProgramState} (hs : p.program.state = g) (hg : g.runs = true) := h.index (by rw [hs]; exact hg)
  have hlacking (st : Stage) (hi : p.program.index < p.program.stages.length) : Part.Bounded
      (if p.lacksSteam st then p.waitFor .steamFault else if p.lacksWater st then p.waitFor .water else p) := by
    repeat' split
    · exact h.of_running hi rfl
    · exact h.of_running hi rfl
    · exact h
  unfold Part.followDegraded
  split
  case h_1 hs _ =>
    split
    · exact h
    · exact h.of_running (hruns hs rfl) p.returnRunning_boundsView
  case h_2 hs _ _ => exact hlacking _ (hruns hs rfl)
  case h_3 hs _ _ => exact hlacking _ (hruns hs rfl)
  case h_4 => exact h

/-! ### Settlements and boundaries (R91, R93, R128) -/

theorem Part.Bounded.tellExecutor (h : p.Bounded) (how : Settlement) : (p.tellExecutor how).Bounded := by
  unfold Part.tellExecutor
  repeat' split
  · exact h.goOn
  · exact h.of_view rfl
  · exact h

theorem Part.Bounded.settleBlowdown (h : p.Bounded) (how : Settlement) : (p.settleBlowdown how).Bounded := by
  have hsettled : Part.Bounded { p with scale.inHand := false } := h.of_view rfl
  unfold Part.settleBlowdown
  split
  · exact hsettled.tellExecutor how
  · exact h

theorem Part.Bounded.dropped (h : p.Bounded) : Part.Bounded { p with boiler.waiting := false } := h.of_view rfl

theorem Part.Bounded.refuseWaiting (h : p.Bounded) : p.refuseWaiting.Bounded := by
  unfold Part.refuseWaiting
  split
  · exact h.dropped.settleBlowdown _
  · exact h

theorem Part.Bounded.withdrawRequest (h : p.Bounded) : p.withdrawRequest.Bounded := by
  unfold Part.withdrawRequest
  split
  · exact h.dropped.settleBlowdown _
  · exact h

theorem Part.Bounded.answerBlowdown (h : p.Bounded) : p.answerBlowdown.Bounded := by
  unfold Part.answerBlowdown
  repeat' split
  case isTrue => exact h.settleBlowdown _
  case h_1 => exact h.settleBlowdown _
  case h_4 => exact (h.scaleDrained _).settleBlowdown _
  case h_2 => exact h.of_view p.startBlowdown_boundsView
  case h_3 => exact h.of_view p.startBlowdown_boundsView
  all_goals exact h.of_view rfl

theorem Part.Bounded.requestBlowdown (h : p.Bounded) : p.requestBlowdown.Bounded := by
  unfold Part.requestBlowdown
  split
  · exact h
  · exact Part.Bounded.answerBlowdown (h.of_view rfl)

theorem Part.Bounded.testSituations (h : p.Bounded) : p.testSituations.Bounded := by
  unfold Part.testSituations
  split
  · exact h.requestBlowdown
  · exact h

theorem Part.Bounded.boundary (h : p.Bounded) (hi : p.program.index < p.program.stages.length) : p.boundary.Bounded := by
  unfold Part.boundary
  dsimp only
  split
  · exact Part.Bounded.goOn (h.of_view rfl)
  · exact Part.Bounded.requestBlowdown (h.of_running hi rfl)

theorem Part.Bounded.finishStage (h : p.Bounded) (hi : p.program.index < p.program.stages.length) (st : Stage) :
    (p.finishStage st).Bounded := by
  unfold Part.finishStage
  split
  · exact h.of_running hi rfl
  · exact h.boundary hi

/-! ### The boiler's owner, STOP and FAULT (R64, R74, R79, R81) -/

theorem Part.Bounded.endedFill (h : p.Bounded) : p.handOver.boilerEndFill.Bounded :=
  h.handOver.of_view (Part.boilerEndFill_boundsView _)

theorem Part.Bounded.leaveCooking (h : p.Bounded) : p.leaveCooking.Bounded := by
  have hfree : Part.Bounded { p with boiler.owner := .none } := h.of_view rfl
  unfold Part.leaveCooking
  dsimp only
  apply Part.Bounded.refuseWaiting
  split
  case h_3 => exact hfree.endedFill
  case h_4 => exact hfree.endedFill
  case h_5 => exact hfree.endedFill
  all_goals exact h.of_view rfl

theorem Part.Bounded.followOwner (h : p.Bounded) : p.followOwner.Bounded := by
  unfold Part.followOwner
  repeat' split
  · exact h
  · exact h.leaveCooking
  · exact h.of_view rfl

theorem Part.Bounded.boilerStop (h : p.Bounded) : p.boilerStop.Bounded := by
  unfold Part.boilerStop
  dsimp only
  apply Part.Bounded.refuseWaiting
  split
  case h_1 => exact h.endedFill
  case h_2 => exact h.endedFill
  case h_3 => exact h.endedFill
  all_goals exact h.of_view rfl

theorem Part.Bounded.enterFault (h : p.Bounded) : p.enterFault.Bounded := by
  have hfault : p.boilerFaulted.Bounded := h.of_view rfl
  have hsettled : p.faultSettled.Bounded := by
    unfold Part.faultSettled
    split
    · exact hfault.settleBlowdown _
    · exact hfault.refuseWaiting
  rw [Part.enterFault_eq]
  repeat' split
  · exact h
  · exact hsettled.of_view (Part.descaleBoilerFault_boundsView _)
  · exact hsettled

theorem Part.Bounded.exitFault (h : p.Bounded) : p.exitFault.Bounded := by
  unfold Part.exitFault
  dsimp only
  repeat' split
  · exact h
  · exact h.of_view (p.startDrain_boundsView _ _)
  · exact Part.Bounded.descaleDrained (h.of_view rfl)
  · exact h.of_view rfl

theorem Part.Bounded.drainDone (h : p.Bounded) : p.drainDone.Bounded := by
  have hempty : p.boilerEmpty.Bounded := h.of_view rfl
  have hdrained := hempty.scaleDrained p.boiler.purpose
  have hlanded : Part.Bounded { p.boilerEmpty.scaleDrained p.boiler.purpose with boiler.inFlight := false } :=
    hdrained.of_view rfl
  have hafter {q : Part} (hq : q.Bounded) (purpose : Option Purpose) (next : Continuation) :
      (q.afterDrain purpose next).Bounded := by
    unfold Part.afterDrain
    repeat' split
    · exact hq.descaleDrained
    · exact hq.startFill _ _
    · exact hq.startFill _ _
    · exact hq
  unfold Part.drainDone
  dsimp only
  apply hafter
  split
  · exact (hlanded.settleBlowdown _).followOwner
  · exact hdrained

/-! ### Faults (R146, R147, R149) -/

theorem Part.Bounded.criticalEffects (h : p.Bounded) : p.criticalEffects.Bounded := by
  have hoff : p.withdrawCavity.withdrawBoiler.wake.forcedOff.Bounded := h.of_view (by simp)
  exact hoff.programAborted.boilerStop.of_view
    ((Part.safeStop_boundsView _).trans (Part.descaleCritical_boundsView _))

theorem Part.Bounded.steamEffects (h : p.Bounded) : p.steamEffects.Bounded :=
  (Part.Bounded.enterFault (h.of_view p.withdrawBoiler_boundsView)).of_view (Part.cancelStandby_boundsView _)

theorem Part.Bounded.raiseFault (h : p.Bounded) (k : FaultKind) : (p.raiseFault k).Bounded := by
  have hlatch : (p.latch k).Bounded := h.of_view rfl
  unfold Part.raiseFault
  repeat' split
  · exact h
  · exact hlatch
  · exact hlatch.criticalEffects
  · exact hlatch.of_view (Part.stallEffects_boundsView _)
  · exact hlatch.steamEffects
  · exact hlatch

theorem Part.Bounded.clearFault (h : p.Bounded) (k : FaultKind) : (p.clearFault k).Bounded := by
  have hflag : (p.flagCleared k).Bounded := by
    unfold Part.flagCleared
    split
    · exact h.of_view (Part.setMode_boundsView _ _)
    · exact h.of_view rfl
  rw [Part.clearFault_eq]
  split
  · exact hflag.exitFault
  · exact hflag

/-! ### The reactions (log entry 13) -/

theorem Part.followSteamWanted_boundsView (p : Part) : p.followSteamWanted.boundsView = p.boundsView := by
  unfold Part.followSteamWanted
  dsimp only
  repeat' split
  · exact Part.boundsView_of_heatView (Part.ventTest_heatView _)
  · rfl
  · exact Part.boundsView_of_heatView (Part.ventTest_heatView _)
  · rfl

theorem Part.followGiveUp_boundsView (p : Part) : p.followGiveUp.boundsView = p.boundsView := by
  unfold Part.followGiveUp; split <;> rfl

theorem Part.Bounded.followSteaming (h : p.Bounded) : p.followSteaming.Bounded := by
  unfold Part.followSteaming
  repeat' split
  · exact h.handOver.of_view (Part.boilerReady_boundsView _)
  · exact h
  · exact h
  · exact h.of_view p.boilerReady_boundsView
  all_goals exact h

theorem Part.followWaiting_boundsView (p : Part) : p.followWaiting.boundsView = p.boundsView := by
  unfold Part.followWaiting
  split
  · exact p.startBlowdown_boundsView
  · rfl

theorem Part.followSuspension_boundsView (p : Part) : p.followSuspension.boundsView = p.boundsView := rfl

theorem Part.followBoiler_boundsView (p : Part) : p.followBoiler.boundsView = p.boundsView := rfl

theorem Part.followLull_boundsView (p : Part) : p.followLull.boundsView = p.boundsView := by
  unfold Part.followLull; repeat' split
  all_goals rfl

theorem Part.Bounded.followDemand (h : p.Bounded) : p.followDemand.Bounded := by
  unfold Part.followDemand
  repeat' split
  case h_1.isTrue => exact h.of_view rfl
  case h_2.isTrue => exact h.normalFill
  all_goals exact h

theorem Part.followStandby_boundsView (p : Part) : p.followStandby.boundsView = p.boundsView := by
  unfold Part.followStandby; repeat' split
  all_goals simp

theorem Part.Bounded.reactOnce (h : p.Bounded) : p.reactOnce.Bounded := by
  have hgiven := (h.of_view p.followSteamWanted_boundsView).of_view (Part.followGiveUp_boundsView _)
  have hheld := hgiven.followOwner.of_view (Part.followSuspension_boundsView _)
  have hwaiting := hheld.followSteaming.of_view (Part.followWaiting_boundsView _)
  have hlull := hwaiting.of_view (Part.followLull_boundsView _)
  have hboiler := hlull.withdrawRequest.testSituations.followDemand.of_view (Part.followBoiler_boundsView _)
  have hstored := hboiler.giveHeld.followDegraded.of_view (Part.storeDescale_boundsView _)
  exact hstored.of_view (Part.followStandby_boundsView _)

theorem Part.Bounded.react : ∀ (n : Nat) {p : Part}, p.Bounded → (p.react n).Bounded
  | 0, _, h => h
  | n + 1, _, h => Part.Bounded.react n h.reactOnce

theorem Part.Bounded.settle (h : p.Bounded) : p.settle.Bounded := h.react 5

end

end Sys2Proof.Machine
end

section
/-! SUPPORT. The bounds through the sensor ring's scans, the mains and the boiler's and the executor's timers. -/

namespace Sys2Proof.Machine

section
variable {p q : Part}

/-! ### Scan completions (R52, R66 to R74, R126) -/

theorem Part.Bounded.overtempWatch (h : p.Bounded) : p.overtempWatch.Bounded := by
  have hset : Part.Bounded { p with climate.overtemp := true } := h.of_view rfl
  unfold Part.overtempWatch
  repeat' split
  · exact h
  · exact hset.raiseFault _
  · exact h.of_view rfl
  all_goals exact h

theorem Part.Bounded.overheatWatch (h : p.Bounded) : p.overheatWatch.Bounded := by
  have hset : Part.Bounded { p with boiler.overheat := true } := h.of_view rfl
  unfold Part.overheatWatch
  repeat' split
  · exact h
  · exact hset.raiseFault _
  · exact h.of_view rfl
  all_goals exact h

theorem Part.Bounded.scanClimate (h : p.Bounded) (d : DoorChange) : (p.scanClimate d).Bounded := by
  have hwatch := h.overtempWatch
  unfold Part.scanClimate
  cases d <;> exact hwatch.of_view (by simp)

theorem Part.scanPower_boundsView (p : Part) (d : DoorChange) : (p.scanPower d).boundsView = p.boundsView := by
  unfold Part.scanPower
  dsimp only
  repeat' split
  all_goals simp

theorem Part.heatingEnd_boundsView (p : Part) : p.heatingEnd.boundsView = p.boundsView := by
  unfold Part.heatingEnd
  repeat' split
  · simp
  · simp
  · exact Part.boilerSteamOrReady_boundsView _

theorem Part.Bounded.scanHeating (h : p.Bounded) : p.scanHeating.Bounded := by
  have hrequest : p.noBoilerRequest.Bounded := h.of_view rfl
  unfold Part.scanHeating
  repeat' split
  · exact hrequest.normalFill
  · exact h.of_view p.heatingEnd_boundsView
  · exact h.of_view rfl
  · exact hrequest

theorem Part.scanKeepHot_boundsView (p : Part) : p.scanKeepHot.boundsView = p.boundsView := by
  rw [Part.scanKeepHot_eq]; rfl

theorem Part.scanLevel_boundsView (p : Part) : p.scanLevel.boundsView = p.boundsView := by
  rw [Part.scanLevel_eq]; rfl

theorem Part.Bounded.scanFill (h : p.Bounded) : p.scanFill.Bounded := by
  unfold Part.scanFill
  repeat' split
  · exact h.fillDone
  · exact h
  · exact h.of_view rfl

theorem Part.Bounded.scanPaused (h : p.Bounded) : p.scanPaused.Bounded := by
  unfold Part.scanPaused
  repeat' split
  · exact h.fillDone
  · exact h.of_view p.runFill_boundsView
  · exact h
  · exact h.of_view rfl

theorem Part.scanDraining_boundsView (p : Part) : p.scanDraining.boundsView = p.boundsView := by
  unfold Part.scanDraining; split <;> rfl

theorem Part.Bounded.scanBoiler (h : p.Bounded) : p.scanBoiler.Bounded := by
  have hwatch := h.overheatWatch
  rw [Part.scanBoiler_eq]
  repeat' split
  · exact hwatch
  · exact hwatch.scanFill
  · exact hwatch.scanPaused
  · exact hwatch.scanHeating
  · exact (hwatch.of_view (Part.scanKeepHot_boundsView _)).of_view (Part.scanLevel_boundsView _)
  · exact hwatch.of_view (Part.scanLevel_boundsView _)
  · exact hwatch.scanFill
  · exact hwatch.of_view (Part.enterDraining_boundsView _)
  · exact hwatch
  · exact hwatch.of_view (Part.scanDraining_boundsView _)
  · exact hwatch

/-- R119, R126: a stage that ends is one of the program's. -/
theorem Part.Bounded.finishCurrent {st : Stage} (h : p.Bounded) (hc : p.program.current = some st) :
    (p.finishStage st).Bounded := h.finishStage (h.index (Part.runs_of_current hc)) st

theorem Part.Bounded.scanProgram (h : p.Bounded) : p.scanProgram.Bounded := by
  have htest := h.of_view (p.testDegraded_boundsView false)
  unfold Part.scanProgram
  dsimp only
  split
  · next hc =>
    split
    · exact htest.finishCurrent hc
    · exact htest
  · exact htest

theorem Part.scanMode_boundsView (p : Part) (d : DoorChange) : (p.scanMode d).boundsView = p.boundsView := by
  unfold Part.scanMode
  repeat' split
  · exact p.wake_boundsView
  all_goals rfl

theorem Part.waterStep_boundsView (p : Part) : p.waterStep.boundsView = p.boundsView := by
  have hstartup (q : Part) : q.boilerStartup.boundsView = q.boundsView := by
    unfold Part.boilerStartup; repeat' split
    all_goals simp
  have hwatered : p.watered.boundsView = p.boundsView := by
    unfold Part.watered; split
    · exact p.descaleRecover_boundsView
    · exact (hstartup _).trans p.descaleNoRecovery_boundsView
  by_cases hs : p.mode.startup = .water
  · rw [Part.waterStep_eq hs, Part.setMode_boundsView]; exact hwatered
  · rw [Part.waterStep, if_neg hs]

theorem Part.scanEvent_boundsView (p : Part) (d : DoorChange) : (p.scanEvent d).boundsView = p.boundsView := by
  have hoffer (q : Part) : q.offerCapture.boundsView = q.boundsView := by
    unfold Part.offerCapture; repeat' split
    all_goals rfl
  rw [Part.scanEvent_eq, hoffer, Part.raiseNotice_boundsView]
  unfold Part.watchRaised Part.doorRaised
  repeat' split
  all_goals rfl

theorem Part.Bounded.completeScan (h : p.Bounded) : p.completeScan.Bounded := by
  have hevent := h.of_view (p.scanEvent_boundsView p.doorSeen)
  have hpower := (hevent.scanClimate p.doorSeen).of_view (Part.scanPower_boundsView _ p.doorSeen)
  have hrewarm := hpower.scanBoiler.scanProgram.of_view (Part.descaleRewarm_boundsView _)
  have hmode := hrewarm.of_view (Part.scanMode_boundsView _ p.doorSeen)
  exact (hmode.of_view (Part.waterStep_boundsView _)).settle

/-! ### Polls and discovery (R44 to R47, R56) -/

theorem Part.Bounded.nextPoll (h : p.Bounded) (a : Nat) : (p.nextPoll a).Bounded := by
  have hpolled : Part.Bounded { p with ring := p.ring.pollFrom (a + 1) } := h.of_view rfl
  unfold Part.nextPoll
  dsimp only
  split
  · exact hpolled
  · exact hpolled.completeScan

theorem Part.Bounded.linkTold (h : p.Bounded) (before : Ring) (k : NodeKind) (lost : Bool) :
    (p.linkTold before k lost).Bounded := by
  have hcavity : (p.cavityTold before).Bounded := by
    unfold Part.cavityTold
    split
    · exact h.of_view rfl
    · exact h
  have hprobe : ((p.cavityTold before).probeTold before).Bounded := by
    unfold Part.probeTold
    split
    · exact hcavity.of_view (Part.probeGone_boundsView _)
    · exact hcavity
  cases lost with
  | false => exact hprobe
  | true =>
    cases k with
    | cavityTemp => exact hprobe.raiseFault .cavityNodeLost
    | door => exact hprobe.raiseFault .doorNodeLost
    | boiler => exact hprobe.raiseFault .boilerNodeLost
    | waterTank => exact hprobe.raiseFault .tankNodeLost
    | _ => exact hprobe

theorem Part.Bounded.judgeMiss (h : p.Bounded) (a : Nat) (badCheck : Bool) : (p.judgeMiss a badCheck).Bounded := by
  have hjudged : (p.judged a ((p.ring.entry a).missed badCheck)).Bounded := h.of_view rfl
  have hraised := hjudged.of_view (Part.raiseNotice_boundsView _ .nodeChange)
  rw [Part.judgeMiss_eq]
  dsimp only
  split
  · exact hraised.linkTold _ _ _
  · exact hjudged

theorem Part.Bounded.judgeGood (h : p.Bounded) (a : Nat) (r : RingReply) : (p.judgeGood a r).Bounded := by
  have htold : (p.goodTold a r).Bounded := by
    unfold Part.goodTold
    dsimp only
    split <;> exact h.of_view rfl
  rw [Part.judgeGood_eq]
  split
  · exact htold.raiseFault _
  · exact htold

theorem Part.startDiscovery_boundsView (p : Part) : p.startDiscovery.boundsView = p.boundsView := rfl

theorem Part.Bounded.endDiscovery (h : p.Bounded) : p.endDiscovery.Bounded := by
  have hended : Part.Bounded { p with
    ring := { p.ring with phase := .idle, poll := none, startAtOnce := true }, mode.startup := .water } := h.of_view rfl
  unfold Part.endDiscovery
  dsimp only
  split
  · exact hended.raiseFault _
  · exact hended

theorem Part.Bounded.discovered (h : p.Bounded) (poll : Poll) (m : NodeEntry) (retry : Bool) :
    (p.discovered poll m retry).Bounded := by
  have hjudged : Part.Bounded { p with ring := p.ring.putEntry poll.address m } := h.of_view rfl
  unfold Part.discovered Part.nextDiscovery
  repeat' split
  · exact h.of_view rfl
  · exact h.of_view rfl
  · exact hjudged.endDiscovery

theorem Part.Bounded.nodeReply (h : p.Bounded) (r : RingReply) : (p.nodeReply r).Bounded := by
  unfold Part.nodeReply
  dsimp only
  repeat' split
  · exact h
  · rw [Part.discoveryGood_eq]; exact h.discovered _ _ _
  · rw [Part.discoveryMiss_eq]; exact h.discovered _ _ _
  · exact h.nextPoll _
  · exact (h.judgeGood _ _).nextPoll _
  · exact (h.judgeMiss _ _).nextPoll _
  · exact h

theorem Part.Bounded.replyMissing (h : p.Bounded) : p.replyMissing.Bounded := by
  unfold Part.replyMissing
  repeat' split
  · exact h
  · rw [Part.discoveryMiss_eq]; exact h.discovered _ _ _
  · exact h.nextPoll _
  · exact (h.judgeMiss _ _).nextPoll _
  · exact h

theorem Part.scanTimer_boundsView (p : Part) : p.scanTimer.boundsView = p.boundsView := by
  unfold Part.scanTimer; repeat' split
  all_goals rfl

/-- R43: the scans that are due at once, with what completes in them. -/
theorem Part.Bounded.advance : ∀ (n : Nat) {p : Part}, p.Bounded → (Part.advance n p).Bounded
  | 0, _, h => h
  | n + 1, p, h => by
    have hstarted : p.startScan.Bounded := h.of_view rfl
    unfold Part.advance
    dsimp only
    repeat' split
    · exact hstarted
    · exact Part.Bounded.advance n hstarted.completeScan
    · exact h

/-! ### The mains (R23 to R26) -/

theorem Part.Bounded.mainsOnset (h : p.Bounded) : p.mainsOnset.Bounded := by
  have hlost : p.mainsLost.Bounded := h.of_view rfl
  have htold := hlost.of_view (Part.climateMainsLoss_boundsView _)
  exact htold.programMainsLoss.of_view rfl

theorem Part.Bounded.mainsEnd (h : p.Bounded) : p.mainsEnd.Bounded := by
  have htold : p.mainsBack.mainsTold.Bounded := h.of_view rfl
  rw [Part.mainsEnd_eq]
  exact htold.programMainsReturn

theorem Part.Bounded.windowBoundary (h : p.Bounded) : p.windowBoundary.Bounded := by
  have hcounted : p.countedWindow.Bounded := h.of_view rfl
  have hjudged : p.judgedWindow.Bounded := by
    unfold Part.judgedWindow
    split
    · exact hcounted.raiseFault _
    · exact hcounted
  have hgranted : p.judgedWindow.grantWindow.boundsView = p.judgedWindow.boundsView := by
    rw [Part.grantWindow_eq]; rfl
  rw [Part.windowBoundary_eq]
  exact hjudged.of_view hgranted

theorem Part.Bounded.measureFailed (h : p.Bounded) : p.measureFailed.Bounded := by
  have hended : Part.Bounded { p with power.measure := .none } := h.of_view rfl
  exact hended.mainsOnset.of_view (Part.startDiscovery_boundsView _)

theorem Part.Bounded.measured (h : p.Bounded) (time : Nat) : (p.measured time).Bounded := by
  unfold Part.measured
  dsimp only
  split
  · exact h.measureFailed
  · exact h.of_view rfl

theorem Part.Bounded.returnCrossing (h : p.Bounded) (gap : Nat) : (p.returnCrossing gap).Bounded := by
  unfold Part.returnCrossing
  split
  · exact h.mainsEnd
  · exact h.of_view rfl

theorem Part.Bounded.zeroCrossing (h : p.Bounded) (gap : Nat) : (p.zeroCrossing gap).Bounded := by
  unfold Part.zeroCrossing Part.windowCrossing
  repeat' split
  · exact h.of_view rfl
  · exact h.measureFailed.returnCrossing gap
  · exact h.measured _
  · exact h.of_view rfl
  · exact h.returnCrossing gap
  · exact h
  · exact h.mainsOnset.returnCrossing gap
  · exact h.windowBoundary
  · exact h.of_view rfl
  · exact h

theorem Part.Bounded.measureTimeout (h : p.Bounded) : p.measureTimeout.Bounded := by
  unfold Part.measureTimeout
  split
  · exact h
  · exact h.measureFailed

theorem Part.Bounded.crossingsStop (h : p.Bounded) : p.crossingsStop.Bounded := by
  unfold Part.crossingsStop
  split
  · exact h.mainsOnset
  · exact h

/-! ### Timers (R11, R15, R67, R71 to R75, R92, R125, R141) -/

theorem Part.Bounded.fillTimeout (h : p.Bounded) : p.fillTimeout.Bounded := by
  unfold Part.fillTimeout
  repeat' split
  · exact h.raiseFault _
  · exact h.of_view (by simp)
  · exact h.of_view rfl
  · exact h

theorem Part.Bounded.drainTimeout (h : p.Bounded) : p.drainTimeout.Bounded := by
  unfold Part.drainTimeout
  split
  · exact h.raiseFault _
  · exact h

theorem Part.Bounded.runOnDone (h : p.Bounded) : p.runOnDone.Bounded := by
  unfold Part.runOnDone
  split
  · exact h.drainDone
  · exact h

theorem Part.coolWaitDone_boundsView (p : Part) : p.coolWaitDone.boundsView = p.boundsView := by
  unfold Part.coolWaitDone; split <;> simp

theorem Part.idleDrain_boundsView (p : Part) : p.idleDrain.boundsView = p.boundsView := by
  unfold Part.idleDrain; split <;> simp

theorem Part.Bounded.levelDelayDone (h : p.Bounded) : p.levelDelayDone.Bounded := by
  unfold Part.levelDelayDone
  split
  · exact h.startFill _ _
  · exact h

theorem Part.lullReached_boundsView (p : Part) : p.lullReached.boundsView = p.boundsView := by
  unfold Part.lullReached; split <;> rfl

theorem Part.Bounded.stageSecond (h : p.Bounded) : p.stageSecond.Bounded := by
  have hcounted : p.secondCounted.Bounded := h.of_view rfl
  unfold Part.stageSecond
  dsimp only
  repeat' split
  · next hc _ => exact hcounted.finishCurrent hc
  · exact hcounted
  · exact hcounted
  · exact h

theorem Part.holdExpiry_boundsView (p : Part) : p.holdExpiry.boundsView = p.boundsView := by
  unfold Part.holdExpiry; split <;> simp

theorem Part.climateExpiry_boundsView (p : Part) : p.climateExpiry.boundsView = p.boundsView := by
  unfold Part.climateExpiry; split <;> simp

theorem Part.pulseTick_boundsView (p : Part) : p.pulseTick.boundsView = p.boundsView := by
  unfold Part.pulseTick; split <;> rfl

theorem Part.flowPulse_boundsView (p : Part) : p.flowPulse.boundsView = p.boundsView := by
  unfold Part.flowPulse; split <;> rfl

theorem Part.tachPulse_boundsView (p : Part) : p.tachPulse.boundsView = p.boundsView := by
  unfold Part.tachPulse; split <;> rfl

end

end Sys2Proof.Machine
end

section
/-! SUPPORT. The bounds through the requests and the receive queue (R155, R156). -/

namespace Sys2Proof.Machine

section
variable {p q : Part}

/-! ### Requests -/

theorem Part.reportIntervalTold_boundsView (p : Part) : p.reportIntervalTold.boundsView = p.boundsView := by
  unfold Part.reportIntervalTold; repeat' split
  all_goals rfl

theorem Part.Bounded.acceptItem (h : p.Bounded) (item : Nat) (v : ItemValue) : (p.acceptItem item v).Bounded := by
  have hstored : Part.Bounded { p with store := p.store.accept item v } := h.of_view rfl
  have htold := hstored.scaleTold item
  unfold Part.acceptItem
  dsimp only
  split
  · exact htold.of_view (Part.reportIntervalTold_boundsView _)
  · exact htold

theorem Part.Bounded.settingPut (h : p.Bounded) (item : Byte) (v : ValueField) : (p.settingPut item v).1.Bounded := by
  unfold Part.settingPut
  dsimp only
  repeat' split
  case h_2.isFalse => exact h.acceptItem _ _
  all_goals exact h

theorem Part.Bounded.storeDefaults (h : p.Bounded) : p.storeDefaults.1.Bounded := by
  have hformed : Part.Bounded { p with store := p.store.formRun } := h.of_view rfl
  unfold Part.storeDefaults
  split
  · exact h
  · exact ((hformed.scaleTold 13).scaleTold 17).of_view (Part.reportIntervalTold_boundsView _)

theorem Part.Bounded.climateSet (h : p.Bounded) (b : ClimateBlock) : (p.climateSet b).1.Bounded := by
  unfold Part.climateSet
  repeat' split
  · exact h
  · exact h
  · exact h.of_view (p.writeClimate_boundsView _)

theorem Part.Bounded.climateOff (h : p.Bounded) : p.climateOff.1.Bounded := by
  unfold Part.climateOff
  split
  · exact h
  · exact h.of_view p.endCooking_boundsView

/-- R117: an emptied program runs no stage. -/
theorem Part.Bounded.programClear (h : p.Bounded) (endAction : Byte) (setpoint : Half) (moist : Byte) :
    (p.programClear endAction setpoint moist).1.Bounded := by
  unfold Part.programClear
  repeat' split
  · exact h
  · exact ⟨Nat.zero_le _, nofun, h.owed, h.credit, h.apart⟩
  · exact h

/-- R119: a stage is appended to a program that holds fewer than 16. -/
theorem Part.Bounded.stageAppend (h : p.Bounded) (b : StageBlock) : (p.stageAppend b).1.Bounded := by
  have hruns : (loadedState p.program.state).runs = p.program.state.runs := by
    cases hs : p.program.state.runs <;> simp [loadedState, hs]
    rfl
  unfold Part.stageAppend
  repeat' split
  · exact h
  · exact h
  · exact h
  · refine ⟨?_, fun hr => ?_, h.owed, h.credit, h.apart⟩
    · simp only [List.length_append, List.length_singleton]
      omega
    · have hi := h.index (hruns ▸ hr)
      simp only [List.length_append, List.length_singleton]
      omega

theorem Part.startProgram_boundsView (p : Part) (i : Nat) :
    (p.startProgram i).boundsView = { p.boundsView with index := i, runs := true } := by
  have hrun {q : Part} (hq : q.boundsView = { p.boundsView with index := i, runs := true }) :
      (if q.mode.mainsLoss then q.pauseProgram .mains else q).boundsView =
        { p.boundsView with index := i, runs := true } := by
    split
    · rw [Part.pauseProgram_boundsView, hq]
    · exact hq
  have hentered {q : Part} (hq : q.boundsView = p.boundsView) :
      (q.restarted.enterStage i).boundsView = { p.boundsView with index := i, runs := true } := by
    rw [← hq]
    exact Part.enterStage_boundsView _ i
  have hfreed (waits : Bool) : (if waits then p.endCooking else p).boundsView = p.boundsView := by
    cases waits
    · rfl
    · exact p.endCooking_boundsView
  unfold Part.startProgram
  exact hrun (hentered (hfreed _))

/-- R122: a program starts at one of its stages. -/
theorem Part.Bounded.programStart (h : p.Bounded) (presence index : Byte) : (p.programStart presence index).1.Bounded := by
  have hinside {i : Nat} (hr : p.startRefusal i = none) : i < p.program.stages.length := by
    unfold Part.startRefusal at hr
    split at hr
    · cases hr
    · split at hr
      · cases hr
      · omega
  have hstart (i : Nat) : (match p.startRefusal i with
      | some code => p.refuse code
      | none => (p.startProgram i, .bare .ok)).1.Bounded := by
    split
    · exact h
    · next hr => exact h.of_place (p.startProgram_boundsView i) fun _ => hinside hr
  unfold Part.programStart
  split
  · exact h
  · exact hstart _

theorem Part.Bounded.programPause (h : p.Bounded) : p.programPause.1.Bounded := by
  have hpause (hr : p.program.state.runs = true) : (p.forcedOff.pauseProgram .host).Bounded := by
    refine h.of_running (h.index hr) ?_
    rw [Part.pauseProgram_boundsView, Part.forcedOff_boundsView]
  unfold Part.programPause
  split
  case h_1 hs => exact hpause (by rw [hs]; rfl)
  case h_2 hs => exact hpause (by rw [hs]; rfl)
  case h_3 => exact h.of_view p.forcedOff_boundsView
  all_goals exact h

theorem Part.Bounded.programResume (h : p.Bounded) (hi : p.program.index < p.program.stages.length) :
    p.programResume.Bounded := by
  have hresumes {q : Part} (hq : q.boundsView = p.boundsView) : Part.Bounded
      (if q.mode.mainsLoss then { q with program.reason := some .mains } else q.resumeProgram) := by
    have hplace : q.program.index < q.program.stages.length := by
      have hindex : q.program.index = p.program.index := congrArg BoundsView.index hq
      have hstages : q.program.stages = p.program.stages := congrArg BoundsView.stages hq
      rwa [hindex, hstages]
    split
    · exact h.of_view hq
    · exact (h.of_view hq).resumeProgram hplace
  unfold Part.programResume
  dsimp only
  split
  · exact hresumes (p.writeClimate_boundsView _)
  · exact hresumes rfl

theorem Part.Bounded.resumeRequest (h : p.Bounded) : p.resumeRequest.1.Bounded := by
  unfold Part.resumeRequest
  split
  · next hs => exact h.programResume (h.index (by rw [hs.1]; rfl))
  · exact h

theorem Part.Bounded.abortProgram (h : p.Bounded) : p.abortProgram.Bounded := by
  unfold Part.abortProgram
  split
  · exact (h.of_view p.endCooking_boundsView).programAborted
  · exact h

theorem Part.Bounded.abortRequest (h : p.Bounded) : p.abortRequest.1.Bounded := by
  unfold Part.abortRequest
  split
  · exact h.abortProgram
  · exact h

theorem Part.Bounded.confirmPrompt (h : p.Bounded) (hi : p.program.index < p.program.stages.length) (st : Stage) :
    (p.confirmPrompt st).Bounded := by
  unfold Part.confirmPrompt
  split
  · exact h.of_running hi (p.beginStage_boundsView st)
  · exact h.of_running hi (Part.returnRunning_boundsView _)
  · exact h
  · exact h.boundary hi

theorem Part.Bounded.stageConfirm (h : p.Bounded) : p.stageConfirm.1.Bounded := by
  have hplace (hs : p.program.state = .waiting) := h.index (by rw [hs]; rfl)
  unfold Part.stageConfirm
  split
  case h_1 hs _ _ =>
    split
    · exact h
    · exact h.confirmPrompt (hplace hs) _
  case h_2 hs _ =>
    split
    · exact h.of_running (hplace hs) p.returnRunning_boundsView
    · exact h
  case h_3 hs _ =>
    repeat' split
    · exact h
    · exact h
    · exact h.of_running (hplace hs) p.returnRunning_boundsView
  case h_4 hc =>
    split
    · exact h.finishCurrent hc
    · exact h
  case h_5 => exact h

theorem Part.Bounded.stageSkip (h : p.Bounded) : p.stageSkip.1.Bounded := by
  unfold Part.stageSkip
  split
  · next hs => exact h.boundary (h.index (by rcases hs with hs | hs <;> rw [hs] <;> rfl))
  · exact h

theorem Part.Bounded.boilerDrain (h : p.Bounded) : p.boilerDrain.1.Bounded := by
  unfold Part.boilerDrain
  split
  · exact h
  · split
    case h_2 => exact h.of_view (p.startDrain_boundsView _ _)
    all_goals exact h

theorem Part.Bounded.descaleStart (h : p.Bounded) (presence minutes : Byte) :
    (p.descaleStart presence minutes).1.Bounded := by
  unfold Part.descaleStart
  split
  · exact h
  · split
    · exact h
    · split
      · exact h
      · exact h.of_view rfl

theorem Part.Bounded.descaleConfirm (h : p.Bounded) : p.descaleConfirm.1.Bounded := by
  have howned : Part.Bounded { p with boiler.owner := .descale } := h.of_view rfl
  have hrinse : Part.Bounded { p.descalePhase .rinse none with descale.rinseStep := some .fill } := h.of_view rfl
  unfold Part.descaleConfirm
  repeat' split
  · exact h
  · exact howned.enterDrainFirst
  · exact h.enterDose
  · exact hrinse.directFill _
  · exact h

theorem Part.Bounded.abortDescale (h : p.Bounded) : p.abortDescale.1.Bounded := by
  unfold Part.abortDescale
  dsimp only
  split
  · exact h.of_view p.descaleStop_boundsView
  · exact h

theorem Part.Bounded.holdEnter (h : p.Bounded) (setpoint : Half) (moist : Byte) : (p.holdEnter setpoint moist).1.Bounded := by
  unfold Part.holdEnter
  repeat' split
  · exact h
  · exact h
  · exact h.of_view (p.enterHold_boundsView _ _)

theorem Part.Bounded.abandonBlowdown (h : p.Bounded) : p.abandonBlowdown.Bounded := by
  have hempty : Part.Bounded { p.boilerEmpty with boiler.inFlight := false } := h.of_view rfl
  exact (hempty.settleBlowdown _).normalFill

theorem Part.endRefill_boundsView (p : Part) : p.endRefill.boundsView = p.boundsView := by
  unfold Part.endRefill; split <;> simp

theorem Part.Bounded.holdExit (h : p.Bounded) (abandon : Byte) : (p.holdExit abandon).1.Bounded := by
  have hrefill : p.endHold.refillRunsOn.Bounded := by
    have hfree : Part.Bounded { p.endHold with boiler.owner := .none, boiler.continuation := .none } :=
      h.of_view p.endHold_boundsView
    exact hfree.refuseWaiting
  unfold Part.holdExit
  repeat' split
  · exact h
  · exact (h.abandonBlowdown.of_view (Part.endHold_boundsView _)).of_view (Part.endRefill_boundsView _)
  · exact hrefill
  · exact h.of_view p.endHold_boundsView
  · exact h

theorem Part.Bounded.standbyEnter (h : p.Bounded) : p.standbyEnter.1.Bounded := by
  unfold Part.standbyEnter
  split
  · exact h
  · exact h.of_view (p.setMode_boundsView _)

theorem Part.Bounded.stopBoiler (h : p.Bounded) : p.stopBoiler.Bounded := by
  unfold Part.stopBoiler
  split
  · exact h
  · exact h.boilerStop

theorem Part.Bounded.stopped (h : p.Bounded) : p.stopped.Bounded := by
  unfold Part.stopped
  split
  · dsimp only
    split
    · exact (h.abortProgram.of_view (Part.descaleStop_boundsView _)).stopBoiler
    · exact ((h.of_view p.endCooking_boundsView).of_view (Part.descaleStop_boundsView _)).stopBoiler
  · exact (h.of_view p.endHold_boundsView).stopBoiler
  · exact (h.of_view (p.setMode_boundsView _)).stopBoiler
  · exact (h.of_view p.descaleStop_boundsView).stopBoiler
  · exact h
  · exact h

theorem Part.Bounded.faultClear (h : p.Bounded) (kind : Byte) : (p.faultClear kind).1.Bounded := by
  unfold Part.faultClear
  repeat' split
  · exact h
  · exact h
  · exact h
  · exact h.clearFault _

theorem Part.Bounded.configureNode (h : p.Bounded) (a : Nat) (masked : Bool) (f : Selector) (watch : Byte)
    (threshold : Nat) : (p.configureNode a masked f watch threshold).Bounded := by
  have hring (r : Ring) : Part.Bounded { p with ring := r } := h.of_view rfl
  exact (hring _).linkTold p.ring (p.ring.entry a).kind false

theorem Part.Bounded.nodeSet (h : p.Bounded) (address masked selector watch : Byte) (threshold : Half) :
    (p.nodeSet address masked selector watch threshold).1.Bounded := by
  unfold Part.nodeSet
  dsimp only
  repeat' split
  · exact h
  · exact h
  · exact h.configureNode _ _ _ _ _
  · exact h

theorem Part.Bounded.counterGet (h : p.Bounded) (zero : Byte) : (p.counterGet zero).1.Bounded := by
  unfold Part.counterGet
  split
  · exact h
  · exact h.of_view (by dsimp only; split <;> rfl)

theorem Part.Bounded.captureArm (h : p.Bounded) (trigger : Half) (style : Byte) :
    (p.captureArm trigger style).1.Bounded := by
  unfold Part.captureArm
  repeat' split
  · exact h
  · exact h.of_view rfl
  · exact h

theorem Part.Bounded.captureRelease (h : p.Bounded) (disarm : Byte) : (p.captureRelease disarm).1.Bounded := by
  have hfreed (armed : Bool) : Part.Bounded { p with
      capture.snapshot := none, capture.missed := 0, capture.armed := armed } := h.of_view rfl
  unfold Part.captureRelease
  split
  · exact h
  · exact hfreed _

end

/-! ### Requests taken, and the commands (R155, R156) -/

section
variable {s : State}

theorem Part.quietReports_boundsView (p : Part) (wait : Bool) : (p.quietReports wait).boundsView = p.boundsView := by
  unfold Part.quietReports; split <;> rfl

theorem State.onBlocks_bounded {f : Part → Part} (h : (f s.part).Bounded) : (s.onBlocks f).part.Bounded := by
  rw [State.onBlocks_part]
  exact (h.settle.advance 3).of_view (Part.quietReports_boundsView _ _)

theorem State.acting_bounded (h : s.part.Bounded) {r : Part × Reply} (hr : r.1.Bounded) :
    (s.acting r).1.part.Bounded := by
  unfold State.acting
  split
  · exact State.onBlocks_bounded (f := fun _ => r.1) hr
  · exact h

theorem State.serve_bounded (h : s.part.Bounded) (q : Request) : (s.serve q).1.part.Bounded := by
  cases q with
  | settingPut item v => exact s.acting_bounded h (h.settingPut item v)
  | storeDefaults => exact s.acting_bounded h h.storeDefaults
  | climateSet b => exact s.acting_bounded h (h.climateSet b)
  | climateOff => exact s.acting_bounded h h.climateOff
  | programClear e t m => exact h.programClear e t m
  | stageAppend b => exact h.stageAppend b
  | programStart g i => exact s.acting_bounded h (h.programStart g i)
  | programPause => exact s.acting_bounded h h.programPause
  | programResume => exact s.acting_bounded h h.resumeRequest
  | programAbort => exact s.acting_bounded h h.abortRequest
  | stageConfirm => exact s.acting_bounded h h.stageConfirm
  | stageSkip => exact s.acting_bounded h h.stageSkip
  | boilerDrain => exact s.acting_bounded h h.boilerDrain
  | descaleStart g m => exact s.acting_bounded h (h.descaleStart g m)
  | descaleConfirm => exact s.acting_bounded h h.descaleConfirm
  | descaleAbort => exact s.acting_bounded h h.abortDescale
  | holdEnter t m => exact s.acting_bounded h (h.holdEnter t m)
  | holdExit a => exact s.acting_bounded h (h.holdExit a)
  | standbyEnter => exact s.acting_bounded h h.standbyEnter
  | stop => exact s.acting_bounded h h.stopped
  | faultClear k => exact s.acting_bounded h (h.faultClear k)
  | nodeSet a m f w t => exact s.acting_bounded h (h.nodeSet a m f w t)
  | counterGet z => exact h.counterGet z
  | captureArm t c => exact h.captureArm t c
  | captureRelease d => exact h.captureRelease d
  | settingGet i => exact h.of_view (by unfold State.serve State.plain Part.settingGet; dsimp only; split <;> rfl)
  | stageGet i => exact h.of_view (by unfold State.serve State.plain Part.stageGet; dsimp only; split <;> rfl)
  | nodeGet a => exact h.of_view (by unfold State.serve State.plain Part.nodeGet; dsimp only; split <;> rfl)
  | _ => exact h.of_view rfl

theorem State.answer_bounded (h : s.part.Bounded) (f : Frame) : (s.answer f).1.part.Bounded := by
  unfold State.answer
  repeat' split
  · exact h
  · exact h
  · exact h
  · exact s.serve_bounded h _
  · exact h

theorem State.woken_bounded (h : s.part.Bounded) : s.woken.part.Bounded := by
  unfold State.woken
  split
  · exact State.onBlocks_bounded (h.of_view s.part.wake_boundsView)
  · exact h

theorem State.handle_bounded (h : s.part.Bounded) (f : Frame) (rest : List Frame) : (s.handle f rest).part.Bounded :=
  State.answer_bounded (State.woken_bounded (s := { s with link.inHand := some f, link.queue := rest }) h) f

theorem State.offer_bounded (h : s.part.Bounded) (f : Frame) : (s.offer f).part.Bounded := by
  unfold State.offer
  split
  · exact State.woken_bounded (s := { s with link.queue := s.link.queue ++ [f] }) h
  · exact h

theorem State.submit_bounded (h : s.part.Bounded) (q : Request) : (s.submit q).part.Bounded := by
  unfold State.submit
  repeat' split
  · exact h
  · exact s.handle_bounded h _ _
  · exact s.offer_bounded h _

theorem State.take_bounded (h : s.part.Bounded) : s.take.part.Bounded := by
  unfold State.take
  repeat' split
  · exact h
  · exact s.handle_bounded h _ _
  · exact h

theorem State.judgeFrame_bounded (h : s.part.Bounded) (got : List Byte) : (s.judgeFrame got).part.Bounded := by
  unfold State.judgeFrame
  dsimp only
  repeat' split
  · exact s.offer_bounded h _
  all_goals exact h

theorem State.receive_bounded (h : s.part.Bounded) (b : Byte) (stopGood : Bool) : (s.receive b stopGood).part.Bounded := by
  have hassemble (got : List Byte) : (s.assemble got b).part.Bounded := by
    unfold State.assemble
    repeat' split
    · exact h
    · exact State.judgeFrame_bounded (s := { s with link.receiver := .hunt }) h _
    · exact h
  unfold State.receive
  repeat' split
  case h_2.isTrue => exact hassemble _
  all_goals exact h

theorem State.transmitEnd_boundsView (s : State) : s.transmitEnd.part.boundsView = s.part.boundsView := by
  have hfree (a : State) : a.transmitterFree.part.boundsView = a.part.boundsView := by
    unfold State.transmitterFree; split <;> rfl
  unfold State.transmitEnd State.replyEnd State.reportEnd
  dsimp only
  repeat' split
  · rfl
  · rfl
  · exact hfree _
  · rfl
  · exact hfree _

theorem State.reportExpiry_boundsView (s : State) : s.reportExpiry.part.boundsView = s.part.boundsView := by
  unfold State.reportExpiry; dsimp only; repeat' split
  all_goals rfl

theorem State.writeComplete_bounded (h : s.part.Bounded) : s.writeComplete.part.Bounded := by
  unfold State.writeComplete
  split
  · exact State.onBlocks_bounded (h.of_view rfl)
  · exact h

end

end Sys2Proof.Machine
end

section
/-! SUPPORT. The bounds through the load step and through every command (O59). -/

namespace Sys2Proof.Machine

/-! ### The bounds after the load step (R98, R180) -/

theorem Part.damageQueued_boundsView (p : Part) : p.damageQueued.boundsView = p.boundsView := by
  have hqueue (q : Part) (i : Nat) : (q.queueDamaged i).boundsView = q.boundsView := by
    unfold Part.queueDamaged; split <;> rfl
  simp only [Part.damageQueued, hqueue]

theorem Part.reportDamage_boundsView (p : Part) : p.reportDamage.boundsView = p.boundsView := by
  unfold Part.reportDamage
  split
  · rw [Part.raiseFault_storeDefaulted]; split <;> rfl
  · rfl

theorem Part.descaleLoaded_boundsView (p : Part) : p.descaleLoaded.boundsView = p.boundsView := by
  unfold Part.descaleLoaded; split <;> rfl
theorem Part.recordLoaded_boundsView (p : Part) : p.recordLoaded.boundsView = p.boundsView := by
  unfold Part.recordLoaded; split <;> rfl
theorem Part.startReports_boundsView (p : Part) : p.startReports.boundsView = p.boundsView := rfl

theorem Part.dueLoaded_boundsView (p : Part) : p.dueLoaded.boundsView = p.boundsView := by
  unfold Part.dueLoaded; dsimp only; split <;> rfl

section
variable {p : Part}

theorem Part.Bounded.blowdownLoaded (h : p.Bounded) (hr : ∀ {progress owed credit flush},
    p.store.served 15 = .blowdown progress owed credit flush → owed ≤ 5 ∧ credit ≤ 2 ∧ (owed = 0 ∨ credit = 0)) :
    p.blowdownLoaded.Bounded := by
  unfold Part.blowdownLoaded
  split
  · next hs => exact h.of_scale rfl (hr hs)
  · exact h

theorem Part.Bounded.progressLoaded (h : p.Bounded) : p.progressLoaded.Bounded :=
  (h.accrueEvaporation 0).of_view (p.queueIfOwing_boundsView _)

theorem Part.Bounded.scaleLoaded (h : p.Bounded) (hr : ∀ {progress owed credit flush},
    p.store.served 15 = .blowdown progress owed credit flush → owed ≤ 5 ∧ credit ≤ 2 ∧ (owed = 0 ∨ credit = 0)) :
    p.scaleLoaded.Bounded := by
  have hrecord : p.recordLoaded.Bounded := h.of_view p.recordLoaded_boundsView
  have hblowdown : p.recordLoaded.blowdownLoaded.Bounded := hrecord.blowdownLoaded (by rw [Part.recordLoaded_store]; exact hr)
  exact hblowdown.progressLoaded.of_view (Part.dueLoaded_boundsView _)

end

theorem Part.reset_bounded : Part.reset.Bounded := ⟨by decide, nofun, by decide, by decide, by decide⟩

theorem Part.loadStep_bounded (flash : List StoredForm) : (Part.reset.loadStep flash).Bounded := by
  have hread : (Part.reset.itemsLoaded flash).Bounded := Part.reset_bounded.of_view rfl
  have hqueued := hread.of_view (Part.damageQueued_boundsView _)
  have hreported := hqueued.of_view (Part.reportDamage_boundsView _)
  have hdescale := hreported.of_view (Part.descaleLoaded_boundsView _)
  have hscale := hdescale.scaleLoaded (by
    rw [Part.descaleLoaded_store, Part.reportDamage_store]; exact Part.served_blowdown_bounded flash)
  have hreports := hscale.of_view (Part.startReports_boundsView _)
  have hstarted {q : Part} (hq : q.Bounded) :
      Part.Bounded { q with mode.startup := .frequency, power.measure := .waiting } := hq.of_view rfl
  rw [Part.loadStep_eq]
  exact hstarted hreports

/-! ### Every command (O59) -/

theorem State.startUp_part (s : State) : s.startUp.part = Part.reset.loadStep s.flash := by
  simp only [State.startUp, State.afterReset]

section
variable {s : State}

theorem State.resetWaitEnd_bounded (h : s.part.Bounded) : s.resetWaitEnd.part.Bounded := by
  unfold State.resetWaitEnd
  split
  · rw [State.startUp_part]
    exact Part.loadStep_bounded s.flash
  · exact h

/-- A crossing that the command finds no window, measurement or return run to close changes nothing (log entry 9). -/
theorem State.crossingWhere_bounded (h : s.part.Bounded) (closes : Bool) (gap : Nat) :
    (if closes then s.onBlocks (fun p => p.zeroCrossing gap) else s).part.Bounded := by
  split
  · exact State.onBlocks_bounded (f := fun p => p.zeroCrossing gap) (h.zeroCrossing gap)
  · exact h

/-- R119, R122, R88: no command breaks the bounds. -/
theorem exec_bounded {t : State} (c : Instr) (h : s.part.Bounded) (he : exec c s = .next t) : t.part.Bounded := by
  cases c with
  | powerOnReset => cases he; exact s.powerOn_part ▸ Part.loadStep_bounded _
  | resetWaitEnd => cases he; exact State.resetWaitEnd_bounded h
  | rxByte b stopGood => cases he; exact State.receive_bounded h b stopGood
  | rxGapTimeout => cases he; exact h.of_view (by unfold State.receiveGap; split <;> rfl)
  | requestTake => cases he; exact State.take_bounded h
  | transmitEnd => cases he; exact h.of_view s.transmitEnd_boundsView
  | reportTimerExpiry => cases he; exact h.of_view s.reportExpiry_boundsView
  | attnReassertEnd => cases he; exact h.of_view rfl
  | zeroCrossing gap => cases he; exact State.onBlocks_bounded (f := fun p => p.zeroCrossing gap) (h.zeroCrossing gap)
  | windowBoundary gap => cases he; exact State.crossingWhere_bounded h _ gap
  | frequencyMeasured gap => cases he; exact State.crossingWhere_bounded h _ gap
  | mainsReturn gap => cases he; exact State.crossingWhere_bounded h _ gap
  | freqMeasureTimeout => cases he; exact State.onBlocks_bounded h.measureTimeout
  | mainsLossOnset => cases he; exact State.onBlocks_bounded h.crossingsStop
  | flowPulse => cases he; exact h.of_view (Part.flowPulse_boundsView _)
  | tachPulse => cases he; exact h.of_view (Part.tachPulse_boundsView _)
  | climatePeriodExpiry => cases he; exact State.onBlocks_bounded (h.of_view (Part.climateExpiry_boundsView _))
  | pulseTimerTick => cases he; exact State.onBlocks_bounded (h.of_view (Part.pulseTick_boundsView _))
  | ventDriveTimeout => cases he; exact h.of_view rfl
  | scanTimerExpiry => cases he; exact State.onBlocks_bounded (h.of_view (Part.scanTimer_boundsView _))
  | nodeReply r => cases he; exact State.onBlocks_bounded (f := fun p => p.nodeReply r) (h.nodeReply r)
  | replyWindowExpiry => cases he; exact State.onBlocks_bounded h.replyMissing
  | fillTimeout => cases he; exact State.onBlocks_bounded h.fillTimeout
  | drainTimerExpiry => cases he; exact State.onBlocks_bounded h.drainTimeout
  | runOnExpiry => cases he; exact State.onBlocks_bounded h.runOnDone
  | coolWaitExpiry => cases he; exact State.onBlocks_bounded (h.of_view (Part.coolWaitDone_boundsView _))
  | idleDrainExpiry => cases he; exact State.onBlocks_bounded (h.of_view (Part.idleDrain_boundsView _))
  | levelDelayExpiry => cases he; exact State.onBlocks_bounded h.levelDelayDone
  | lullTimerExpiry => cases he; exact State.onBlocks_bounded (h.of_view (Part.lullReached_boundsView _))
  | soakTimerExpiry => cases he; exact State.onBlocks_bounded (h.of_view (Part.soakDone_boundsView _))
  | stageTimerTick => cases he; exact State.onBlocks_bounded h.stageSecond
  | holdTimerExpiry => cases he; exact State.onBlocks_bounded (h.of_view (Part.holdExpiry_boundsView _))
  | storeWriteComplete => cases he; exact State.writeComplete_bounded h
  | _ => cases he; exact State.submit_bounded h _

end

/-- Settles O59, by the bounds of each command: the executor moves within its stages, and the loop of R89 and the drains
move the blowdown record within R88's bounds. -/
theorem everyStepKeepsBounds : Obligations.EveryStepKeepsBounds := by
  intro s t h hstep
  unfold step at hstep
  split at hstep
  · cases hstep; exact h
  · next c rest _ =>
    exact exec_bounded (s := { s with pending := rest }) c h hstep

end Sys2Proof.Machine
end

section
/-! SUPPORT. The accrual of a top-up volume in closed form and the pull-in of a drain (O53). -/

namespace Sys2Proof.Machine

/-! ### The loop of R89 in closed form -/

/-- R89: the tracker after the loop has spent its progress: each whole interval takes a credit, then adds an owed blowdown,
and what comes at five owed is discarded. -/
def Scale.spent (interval : Nat) (t : Scale) : Scale :=
  let turns := t.progress / interval
  { t with
    progress := if turns ≤ t.credit + (5 - t.owed) then t.progress % interval else interval - 1
    credit := t.credit - turns
    owed := min 5 (t.owed + (turns - t.credit)) }

theorem Scale.spent_below {interval : Nat} {t : Scale} (ho : t.owed ≤ 5) (h : t.progress < interval) :
    t.spent interval = t := by
  simp [Scale.spent, Nat.div_eq_of_lt h, Nat.mod_eq_of_lt h, ho]

section
variable {interval : Nat} {t : Scale}

/-- A turn of the loop takes one interval of the progress. -/
theorem Scale.turn_div_mod (hi : 0 < interval) (h : interval ≤ t.progress) :
    t.progress / interval = (t.progress - interval) / interval + 1
      ∧ t.progress % interval = (t.progress - interval) % interval :=
  ⟨Nat.div_eq_sub_div hi h, Nat.mod_eq_sub_mod h⟩

theorem Scale.spent_credit (hi : 0 < interval) (h : interval ≤ t.progress) (hc : 0 < t.credit) :
    Scale.spent interval { t with progress := t.progress - interval, credit := t.credit - 1 } = t.spent interval := by
  obtain ⟨hdiv, hmod⟩ := Scale.turn_div_mod hi h
  have hroom (n : Nat) : n ≤ t.credit - 1 + (5 - t.owed) ↔ n + 1 ≤ t.credit + (5 - t.owed) := by omega
  simp only [Scale.spent, hdiv, hmod, hroom, Scale.mk.injEq, true_and, and_true]
  omega

theorem Scale.spent_owed (hi : 0 < interval) (h : interval ≤ t.progress) (hc : t.credit = 0) (ho : t.owed < 5) :
    Scale.spent interval { t with progress := t.progress - interval, owed := t.owed + 1 } = t.spent interval := by
  obtain ⟨hdiv, hmod⟩ := Scale.turn_div_mod hi h
  have hroom (n : Nat) : n ≤ 0 + (5 - (t.owed + 1)) ↔ n + 1 ≤ 0 + (5 - t.owed) := by omega
  simp only [Scale.spent, hdiv, hmod, hc, hroom, Scale.mk.injEq, true_and, and_true, Nat.zero_sub, Nat.sub_zero]
  exact congrArg (min 5) (by omega)

theorem Scale.spent_full (hi : 0 < interval) (h : interval ≤ t.progress) (hc : t.credit = 0) (ho : t.owed = 5) :
    t.spent interval = { t with progress := interval - 1 } := by
  have hdiv := (Scale.turn_div_mod hi h).1
  simp [Scale.spent, hdiv, hc, ho]

end

/-- R89: with room for every turn, the credit is spent before owed rises. -/
theorem Scale.spent_of_room {interval : Nat} {t : Scale}
    (h : t.progress / interval ≤ t.credit + (5 - t.owed)) (ho : t.owed ≤ 5) :
    (t.spent interval).progress = t.progress % interval ∧ (t.spent interval).credit = t.credit - t.progress / interval
      ∧ (t.spent interval).owed = t.owed + (t.progress / interval - t.credit) :=
  ⟨if_pos h, rfl, Nat.min_eq_right (by omega)⟩

/-- R89: at five owed the progress is cut to the interval less 1. -/
theorem Scale.spent_of_no_room {interval : Nat} {t : Scale}
    (h : t.credit + (5 - t.owed) < t.progress / interval) :
    (t.spent interval).progress = interval - 1 ∧ (t.spent interval).credit = 0 ∧ (t.spent interval).owed = 5 :=
  ⟨if_neg (Nat.not_le_of_lt h), Nat.sub_eq_zero_of_le (by omega), Nat.min_eq_left (by omega)⟩

/-- R89: with turns enough for every credit and every blowdown up to five, the loop ends with its progress spent. -/
theorem Scale.evaporate_eq_spent {interval : Nat} (hi : 0 < interval) : ∀ (n : Nat) (t : Scale), t.owed ≤ 5 →
    t.credit + (5 - t.owed) < n → t.evaporate interval n = t.spent interval
  | 0, _, _, hn => absurd hn (Nat.not_lt_zero _)
  | n + 1, t, ho, hn => by
    unfold Scale.evaporate
    dsimp only
    split
    · next hp => exact (Scale.spent_below ho hp).symm
    · next hp =>
      have hp := Nat.le_of_not_lt hp
      split
      · next hc =>
        rw [← Scale.spent_credit hi hp hc]
        exact Scale.evaporate_eq_spent hi n _ ho (by dsimp only; omega)
      · next hc =>
        have hc : t.credit = 0 := by omega
        split
        · next hf =>
          rw [← Scale.spent_owed hi hp hc hf]
          exact Scale.evaporate_eq_spent hi n _ (by dsimp only; omega) (by dsimp only; omega)
        · exact (Scale.spent_full hi hp hc (by omega)).symm

/-- R89: the accrual of a volume, in closed form. -/
theorem Part.accrueEvaporation_eq {p : Part} (volume : Nat) (ho : p.scale.owed ≤ 5) (hc : p.scale.credit ≤ 2)
    (hi : 0 < p.store.num 17) : p.accrueEvaporation volume =
      { p with scale := Scale.spent (p.store.num 17) { p.scale with progress := p.scale.progress + volume } } := by
  unfold Part.accrueEvaporation
  rw [Scale.evaporate_eq_spent hi 100]
  · exact ho
  · show p.scale.credit + (5 - p.scale.owed) < 100
    omega

/-! ### One accrual (R85, R90) -/

/-- R87: the lock is set exactly at the lock threshold or where a rinse is owed. -/
theorem Part.evaluateLock_lock_iff (p : Part) : p.evaluateLock.scale.lock = true ↔
    min 65535 (p.store.num 13 * 5 / 4) ≤ p.scale.load ∨ p.descale.record.rinseOwed = true := by
  simp [Part.lockByLoad, lockThreshold_eq]

/-- R86: the due test changes nothing of the tracker but its arming. -/
theorem Part.dueTest_scale (p : Part) : ∃ b, p.dueTest.scale = { p.scale with dueArmed := b } := by
  unfold Part.dueTest
  split
  · exact ⟨false, rfl⟩
  · exact ⟨p.scale.dueArmed, rfl⟩

/-- R85: the part before the record writes of an accrual. -/
def Part.accrued (p : Part) (volume : Nat) : Part :=
  ((((p.deposit volume).accrueEvaporation volume).dueTest).evaluateLock).followSuspension

/-- R90: an accrual queues the scale record where the load has risen by 100, and the blowdown record. -/
theorem Part.accrue_eq (p : Part) (volume : Nat) : p.accrue volume =
    (if p.scale.lastQueued + 100 ≤ (p.accrued volume).scale.load then (p.accrued volume).queueScale
      else p.accrued volume).queueBlowdown := rfl

/-- R85, R89: the load of the deposit, the spent progress and the records that an accrual leaves alone. -/
theorem Part.accrued_scale {p : Part} (volume : Nat) (ho : p.scale.owed ≤ 5) (hc : p.scale.credit ≤ 2)
    (hi : 0 < p.store.num 17) : ∃ armed lock suspended, (p.accrued volume).scale =
      { Scale.spent (p.store.num 17) { (p.deposit volume).scale with progress := p.scale.progress + volume } with
        dueArmed := armed, lock := lock, suspended := suspended } := by
  obtain ⟨armed, ha⟩ := ((p.deposit volume).accrueEvaporation volume).dueTest_scale
  refine ⟨armed, (p.accrued volume).scale.lock, (p.accrued volume).scale.suspended, ?_⟩
  rw [Part.accrueEvaporation_eq volume (p := p.deposit volume) ho hc hi] at ha
  unfold Part.accrued
  rw [Part.accrueEvaporation_eq volume (p := p.deposit volume) ho hc hi, Part.followSuspension, Part.evaluateLock, ha]
  rfl

theorem Part.accrued_lock (p : Part) (volume : Nat) : (p.accrued volume).scale.lock = true ↔
    min 65535 (p.store.num 13 * 5 / 4) ≤ (p.accrued volume).scale.load ∨ p.descale.record.rinseOwed = true := by
  have h := ((p.deposit volume).accrueEvaporation volume).dueTest.evaluateLock_lock_iff
  rw [Part.dueTest_store, Part.dueTest_descale] at h
  exact h

/-- R90: the tracker after the record writes, and the records as served. -/
theorem Part.accrue_records (p : Part) (volume : Nat) :
    let u := (p.accrued volume).scale
    let q := p.accrue volume
    (∃ n, q.scale = { u with lastQueued := n })
      ∧ q.store.served 15 = .blowdown u.progress u.owed u.credit u.flush
      ∧ (p.scale.lastQueued + 100 ≤ u.load → q.store.served 14 = .scale u.load u.remainder ∧ q.scale.lastQueued = u.load) := by
  have hblowdown (q : Part) : q.queueBlowdown.store.served 15
      = .blowdown q.scale.progress q.scale.owed q.scale.credit q.scale.flush := Store.enqueue_served_self _ _ _
  have hscale (q : Part) : q.queueScale.queueBlowdown.store.served 14 = .scale q.scale.load q.scale.remainder :=
    (Store.enqueue_served_ne _ 15 14 _ (by decide)).trans (Store.enqueue_served_self _ _ _)
  rw [Part.accrue_eq]
  split
  · exact ⟨⟨_, rfl⟩, hblowdown _, fun _ => ⟨hscale _, rfl⟩⟩
  · next hn => exact ⟨⟨_, rfl⟩, hblowdown _, fun h => absurd h hn⟩

/-- R85: an accrual leaves the boiler and the regulator. -/
theorem Part.accrue_leaves (p : Part) (volume : Nat) :
    (p.accrue volume).boiler = p.boiler ∧ (p.accrue volume).climate = p.climate := by
  rw [Part.accrue_eq]
  unfold Part.accrued
  split <;> simp

/-! ### A completed NORMAL drain (R95) -/

/-- R90: the record writes of a completed drain leave the blowdown record. -/
theorem Part.scaleDrained_normal (p : Part) : ∃ n, (p.scaleDrained (some .normal)).scale =
    { p.pullIn.scale with lastQueued := n } := by
  unfold Part.scaleDrained Part.queueIfOwing
  dsimp only
  split
  · exact ⟨p.pullIn.scale.load, rfl⟩
  · exact ⟨p.pullIn.scale.load, rfl⟩

theorem Part.pullIn_of_owed {p : Part} (h : 0 < p.scale.owed) :
    p.pullIn = { p with scale.owed := p.scale.owed - 1 } := if_pos h

theorem Part.pullIn_of_progress {p : Part} (ho : p.scale.owed = 0) (hp : p.store.num 17 / 2 ≤ p.scale.progress)
    (hc : p.scale.credit < 2) : p.pullIn = { p with scale.credit := p.scale.credit + 1, scale.progress := 0 } := by
  rw [Part.pullIn, if_neg (by omega), if_pos ⟨hp, hc⟩]

theorem Part.pullIn_of_neither {p : Part} (ho : p.scale.owed = 0)
    (h : p.scale.progress < p.store.num 17 / 2 ∨ p.scale.credit = 2) : p.pullIn = p := by
  rw [Part.pullIn, if_neg (by omega), if_neg (by omega)]

/-- Settles O53, by the loop of R89 in closed form and R95's three cases. -/
theorem scaleAccrual : Obligations.ScaleAccrual := by
  intro p volume ho hc hi
  obtain ⟨armed, lock, suspended, hu⟩ := p.accrued_scale volume ho hc hi
  obtain ⟨⟨n, hq⟩, hserved15, hserved14⟩ := p.accrue_records volume
  obtain ⟨hboiler, hclimate⟩ := p.accrue_leaves volume
  have hload : (p.accrued volume).scale.load =
      min 65535 (p.scale.load + (volume * p.store.num 12 + p.scale.remainder) / 100) := by
    rw [hu]
    exact (clampNat_eq 0 65535 _ (by decide)).trans (Nat.zero_max _)
  have hlock := p.accrued_lock volume
  obtain ⟨m, hr⟩ := p.scaleDrained_normal
  obtain ⟨hdrained, -, hwritten⟩ := p.scaleDrained_load (some .normal)
  dsimp only
  rw [hq]
  refine ⟨hload, by rw [hu]; rfl, fun hroom => ?_, fun hroom => ?_, by rw [Nat.min_comm]; exact hlock, hserved15,
    fun h => by rw [hq] at hserved14; exact hserved14 h, by rw [hu]; rfl, hboiler, hclimate, fun h => ?_,
    fun h0 hp h2 => ?_, fun h0 h => ?_, hdrained, hwritten⟩
  · rw [hu]
    exact Scale.spent_of_room (t := { (p.deposit volume).scale with progress := p.scale.progress + volume }) hroom ho
  · rw [hu]
    exact Scale.spent_of_no_room (t := { (p.deposit volume).scale with progress := p.scale.progress + volume }) hroom
  · rw [hr, Part.pullIn_of_owed h]; exact ⟨rfl, rfl, rfl⟩
  · rw [hr, Part.pullIn_of_progress h0 hp h2]; exact ⟨h0, rfl, rfl⟩
  · rw [hr, Part.pullIn_of_neither h0 h]; exact ⟨h0, rfl, rfl⟩

end Sys2Proof.Machine
end

section
/-! SUPPORT. The load step of the scale tracker, and the damage it reports (R98, R180). -/

namespace Sys2Proof.Machine

theorem Store.num_of_served {t : Store} {i n : Nat} (h : t.served i = .number n) : t.num i = n := by
  rw [Store.num, h]

/-! ### The scale record as the base value (R98) -/

/-- R98: a sound scale record as stored, a damaged one with the due threshold as its load. -/
theorem Part.itemsLoaded_scale (p : Part) {flash : List StoredForm} {f g : StoredForm} {due : Nat}
    (hf : flash[14]? = some f) (hg : flash[13]? = some g) (hd : (loadForm 13 g).getD (defaultValue 13) = .number due) :
    getAt (.number 0) (p.itemsLoaded flash).store.base 14 = (loadForm 14 f).getD (.scale due 0) := by
  have hat14 : getAt (.number 0, false) (loadItems 0 flash) 14 = loadItem 14 f := by
    simp [getAt_eq_getD, getElem?_loadItems, hf]
  have hat13 : getAt (.number 0, false) (loadItems 0 flash) 13 = loadItem 13 g := by
    simp [getAt_eq_getD, getElem?_loadItems, hg]
  have hlen : 14 < ((loadItems 0 flash).map Prod.fst).length := by
    rw [List.length_map]
    exact (List.getElem?_eq_some_iff.1 (by rw [getElem?_loadItems, hf]; rfl : (loadItems 0 flash)[14]? = some _)).1
  have hdamaged : damagedScale (loadItems 0 flash) = .scale due 0 := by
    rw [damagedScale, hat13, loadItem_eq, hd]
  rw [show (p.itemsLoaded flash).store.base = baseValues (loadItems 0 flash) from rfl, baseValues, hat14, loadItem_eq,
    hdamaged]
  cases hl : loadForm 14 f with
  | none => exact getAt_setAt_self _ _ _ _ hlen
  | some v => simp [getAt_eq_getD, getElem?_loadItems, hf, loadItem_eq, hl]

/-! ### Damage reported (R180) -/

/-- R180: an item is damaged exactly where one of the stored forms is. -/
theorem loadItems_any (n : Nat) (flash : List StoredForm) : ((loadItems n flash).map Prod.snd).any (fun b => b) = true ↔
    ∃ i f, flash[i]? = some f ∧ loadForm (n + i) f = none := by
  simp [List.mem_iff_getElem?, getElem?_loadItems, loadItem_eq]

section
variable {p : Part}

theorem Part.reportDamage_sound (h : p.store.defaulted.any (fun b => b) = false) : p.reportDamage = p := by
  rw [Part.reportDamage, if_neg (by simp [h])]

/-- R180: damage is raised as a notice and latched as a fault. -/
theorem Part.reportDamage_damaged (h : p.store.defaulted.any (fun b => b) = true) :
    hasFault p.reportDamage.mode.faults .storeDefaulted = true
      ∧ p.reportDamage.notice.pending.getLsbD (noticePosition .storeDefaulted) = true := by
  have hraised := NoticeUnit.raise_self p.notice .storeDefaulted
  rw [Part.reportDamage, if_pos h, Part.raiseFault_storeDefaulted]
  split
  · next hf => exact ⟨hf, hraised⟩
  · exact ⟨hasFault_latch _ _, NoticeUnit.raise_pending _ .fault _ hraised⟩

theorem Part.reportDamage_scale (p : Part) : p.reportDamage.scale = p.scale := by
  unfold Part.reportDamage
  split
  · rw [Part.raiseFault_storeDefaulted]; split <;> rfl
  · rfl

theorem Part.descaleLoaded_eq {r : DescaleRecord} (h : p.store.served 16 = .descale r) :
    p.descaleLoaded = { p with descale.record := r } := by rw [Part.descaleLoaded, h]

/-! ### The tracker's load step (R98) -/

@[simp] theorem Part.queueIfOwing_scale (p q : Part) : (p.queueIfOwing q).scale = q.scale := by
  unfold Part.queueIfOwing; split <;> rfl
@[simp] theorem Part.queueIfOwing_descale (p q : Part) : (p.queueIfOwing q).descale = q.descale := by
  unfold Part.queueIfOwing; split <;> rfl
@[simp] theorem Part.queueIfOwing_mode (p q : Part) : (p.queueIfOwing q).mode = q.mode := by
  unfold Part.queueIfOwing; split <;> rfl
@[simp] theorem Part.queueIfOwing_notice (p q : Part) : (p.queueIfOwing q).notice = q.notice := by
  unfold Part.queueIfOwing; split <;> rfl

theorem Part.queueIfOwing_entry_ne (p q : Part) {i : Nat} (h : i ≠ 15) :
    (p.queueIfOwing q).store.entry i = q.store.entry i := by
  unfold Part.queueIfOwing
  split
  · rfl
  · exact Store.enqueue_entry_ne _ _ _ _ h

theorem Part.queueIfOwing_served_ne (p q : Part) {i : Nat} (h : i ≠ 15) :
    (p.queueIfOwing q).store.served i = q.store.served i := by
  unfold Part.queueIfOwing
  split
  · rfl
  · exact Store.enqueue_served_ne _ _ _ _ h

/-- R90: the record is queued exactly where owed, credit or flush-required have changed. -/
theorem Part.queueIfOwing_kept {p q : Part} (ho : q.scale.owed = p.scale.owed) (hc : q.scale.credit = p.scale.credit)
    (hf : q.scale.flush = p.scale.flush) : p.queueIfOwing q = q := by
  rw [Part.queueIfOwing, ho, hc, hf, if_pos rfl]

theorem Part.queueIfOwing_changed {p q : Part} (h : q.scale.owed ≠ p.scale.owed ∨ q.scale.credit ≠ p.scale.credit) :
    p.queueIfOwing q = q.queueBlowdown := by
  refine if_neg fun he => ?_
  obtain ⟨howed, hcredit, -⟩ : _ ∧ _ ∧ _ := by simpa only [Prod.mk.injEq] using he
  exact h.elim (fun k => k howed.symm) (fun k => k hcredit.symm)

theorem Part.queueIfOwing_defaulted (p q : Part) : (p.queueIfOwing q).store.defaulted = q.store.defaulted := by
  unfold Part.queueIfOwing
  split
  · rfl
  · exact Store.enqueue_defaulted _ _ _

theorem Part.dueLoaded_store (p : Part) : p.dueLoaded.store = p.store := by
  unfold Part.dueLoaded; dsimp only; split <;> rfl

theorem Part.blowdownLoaded_store (p : Part) : p.blowdownLoaded.store = p.store := by
  unfold Part.blowdownLoaded; split <;> rfl

/-- R98: the tracker's load step writes the item 15 of the store alone. -/
theorem Part.scaleLoaded_store (p : Part) : p.scaleLoaded.store = p.recordLoaded.blowdownLoaded.progressLoaded.store := by
  rw [Part.scaleLoaded, Part.evaluateLock_store, Part.dueLoaded_store]

theorem Part.scaleLoaded_served_ne (p : Part) {i : Nat} (h : i ≠ 15) : p.scaleLoaded.store.served i = p.store.served i := by
  rw [Part.scaleLoaded_store, Part.progressLoaded, Part.queueIfOwing_served_ne _ _ h, Part.accrueEvaporation_store,
    Part.blowdownLoaded_store, Part.recordLoaded_store]

theorem Part.scaleLoaded_entry_ne (p : Part) {i : Nat} (h : i ≠ 15) : p.scaleLoaded.store.entry i = p.store.entry i := by
  rw [Part.scaleLoaded_store, Part.progressLoaded, Part.queueIfOwing_entry_ne _ _ h, Part.accrueEvaporation_store,
    Part.blowdownLoaded_store, Part.recordLoaded_store]

theorem Part.scaleLoaded_defaulted (p : Part) : p.scaleLoaded.store.defaulted = p.store.defaulted := by
  rw [Part.scaleLoaded_store, Part.progressLoaded, Part.queueIfOwing_defaulted, Part.accrueEvaporation_store,
    Part.blowdownLoaded_store, Part.recordLoaded_store]

theorem Part.dueLoaded_scale (p : Part) : p.dueLoaded.scale = { p.scale with
    lastQueued := p.scale.load, dueArmed := decide (p.scale.load < p.store.num 13) || p.scale.dueArmed } := by
  unfold Part.dueLoaded
  dsimp only
  split
  · next h => rw [decide_eq_true h, Bool.true_or]
  · next h => rw [decide_eq_false h, Bool.false_or]; rfl

theorem Part.dueLoaded_notice (p : Part) : p.dueLoaded.notice =
    if p.scale.load < p.store.num 13 then p.notice else p.notice.raise .descaleDue := by
  unfold Part.dueLoaded
  dsimp only
  split <;> rfl

theorem Part.dueLoaded_descale (p : Part) : p.dueLoaded.descale = p.descale := by
  unfold Part.dueLoaded; dsimp only; split <;> rfl

theorem Part.dueLoaded_mode (p : Part) : p.dueLoaded.mode = p.mode := by
  unfold Part.dueLoaded; dsimp only; split <;> rfl

theorem Part.scaleLoaded_leaves (p : Part) : p.scaleLoaded.mode = p.mode ∧ p.scaleLoaded.descale = p.descale := by
  have hblowdown : p.recordLoaded.blowdownLoaded.mode = p.mode ∧ p.recordLoaded.blowdownLoaded.descale = p.descale := by
    unfold Part.blowdownLoaded Part.recordLoaded
    split <;> split <;> exact ⟨rfl, rfl⟩
  constructor
  · rw [Part.scaleLoaded, Part.evaluateLock_mode, Part.dueLoaded_mode, Part.progressLoaded, Part.queueIfOwing_mode,
      Part.accrueEvaporation_mode, hblowdown.1]
  · rw [Part.scaleLoaded, Part.evaluateLock_descale, Part.dueLoaded_descale, Part.progressLoaded,
      Part.queueIfOwing_descale, Part.accrueEvaporation_descale, hblowdown.2]

end

/-- R98: the part with the tracker's two records as the store has loaded them. -/
def Part.withRecords (p : Part) (load remainder progress owed credit : Nat) (flush : Bool) : Part := { p with
  scale := { p.scale with
    load := load, remainder := remainder, progress := progress, owed := owed, credit := credit, flush := flush } }

/-- R89, R98: the part with the two records and the progress spent by the loop of R89. -/
def Part.withRecordsSpent (p : Part) (load remainder progress owed credit : Nat) (flush : Bool) : Part :=
  { p.withRecords load remainder progress owed credit flush with
    scale := (p.withRecords load remainder progress owed credit flush).scale.spent (p.store.num 17) }

/-- R89, R98: the blowdown record is judged as at an accrual of nothing. -/
theorem Part.progressLoaded_eq {p : Part} (ho : p.scale.owed ≤ 5) (hc : p.scale.credit ≤ 2) (hi : 0 < p.store.num 17) :
    p.progressLoaded = p.queueIfOwing { p with scale := p.scale.spent (p.store.num 17) } := by
  rw [Part.progressLoaded, Part.accrueEvaporation_eq 0 ho hc hi]
  rfl

section
variable {p : Part} {load remainder progress owed credit : Nat} {flush : Bool}
  (h14 : p.store.served 14 = .scale load remainder)
  (h15 : p.store.served 15 = .blowdown progress owed credit flush)
include h14 h15

theorem Part.recordsLoaded_eq :
    p.recordLoaded.blowdownLoaded = p.withRecords load remainder progress owed credit flush := by
  have hrecord : p.recordLoaded = { p with scale.load := load, scale.remainder := remainder } := by
    rw [Part.recordLoaded, h14]
  rw [hrecord, Part.blowdownLoaded, h15]
  rfl

variable (ho : owed ≤ 5) (hc : credit ≤ 2) (hi : 0 < p.store.num 17)
include ho hc hi

theorem Part.recordsJudged_eq : p.recordLoaded.blowdownLoaded.progressLoaded =
    (p.withRecords load remainder progress owed credit flush).queueIfOwing
      (p.withRecordsSpent load remainder progress owed credit flush) := by
  rw [Part.recordsLoaded_eq h14 h15]
  exact Part.progressLoaded_eq (p := p.withRecords load remainder progress owed credit flush) ho hc hi

/-- R89, R98: what the due flag and the lock are then judged from. -/
theorem Part.recordsJudged :
    let r := p.recordLoaded.blowdownLoaded.progressLoaded
    r.scale = (p.withRecordsSpent load remainder progress owed credit flush).scale
      ∧ r.descale = p.descale ∧ r.notice = p.notice ∧ r.store.num 13 = p.store.num 13 := by
  have hdue : p.recordLoaded.blowdownLoaded.progressLoaded.store.num 13 = p.store.num 13 := by
    rw [← Part.scaleLoaded_store, Store.num, p.scaleLoaded_served_ne (by decide), ← Store.num]
  refine ⟨?_, ?_, ?_, hdue⟩
  · rw [Part.recordsJudged_eq h14 h15 ho hc hi, Part.queueIfOwing_scale]
  · rw [Part.recordsJudged_eq h14 h15 ho hc hi, Part.queueIfOwing_descale]; rfl
  · rw [Part.recordsJudged_eq h14 h15 ho hc hi, Part.queueIfOwing_notice]; rfl

/-- R86, R98: the tracker after its load step. -/
theorem Part.scaleLoaded_scale : ∃ lock, p.scaleLoaded.scale =
    { (p.withRecordsSpent load remainder progress owed credit flush).scale with
      lastQueued := load
      dueArmed := decide (load < p.store.num 13) || p.scale.dueArmed
      lock := lock } := by
  obtain ⟨hscale, -, -, hdue⟩ := Part.recordsJudged h14 h15 ho hc hi
  have h := Part.dueLoaded_scale p.recordLoaded.blowdownLoaded.progressLoaded
  rw [hscale, hdue] at h
  exact ⟨p.scaleLoaded.scale.lock, congrArg (fun u : Scale => { u with lock := p.scaleLoaded.scale.lock }) h⟩

/-- R87, R98: the lock after the tracker's load step. -/
theorem Part.scaleLoaded_lock : p.scaleLoaded.scale.lock = true ↔
    min 65535 (p.store.num 13 * 5 / 4) ≤ load ∨ p.descale.record.rinseOwed = true := by
  obtain ⟨hscale, hdescale, -, hdue⟩ := Part.recordsJudged h14 h15 ho hc hi
  have hload : p.recordLoaded.blowdownLoaded.progressLoaded.dueLoaded.scale.load = load := by
    rw [Part.dueLoaded_scale, hscale]; rfl
  rw [Part.scaleLoaded, Part.evaluateLock_lock_iff, Part.dueLoaded_store, Part.dueLoaded_descale, hload, hdescale, hdue]

/-- R86, R98: a load at or above the due threshold raises DESCALE_DUE. -/
theorem Part.scaleLoaded_notice : p.scaleLoaded.notice =
    if load < p.store.num 13 then p.notice else p.notice.raise .descaleDue := by
  obtain ⟨hscale, -, hnotice, hdue⟩ := Part.recordsJudged h14 h15 ho hc hi
  have hload : p.recordLoaded.blowdownLoaded.progressLoaded.scale.load = load := by rw [hscale]; rfl
  rw [Part.scaleLoaded, Part.evaluateLock_notice, Part.dueLoaded_notice, hload, hdue, hnotice]

/-- R90, R98: the store stays where the loop has changed neither owed nor credit. -/
theorem Part.scaleLoaded_store_kept (hu : p.scaleLoaded.scale.owed = owed ∧ p.scaleLoaded.scale.credit = credit) :
    p.scaleLoaded.store = p.store := by
  obtain ⟨lock, hscale⟩ := Part.scaleLoaded_scale h14 h15 ho hc hi
  rw [hscale] at hu
  rw [Part.scaleLoaded_store, Part.recordsJudged_eq h14 h15 ho hc hi, Part.queueIfOwing_kept]
  · rfl
  · exact hu.1
  · exact hu.2
  · rfl

/-- R90, R98: the blowdown record is queued where the loop has changed owed or credit. -/
theorem Part.scaleLoaded_store_changed (hu : p.scaleLoaded.scale.owed ≠ owed ∨ p.scaleLoaded.scale.credit ≠ credit) :
    p.scaleLoaded.store = p.store.enqueue 15 (.blowdown p.scaleLoaded.scale.progress p.scaleLoaded.scale.owed
      p.scaleLoaded.scale.credit p.scaleLoaded.scale.flush) := by
  obtain ⟨lock, hscale⟩ := Part.scaleLoaded_scale h14 h15 ho hc hi
  rw [hscale] at hu ⊢
  rw [Part.scaleLoaded_store, Part.recordsJudged_eq h14 h15 ho hc hi, Part.queueIfOwing_changed]
  · rfl
  · exact hu

end

end Sys2Proof.Machine
end

section
/-! SUPPORT. What the load step reads from the stored forms, and the part as the tracker finds it (R180). -/

namespace Sys2Proof.Machine

/-! ### What was read (R98, R114, R180) -/

/-- The values that the tracker and the sequencer start from. -/
structure Records where
  due : Nat
  interval : Nat
  load : Nat
  remainder : Nat
  progress : Nat
  owed : Nat
  credit : Nat
  flush : Bool
  descale : DescaleRecord

/-- R98, R114, R180: the values are those of the stored forms, damaged ones at their defaults and a damaged load at the due
threshold. -/
structure Records.ReadFrom (k : Records) (flash : List StoredForm) : Prop where
  due : (loadedItem flash 13).getD (defaultValue 13) = .number k.due
  interval : (loadedItem flash 17).getD (defaultValue 17) = .number k.interval
  positive : 0 < k.interval
  scale : (loadedItem flash 14).getD (.scale k.due 0) = .scale k.load k.remainder
  blowdown : (loadedItem flash 15).getD (defaultValue 15) = .blowdown k.progress k.owed k.credit k.flush
  owed : k.owed ≤ 5
  credit : k.credit ≤ 2
  descale : (loadedItem flash 16).getD (defaultValue 16) = .descale k.descale

theorem exists_records (flash : List StoredForm) : ∃ k : Records, k.ReadFrom flash := by
  obtain ⟨due, hdue⟩ := loaded_due flash
  obtain ⟨interval, hinterval, hpositive⟩ := loaded_interval flash
  obtain ⟨load, remainder, hscale⟩ := loaded_scale flash due
  obtain ⟨progress, owed, credit, flush, hblowdown, ho, hc, -⟩ := loaded_blowdown flash
  obtain ⟨r, hdescale⟩ := loaded_descale flash
  exact ⟨⟨due, interval, load, remainder, progress, owed, credit, flush, r⟩, hdue, hinterval, hpositive, hscale, hblowdown,
    ho, hc, hdescale⟩

/-! ### The part as the tracker's load step finds it -/

/-- R180: the part with the items read, damaged records queued, damage reported and the descale record taken. -/
def Part.storeLoaded (flash : List StoredForm) : Part :=
  (Part.reset.itemsLoaded flash).damageQueued.reportDamage.descaleLoaded

section
variable {flash : List StoredForm}

theorem Part.storeLoaded_store : (Part.storeLoaded flash).store = (Part.reset.itemsLoaded flash).damageQueued.store := by
  rw [Part.storeLoaded, Part.descaleLoaded_store, Part.reportDamage_store]

theorem Part.storeLoaded_served {i : Nat} :
    (Part.storeLoaded flash).store.served i = getAt (.number 0) (Part.reset.itemsLoaded flash).store.base i := by
  rw [Part.storeLoaded_store, Part.damageQueued_served (Part.reset_itemsLoaded_fresh flash)]

theorem Part.storeLoaded_defaulted {i : Nat} (h : i < flash.length) :
    getAt false (Part.storeLoaded flash).store.defaulted i = (loadedItem flash i).isNone := by
  have hf := List.getElem?_eq_getElem h
  rw [Part.storeLoaded_store, Part.damageQueued_defaulted, Part.itemsLoaded_defaulted _ hf, loadedItem_of_form hf]

theorem Part.storeLoaded_served_ne {i : Nat} (h : i < flash.length) (hi : i ≠ 14) :
    (Part.storeLoaded flash).store.served i = (loadedItem flash i).getD (defaultValue i) := by
  have hf := List.getElem?_eq_getElem h
  rw [Part.storeLoaded_served, Part.itemsLoaded_base _ hi hf, loadedItem_of_form hf]

theorem Part.storeLoaded_served_scale {due : Nat} (h : 14 < flash.length)
    (hd : (loadedItem flash 13).getD (defaultValue 13) = .number due) :
    (Part.storeLoaded flash).store.served 14 = (loadedItem flash 14).getD (.scale due 0) := by
  have hf := List.getElem?_eq_getElem h
  have hg := List.getElem?_eq_getElem (Nat.lt_of_succ_lt h)
  rw [loadedItem_of_form hg] at hd
  rw [Part.storeLoaded_served, Part.itemsLoaded_scale _ hf hg hd, loadedItem_of_form hf]

/-- R180: exactly the damaged internal items have an entry. -/
theorem Part.storeLoaded_entry_isSome {i : Nat} (hlen : flash.length = 34) :
    ((Part.storeLoaded flash).store.entry i).isSome = true ↔
      (i = 14 ∨ i = 15 ∨ i = 16) ∧ loadedItem flash i = none := by
  have hflag (hi : i = 14 ∨ i = 15 ∨ i = 16) :
      getAt false (Part.reset.itemsLoaded flash).store.defaulted i = (loadedItem flash i).isNone := by
    rw [← Part.storeLoaded_defaulted (by omega), Part.storeLoaded_store, Part.damageQueued_defaulted]
  rw [Part.storeLoaded_store, Part.damageQueued_entry (Part.reset_itemsLoaded_fresh flash)]
  by_cases hi : i = 14 ∨ i = 15 ∨ i = 16
  · rw [hflag hi]
    cases loadedItem flash i <;> simp [hi]
  · simp [hi]

theorem Part.storeLoaded_scale : (Part.storeLoaded flash).scale = Scale.reset := by
  have hqueue (q : Part) (i : Nat) : (q.queueDamaged i).scale = q.scale := by
    unfold Part.queueDamaged; split <;> rfl
  have hdescale (q : Part) : q.descaleLoaded.scale = q.scale := by
    unfold Part.descaleLoaded; split <;> rfl
  rw [Part.storeLoaded, hdescale, Part.reportDamage_scale, Part.damageQueued, hqueue, hqueue, hqueue]
  rfl

theorem Part.storeLoaded_record {r : DescaleRecord} (hlen : 16 < flash.length)
    (hr : (loadedItem flash 16).getD (defaultValue 16) = .descale r) :
    (Part.storeLoaded flash).descale.record = r := by
  have hserved := (Part.storeLoaded_served_ne hlen (by decide)).trans hr
  rw [Part.storeLoaded_store, ← Part.reportDamage_store] at hserved
  rw [Part.storeLoaded, Part.descaleLoaded_eq hserved]

/-- R180: STORE_DEFAULTED is raised and latched exactly where an item is damaged. -/
theorem Part.storeLoaded_damage (hlen : flash.length = 34) :
    ((∃ i, i < 34 ∧ loadedItem flash i = none) → hasFault (Part.storeLoaded flash).mode.faults .storeDefaulted = true
      ∧ (Part.storeLoaded flash).notice.pending.getLsbD (noticePosition .storeDefaulted) = true)
    ∧ ((¬∃ i, i < 34 ∧ loadedItem flash i = none) → (Part.storeLoaded flash).mode.faults = 0
      ∧ (Part.storeLoaded flash).notice = NoticeUnit.reset) := by
  have hqueue (q : Part) (i : Nat) : (q.queueDamaged i).mode = q.mode ∧ (q.queueDamaged i).notice = q.notice := by
    unfold Part.queueDamaged; split <;> exact ⟨rfl, rfl⟩
  have hdescale (q : Part) : q.descaleLoaded.mode = q.mode ∧ q.descaleLoaded.notice = q.notice := by
    unfold Part.descaleLoaded; split <;> exact ⟨rfl, rfl⟩
  have hany : (Part.reset.itemsLoaded flash).damageQueued.store.defaulted.any (fun b => b) = true ↔
      ∃ i, i < 34 ∧ loadedItem flash i = none := by
    rw [Part.damageQueued_defaulted]
    refine (loadItems_any 0 flash).trans ⟨?_, ?_⟩
    · rintro ⟨i, f, hf, hn⟩
      exact ⟨i, hlen ▸ (List.getElem?_eq_some_iff.1 hf).1, by rw [loadedItem_of_form hf, ← hn, Nat.zero_add]⟩
    · rintro ⟨i, hi, hn⟩
      have hf := List.getElem?_eq_getElem (show i < flash.length by omega)
      exact ⟨i, flash[i], hf, by rw [← hn, loadedItem_of_form hf, Nat.zero_add]⟩
  rw [Part.storeLoaded, (hdescale _).1, (hdescale _).2]
  refine ⟨fun h => Part.reportDamage_damaged (hany.2 h), fun h => ?_⟩
  rw [Part.reportDamage_sound (Bool.eq_false_iff.2 (mt hany.1 h)), Part.damageQueued]
  simp only [hqueue]
  exact ⟨rfl, rfl⟩

end

end Sys2Proof.Machine
end

section
/-! SUPPORT. The part after a power-on (O5). -/

namespace Sys2Proof.Machine

/-! ### The load step, done (R98, R180) -/

/-- R178: with no write in progress, a power-on cuts none off. -/
theorem State.cutWrite_idle {s : State} (h : s.part.store.writing = none) : s.cutWrite = s := by
  rw [State.cutWrite, h]

/-- R181: after the tracker's load step only the report timer, the start-up step and the measurement change. -/
theorem State.powerOn_loads {s : State} (h : s.part.store.writing = none) :
    let q := (Part.storeLoaded s.flash).scaleLoaded
    s.powerOn.flash = s.flash ∧ s.powerOn.part.store = q.store ∧ s.powerOn.part.scale = q.scale
      ∧ s.powerOn.part.descale = q.descale ∧ s.powerOn.part.notice = q.notice
      ∧ s.powerOn.part.mode.faults = q.mode.faults := by
  have hstarted (q : Part) : let t : Part := { q.startReports with mode.startup := .frequency, power.measure := .waiting }
      t.store = q.store ∧ t.scale = q.scale ∧ t.descale = q.descale ∧ t.notice = q.notice
        ∧ t.mode.faults = q.mode.faults := ⟨rfl, rfl, rfl, rfl, rfl⟩
  have hpart : s.powerOn.part = { (Part.storeLoaded s.flash).scaleLoaded.startReports with
      mode.startup := .frequency, power.measure := .waiting } := by
    rw [State.powerOn_part, State.cutWrite_idle h, Part.loadStep_eq, ← Part.storeLoaded]
  refine ⟨?_, ?_⟩
  · rw [State.powerOn, State.cutWrite_idle h]; rfl
  · rw [hpart]; exact hstarted _

/-- R98: a damaged blowdown record starts at its default. -/
theorem Records.ReadFrom.of_damaged {flash : List StoredForm} {k : Records} (hk : k.ReadFrom flash)
    (hd : loadedItem flash 15 = none) :
    k.progress = 0 ∧ k.owed = 0 ∧ k.credit = 0 ∧ k.flush = false := by
  have h := hk.blowdown
  rw [hd] at h
  obtain ⟨hprogress, howed, hcredit, hflush⟩ := ItemValue.blowdown.inj (show ItemValue.blowdown 0 0 0 false = _ from h)
  exact ⟨hprogress.symm, howed.symm, hcredit.symm, hflush.symm⟩

/-- R180: the write queue holds damaged records, and the blowdown record. -/
theorem Part.loaded_queue {flash : List StoredForm} (hlen : flash.length = 34) {e : QueueEntry}
    (he : e ∈ (Part.storeLoaded flash).scaleLoaded.store.queue) :
    e.item = 14 ∨ e.item = 15 ∨ e.item = 16 := by
  have hsome := (Store.entry_isSome_iff _ _).2 ⟨e, he, rfl⟩
  by_cases h15 : e.item = 15
  · exact Or.inr (Or.inl h15)
  · rw [Part.scaleLoaded_entry_ne _ h15, Part.storeLoaded_entry_isSome hlen] at hsome
    exact hsome.1

section
variable {flash : List StoredForm} {k : Records} (hlen : flash.length = 34) (hk : k.ReadFrom flash)
include hlen hk

theorem Part.storeLoaded_num :
    (Part.storeLoaded flash).store.num 13 = k.due ∧ (Part.storeLoaded flash).store.num 17 = k.interval :=
  ⟨Store.num_of_served ((Part.storeLoaded_served_ne (by omega) (by decide)).trans hk.due),
    Store.num_of_served ((Part.storeLoaded_served_ne (by omega) (by decide)).trans hk.interval)⟩

theorem Part.storeLoaded_records : (Part.storeLoaded flash).store.served 14 = .scale k.load k.remainder
    ∧ (Part.storeLoaded flash).store.served 15 = .blowdown k.progress k.owed k.credit k.flush
    ∧ 0 < (Part.storeLoaded flash).store.num 17 :=
  ⟨(Part.storeLoaded_served_scale (by omega) hk.due).trans hk.scale,
    (Part.storeLoaded_served_ne (by omega) (by decide)).trans hk.blowdown,
    (Part.storeLoaded_num hlen hk).2 ▸ hk.positive⟩

/-- R175: the items outside the records as the tracker leaves them. -/
theorem Part.loaded_num : let q := (Part.storeLoaded flash).scaleLoaded
    q.store.num 13 = k.due ∧ q.store.num 17 = k.interval := by
  obtain ⟨hdue, hinterval⟩ := Part.storeLoaded_num hlen hk
  constructor
  · rw [Store.num, Part.scaleLoaded_served_ne _ (by decide), ← Store.num, hdue]
  · rw [Store.num, Part.scaleLoaded_served_ne _ (by decide), ← Store.num, hinterval]

/-- R86, R89, R98: the tracker's record, with the progress spent by the loop of R89. -/
theorem Part.loaded_scale : let u := (Part.storeLoaded flash).scaleLoaded.scale
    let spent := ((Part.storeLoaded flash).withRecordsSpent k.load k.remainder k.progress k.owed k.credit k.flush).scale
    u.load = k.load ∧ u.remainder = k.remainder ∧ u.flush = k.flush ∧ u.progress = spent.progress
      ∧ u.owed = spent.owed ∧ u.credit = spent.credit ∧ u.lastQueued = k.load ∧ u.dueArmed = decide (k.load < k.due) := by
  obtain ⟨h14, h15, hi⟩ := Part.storeLoaded_records hlen hk
  obtain ⟨lock, h⟩ := Part.scaleLoaded_scale h14 h15 hk.owed hk.credit hi
  rw [(Part.storeLoaded_num hlen hk).1, Part.storeLoaded_scale, Scale.reset, Bool.or_false] at h
  dsimp only
  rw [h]
  exact ⟨rfl, rfl, rfl, rfl, rfl, rfl, rfl, rfl⟩

/-- R89: the blowdown record after the loop. -/
theorem Part.loaded_judged : let u := (Part.storeLoaded flash).scaleLoaded.scale
    let turns := k.progress / k.interval
    let room := k.credit + (5 - k.owed)
    (turns ≤ room → u.progress = k.progress % k.interval ∧ u.credit = k.credit - turns
      ∧ u.owed = k.owed + (turns - k.credit))
    ∧ (room < turns → u.progress = k.interval - 1 ∧ u.credit = 0 ∧ u.owed = 5) := by
  obtain ⟨-, -, -, hprogress, howed, hcredit, -, -⟩ := Part.loaded_scale hlen hk
  dsimp only
  rw [hprogress, howed, hcredit, Part.withRecordsSpent, (Part.storeLoaded_num hlen hk).2]
  exact ⟨fun h => Scale.spent_of_room (t := Part.scale (Part.withRecords _ _ _ _ _ _ _)) h hk.owed,
    fun h => Scale.spent_of_no_room (t := Part.scale (Part.withRecords _ _ _ _ _ _ _)) h⟩

theorem Part.loaded_lock : (Part.storeLoaded flash).scaleLoaded.scale.lock = true ↔
    min 65535 (k.due * 5 / 4) ≤ k.load ∨ k.descale.rinseOwed = true := by
  obtain ⟨h14, h15, hi⟩ := Part.storeLoaded_records hlen hk
  rw [Part.scaleLoaded_lock h14 h15 hk.owed hk.credit hi, (Part.storeLoaded_num hlen hk).1,
    Part.storeLoaded_record (by omega) hk.descale]

theorem Part.loaded_record : (Part.storeLoaded flash).scaleLoaded.descale.record = k.descale := by
  rw [(Part.scaleLoaded_leaves _).2, Part.storeLoaded_record (by omega) hk.descale]

theorem Part.loaded_served : let q := (Part.storeLoaded flash).scaleLoaded
    q.store.served 14 = .scale k.load k.remainder ∧ q.store.served 16 = .descale k.descale := by
  obtain ⟨h14, -, -⟩ := Part.storeLoaded_records hlen hk
  exact ⟨(Part.scaleLoaded_served_ne _ (by decide)).trans h14, (Part.scaleLoaded_served_ne _ (by decide)).trans
    ((Part.storeLoaded_served_ne (by omega) (by decide)).trans hk.descale)⟩

/-- R98, R180: item 15 is queued where it is damaged and where the loop has changed owed or credit. -/
theorem Part.loaded_entry_blowdown : let q := (Part.storeLoaded flash).scaleLoaded
    (q.store.entry 15).isSome = true ↔
      loadedItem flash 15 = none ∨ q.scale.owed ≠ k.owed ∨ q.scale.credit ≠ k.credit := by
  obtain ⟨h14, h15, hi⟩ := Part.storeLoaded_records hlen hk
  dsimp only
  by_cases hu : (Part.storeLoaded flash).scaleLoaded.scale.owed = k.owed
      ∧ (Part.storeLoaded flash).scaleLoaded.scale.credit = k.credit
  · rw [Part.scaleLoaded_store_kept h14 h15 hk.owed hk.credit hi hu, Part.storeLoaded_entry_isSome hlen]
    simp [hu.1, hu.2]
  · rw [not_and_or] at hu
    rw [Part.scaleLoaded_store_changed h14 h15 hk.owed hk.credit hi hu, Store.enqueue_entry_self]
    exact ⟨fun _ => Or.inr hu, fun _ => rfl⟩

theorem Part.loaded_scale_damaged (hd : loadedItem flash 15 = none) : let u := (Part.storeLoaded flash).scaleLoaded.scale
    u.progress = 0 ∧ u.owed = 0 ∧ u.credit = 0 ∧ u.flush = false := by
  obtain ⟨hprogress, howed, hcredit, hflush⟩ := hk.of_damaged hd
  have hjudged := (Part.loaded_judged hlen hk).1
  rw [hprogress, howed, hcredit, Nat.zero_div, Nat.zero_mod] at hjudged
  obtain ⟨h1, h2, h3⟩ := hjudged (Nat.zero_le _)
  exact ⟨h1, h3, h2, (Part.loaded_scale hlen hk).2.2.1.trans hflush⟩

/-- R98, R178: where item 15 is queued it is served as the tracker holds it. -/
theorem Part.loaded_served_blowdown : let q := (Part.storeLoaded flash).scaleLoaded
    (q.store.entry 15).isSome = true →
      q.store.served 15 = .blowdown q.scale.progress q.scale.owed q.scale.credit q.scale.flush := by
  obtain ⟨h14, h15, hi⟩ := Part.storeLoaded_records hlen hk
  intro q hq
  by_cases hu : q.scale.owed ≠ k.owed ∨ q.scale.credit ≠ k.credit
  · rw [Part.scaleLoaded_store_changed h14 h15 hk.owed hk.credit hi hu, Store.enqueue_served_self]
  · have hd := ((Part.loaded_entry_blowdown hlen hk).1 hq).resolve_right hu
    obtain ⟨hprogress, howed, hcredit, hflush⟩ := hk.of_damaged hd
    obtain ⟨uprogress, uowed, ucredit, uflush⟩ := Part.loaded_scale_damaged hlen hk hd
    rw [not_or, not_not, not_not] at hu
    rw [uprogress, uowed, ucredit, uflush, Part.scaleLoaded_store_kept h14 h15 hk.owed hk.credit hi hu, h15, hprogress, howed,
      hcredit, hflush]

/-- R86: at or above the due threshold DESCALE_DUE is raised. -/
theorem Part.loaded_notice : (Part.storeLoaded flash).scaleLoaded.notice =
    if k.load < k.due then (Part.storeLoaded flash).notice else (Part.storeLoaded flash).notice.raise .descaleDue := by
  obtain ⟨h14, h15, hi⟩ := Part.storeLoaded_records hlen hk
  rw [Part.scaleLoaded_notice h14 h15 hk.owed hk.credit hi, (Part.storeLoaded_num hlen hk).1]

/-- R180: STORE_DEFAULTED, as a fault and as a notice, exactly where an item is damaged. -/
theorem Part.loaded_damage : let q := (Part.storeLoaded flash).scaleLoaded
    (hasFault q.mode.faults .storeDefaulted = true ↔ ∃ i, i < 34 ∧ loadedItem flash i = none)
    ∧ (q.notice.pending.getLsbD (noticePosition .storeDefaulted) = true ↔ ∃ i, i < 34 ∧ loadedItem flash i = none) := by
  obtain ⟨hdamaged, hsound⟩ := Part.storeLoaded_damage hlen
  dsimp only
  rw [(Part.scaleLoaded_leaves _).1, Part.loaded_notice hlen hk]
  by_cases hd : ∃ i, i < 34 ∧ loadedItem flash i = none
  · obtain ⟨hfault, hnotice⟩ := hdamaged hd
    refine ⟨iff_of_true hfault hd, iff_of_true ?_ hd⟩
    split
    · exact hnotice
    · exact NoticeUnit.raise_pending _ _ _ hnotice
  · obtain ⟨hfaults, hnotice⟩ := hsound hd
    rw [hfaults, hnotice]
    refine ⟨iff_of_false (by decide) hd, iff_of_false ?_ hd⟩
    split <;> decide

end

/-- R180: an item that is not internal is served at its stored value or its default. -/
theorem powerOn_serves {s : State} {i : Nat} {f : StoredForm} (hw : s.part.store.writing = none) (hf : s.flash[i]? = some f)
    (h14 : i ≠ 14) (h15 : i ≠ 15) : ∃ t, exec .powerOnReset s = .next t ∧ t.flash = s.flash
      ∧ t.part.store.served i = (loadForm i f).getD (defaultValue i)
      ∧ getAt false t.part.store.defaulted i = (loadForm i f).isNone := by
  have hlen := (List.getElem?_eq_some_iff.1 hf).1
  obtain ⟨hflash, hstore, -⟩ := State.powerOn_loads hw
  refine ⟨s.powerOn, exec_powerOnReset s, hflash, ?_, ?_⟩
  · rw [hstore, Part.scaleLoaded_served_ne _ h15, Part.storeLoaded_served_ne hlen h14, loadedItem_of_form hf]
  · rw [hstore, Part.scaleLoaded_defaulted, Part.storeLoaded_defaulted hlen, loadedItem_of_form hf]

/-- Settles O5, by the values that the load step reads and the loop of R89 in closed form. -/
theorem powerOnLoadsItems : Obligations.PowerOnLoadsItems := by
  refine ⟨fun s i f hw hf h14 h15 _ => powerOn_serves hw hf h14 h15, fun s hw hlen => ?_⟩
  refine ⟨s.powerOn, exec_powerOnReset s, ?_⟩
  obtain ⟨k, hk⟩ := exists_records s.flash
  obtain ⟨-, hstore, hscale, hdescale, hnotice, hfaults⟩ := State.powerOn_loads hw
  obtain ⟨hdue, hinterval⟩ := Part.loaded_num hlen hk
  obtain ⟨uload, uremainder, uflush, -, -, -, ulast, uarmed⟩ := Part.loaded_scale hlen hk
  obtain ⟨served14, served16⟩ := Part.loaded_served hlen hk
  have hentry (i : Nat) := Store.entry_isSome_iff (Part.storeLoaded s.flash).scaleLoaded.store i
  have hrecord := hk.descale
  have hload := hk.scale
  have hblowdown := hk.blowdown
  dsimp only
  rw [hstore, hscale, hdescale, hnotice, hfaults, hdue, hinterval, Part.loaded_record hlen hk, uload, ulast, uarmed,
    uremainder, served14, served16, uflush]
  refine ⟨fun i hi => ?_, fun load remainder h => ?_, fun h => ?_, ?_, fun progress owed credit flush h => ?_, fun h => ?_,
    ?_, fun r h => ?_, fun h => ?_, ?_, rfl, fun e he => Part.loaded_queue hlen he, rfl, by simp, fun h => ?_,
    Part.loaded_lock hlen hk, (Part.loaded_damage hlen hk).1, (Part.loaded_damage hlen hk).2⟩
  · rw [Part.scaleLoaded_defaulted]
    exact Part.storeLoaded_defaulted (by omega)
  · rw [show loadedItem s.flash 14 = _ from h] at hload
    obtain ⟨rfl, rfl⟩ := ItemValue.scale.inj (show ItemValue.scale load remainder = _ from hload)
    exact ⟨rfl, rfl, rfl⟩
  · rw [show loadedItem s.flash 14 = none from h] at hload
    obtain ⟨hl, hr⟩ := ItemValue.scale.inj (show ItemValue.scale k.due 0 = _ from hload)
    rw [← hl, ← hr]
    exact ⟨rfl, rfl, rfl⟩
  · rw [← hentry, Part.scaleLoaded_entry_ne _ (by decide), Part.storeLoaded_entry_isSome hlen]
    simp [loadedItem]
  · rw [show loadedItem s.flash 15 = _ from h] at hblowdown
    obtain ⟨rfl, rfl, rfl, rfl⟩ :=
      ItemValue.blowdown.inj (show ItemValue.blowdown progress owed credit flush = _ from hblowdown)
    have hsound : ¬loadedItem s.flash 15 = none := by rw [show loadedItem s.flash 15 = _ from h]; nofun
    exact ⟨Part.loaded_judged hlen hk, rfl,
      (hentry 15).symm.trans ((Part.loaded_entry_blowdown hlen hk).trans (or_iff_right hsound))⟩
  · obtain ⟨uprogress, uowed, ucredit, hflush⟩ := Part.loaded_scale_damaged hlen hk h
    exact ⟨uprogress, uowed, ucredit, uflush.symm.trans hflush,
      (hentry 15).1 ((Part.loaded_entry_blowdown hlen hk).2 (Or.inl h))⟩
  · intro hq
    rw [← uflush]
    exact Part.loaded_served_blowdown hlen hk ((hentry 15).2 hq)
  · rw [show loadedItem s.flash 16 = _ from h] at hrecord
    exact (ItemValue.descale.inj hrecord).symm
  · rw [show loadedItem s.flash 16 = none from h] at hrecord
    exact (ItemValue.descale.inj (show ItemValue.descale ⟨.idle, 0, false⟩ = _ from hrecord)).symm
  · rw [← hentry, Part.scaleLoaded_entry_ne _ (by decide), Part.storeLoaded_entry_isSome hlen]
    simp [loadedItem]
  · rw [Part.loaded_notice hlen hk, if_neg (Nat.not_lt_of_le h)]
    exact NoticeUnit.raise_self _ _

end Sys2Proof.Machine
end

section
/-! SUPPORT. DESCALE_GET (R115): its record in the fields of its layout, and its soak time remaining. -/

namespace Sys2Proof.Machine

/-- Log entry 5: whatever part of the soak the free value says is over, no more than the whole remains. -/
theorem Descale.soakRemaining_le (d : Descale) (n : Nat) : d.soakRemaining n ≤ d.soakMinutes * 60 := by
  rw [Descale.soakRemaining]
  split
  · exact Nat.sub_le _ _
  · exact Nat.zero_le _

theorem Descale.soakRemaining_of_ne {d : Descale} (n : Nat) (h : d.phase ≠ .soak) : d.soakRemaining n = 0 := if_neg h

/-- Section 12.6: the reply fields of DESCALE_GET, the rinse-owed flag and the recovered flag as one number. -/
theorem Descale.bytes_eq (d : Descale) (remaining : Nat) : d.bytes remaining =
    [byteOf (descalePhaseCode d.phase), byteOf (descalePhaseCode d.record.phase),
      byteOf (promptReasonCode d.prompt), byteOf d.record.rinses, byteOf (rinseStepCode d.rinseStep),
      byteOf (d.record.rinseOwed.toNat + 2 * d.recovered.toNat), byteOf d.soakMinutes]
    ++ natBytes remaining ++ [byteOf (heldCode d.held), byteOf (outcomeCode d.outcome)] := by
  have hflags : flagBit 0 d.record.rinseOwed + flagBit 1 d.recovered
      = d.record.rinseOwed.toNat + 2 * d.recovered.toNat := by
    simp only [flagBit_eq, Nat.reducePow, Nat.one_mul]
  rw [Descale.bytes, hflags]

/-- R115, R156: an admitted DESCALE_GET answers OK with its record and changes, besides the link, only the count of the free
values, which moves on where the soak time has drawn one. -/
theorem exec_descaleGet {s : State} (h : s.listening) (ha : s.admits .descaleGet) :
    exec .descaleGet s = .next
      { s.replied .descaleGet (.okWith (s.part.descale.bytes (s.part.descale.soakRemaining s.free))) with
        free := if s.part.descale.phase = .soak then s.free + 1 else s.free } := by
  have hserve : (s.taken .descaleGet).serve .descaleGet = (s.taken .descaleGet).descaleGet := rfl
  have hexec := exec_admitted h ha
  obtain ⟨-, -, -, hsending, -, -⟩ := h
  rw [hserve] at hexec
  refine hexec.trans ?_
  simp [State.descaleGet, State.taken, Link.sendReply, hsending, State.replied]

/-- Settles O21: the soak time remaining is that of the free value which the request draws. -/
theorem descaleGetAnswers : Obligations.DescaleGetAnswers := by
  intro s hl ha d
  refine ⟨d.soakRemaining s.free, d.soakRemaining_le s.free, d.soakRemaining_of_ne s.free, ?_⟩
  rw [← d.bytes_eq]
  exact exec_descaleGet hl ha

end Sys2Proof.Machine
end

section
/-! SUPPORT. Held climate records and stages (R2, R118): what the checks have accepted is in its ranges, and its block in the
wire form passes the same checks unchanged (R120). -/

namespace Sys2Proof.Machine

/-! ### Held climate records (R2) -/

/-- R2: every field of a climate record is in its range, and its optional fields are those that its mode calls for. -/
structure ClimateParams.Held (c : ClimateParams) : Prop where
  setpoint : (modeSetpoint c.mode).1 ≤ c.setpoint ∧ c.setpoint ≤ (modeSetpoint c.mode).2
  fan : (modeFan c.mode).1 ≤ c.fan ∧ c.fan ≤ (modeFan c.mode).2
  humidity : ∀ h, c.humidity = some h → 0 ≤ h ∧ h ≤ 100
  pulse : ∀ u, c.pulse = some u → 30 ≤ u.period ∧ u.period ≤ 600 ∧ 5 ≤ u.onTime ∧ u.onTime + 5 ≤ u.period
  delta : ∀ d, c.delta = some d → 10 ≤ d ∧ d ≤ 1500
  combi : c.mode = .combi → (c.humidity.isSome ↔ c.pulse = none)
  other : c.mode ≠ .combi → c.humidity = none ∧ c.pulse = none

/-- R2: the checks accept a climate block only as a held record. -/
theorem ClimateParams.held_of_check {b : ClimateBlock} {c : ClimateParams} {clamped : Bool}
    (h : checkClimate b = some (c, clamped)) : c.Held := by
  obtain ⟨hf, -, ha, hc, -⟩ := checkClimate_eq_some h
  obtain ⟨hs1, hs2, hf1, hf2, hh, hp, hd⟩ := writtenParams_bounds b c.mode
  obtain ⟨hcombi, hother⟩ := writtenParams_presence hf ha
  rw [← hc] at hs1 hs2 hf1 hf2 hh hp hd hcombi hother
  exact ⟨⟨hs1, hs2⟩, ⟨hf1, hf2⟩, hh, hp, hd, hcombi, hother⟩

theorem clampInt_of_mem {lo hi v : Int} (h : lo ≤ v ∧ v ≤ hi) : clampInt lo hi v = v := by
  rw [clampInt, if_neg (by omega), if_neg (by omega)]

theorem SteamPulse.clamp_of_mem {u : SteamPulse}
    (h : 30 ≤ u.period ∧ u.period ≤ 600 ∧ 5 ≤ u.onTime ∧ u.onTime + 5 ≤ u.period) : u.clamp = u := by
  have hperiod : clampNat 30 600 u.period = u.period := clampNat_of_mem (by omega) (by omega)
  have honTime : clampNat 5 (u.period - 5) u.onTime = u.onTime := clampNat_of_mem (by omega) (by omega)
  rw [SteamPulse.clamp, hperiod, honTime]

/-- A clamp that leaves an optional field's value alone leaves the field alone. -/
theorem map_eq_self {α : Type} {f : α → α} {o : Option α} (h : ∀ a, o = some a → f a = a) : o.map f = o :=
  (Option.map_congr h).trans (congrFun Option.map_id o)

/-- R2: clamping leaves a held record alone. -/
theorem ClimateParams.Held.clamp_eq {c : ClimateParams} (h : c.Held) : (rawOf c).clamp = c := by
  have hsetpoint := clampInt_of_mem h.setpoint
  have hfan := clampNat_of_mem h.fan.1 h.fan.2
  have hhumidity : c.humidity.map (clampInt 0 100) = c.humidity :=
    map_eq_self fun a ha => clampInt_of_mem (h.humidity a ha)
  have hpulse : c.pulse.map SteamPulse.clamp = c.pulse := map_eq_self fun u hu => SteamPulse.clamp_of_mem (h.pulse u hu)
  have hdelta : c.delta.map (clampInt 10 1500) = c.delta := map_eq_self fun d hd => clampInt_of_mem (h.delta d hd)
  simp only [rawOf, RawClimate.clamp, hsetpoint, hfan, hhumidity, hpulse, hdelta]

/-! ### The climate block of a held record (section 12.4) -/

theorem presence_le_one (b : Bool) : (byteOf b.toNat).toNat ≤ 1 := by cases b <;> decide

theorem presence_eq_one (b : Bool) : byteOf b.toNat = 1 ↔ b = true := by cases b <;> decide

theorem presence_eq_zero (b : Bool) : byteOf b.toNat = 0 ↔ b = false := by cases b <;> decide

/-- R182: an optional field is read back from its presence byte and its value. -/
theorem field_of_presence {α : Type} {o : Option α} {a : α} (h : ∀ x, o = some x → a = x) :
    (if byteOf o.isSome.toNat = 1 then some a else none) = o := by
  cases o with
  | none => rfl
  | some x => exact congrArg some (h x rfl)

/-- R182: a signed two-byte field carries every number of its range. -/
theorem toInt_ofInt_half {n : Int} (h : -32768 ≤ n ∧ n ≤ 32767) : (BitVec.ofInt 16 n).toInt = n :=
  BitVec.toInt_ofInt_eq_self (by decide) (by norm_num; omega) (by norm_num; omega)

/-- R182: a signed one-byte field carries every number of its range. -/
theorem toInt_ofInt_byte {n : Int} (h : -128 ≤ n ∧ n ≤ 127) : (BitVec.ofInt 8 n).toInt = n :=
  BitVec.toInt_ofInt_eq_self (by decide) (by norm_num; omega) (by norm_num; omega)

/-- R182: an unsigned two-byte field carries every number of its range. -/
theorem toNat_ofNat_half {n : Nat} (h : n ≤ 65535) : (BitVec.ofNat 16 n).toNat = n := Nat.mod_eq_of_lt (by omega)

theorem heatModeOf_code (m : HeatMode) : heatModeOf (byteOf (heatModeCode m)).toNat = some m := by cases m <;> rfl

theorem modeSetpoint_within (m : HeatMode) : 300 ≤ (modeSetpoint m).1 ∧ (modeSetpoint m).2 ≤ 2500 := by
  cases m <;> decide

theorem modeFan_within (m : HeatMode) : (modeFan m).2 ≤ 4 := by cases m <;> decide

theorem ClimateParams.block_formed (c : ClimateParams) : presenceFormed c.block :=
  ⟨presence_le_one _, presence_le_one _, presence_le_one _⟩

/-- R2: the block of a held record has the optional fields that its mode calls for. -/
theorem ClimateParams.Held.block_allowed {c : ClimateParams} (h : c.Held) : presenceAllowed c.block c.mode := by
  simp only [presenceAllowed, ClimateParams.block, presence_eq_one, presence_eq_zero, Option.isSome_eq_false_iff,
    Option.isNone_iff_eq_none]
  split
  · next hm => exact h.combi hm
  · next hm => exact h.other hm

/-- Section 12.4: the block of a held record carries every field of it. -/
theorem ClimateParams.Held.sent_eq {c : ClimateParams} (h : c.Held) : sentParams c.block c.mode = c := by
  have hsetpoint : (BitVec.ofInt 16 c.setpoint).toInt = c.setpoint := by
    have hrange := modeSetpoint_within c.mode
    have hset := h.setpoint
    exact toInt_ofInt_half (by omega)
  have hfan : (byteOf c.fan).toNat = c.fan := by
    have hrange := modeFan_within c.mode
    have hf := h.fan
    exact toNat_byteOf (by omega)
  have hhumidity : (sentParams c.block c.mode).humidity = c.humidity := by
    refine field_of_presence fun n hn => ?_
    have hrange := h.humidity n hn
    rw [ClimateParams.block, hn]
    exact toInt_ofInt_byte (n := n) (by omega)
  have hpulse : (sentParams c.block c.mode).pulse = c.pulse := by
    refine field_of_presence fun u hu => ?_
    obtain ⟨-, hperiod, -, honTime⟩ := h.pulse u hu
    simp only [ClimateParams.block, hu, toNat_ofNat_half (show u.period ≤ 65535 by omega),
      toNat_ofNat_half (show u.onTime ≤ 65535 by omega)]
  have hdelta : (sentParams c.block c.mode).delta = c.delta := by
    refine field_of_presence fun n hn => ?_
    have hrange := h.delta n hn
    rw [ClimateParams.block, hn]
    exact toInt_ofInt_half (n := n) (by omega)
  calc sentParams c.block c.mode
      = ⟨c.mode, (BitVec.ofInt 16 c.setpoint).toInt, (byteOf c.fan).toNat, (sentParams c.block c.mode).humidity,
          (sentParams c.block c.mode).pulse, (sentParams c.block c.mode).delta⟩ := rfl
    _ = c := by rw [hsetpoint, hfan, hhumidity, hpulse, hdelta]

/-- R2: the block of a held record passes the checks with nothing to clamp, and reads as the same record. -/
theorem ClimateParams.Held.check_block {c : ClimateParams} (h : c.Held) : checkClimate c.block = some (c, false) := by
  have hwritten : writtenParams c.block c.mode = c := by rw [← clamp_sent, h.sent_eq, h.clamp_eq]
  rw [checkClimate_accepted c.block_formed (heatModeOf_code c.mode) h.block_allowed, hwritten, h.sent_eq]
  simp

/-! ### Held stages (R118) -/

/-- R118: the climate record of a stage is held, and its duration and core target are in their ranges. -/
structure Stage.Held (st : Stage) : Prop where
  params : st.params.Held
  duration : 1 ≤ st.duration ∧ st.duration ≤ 86400
  coreTarget : 200 ≤ st.coreTarget ∧ st.coreTarget ≤ 990

/-- R118: the checks accept a stage record only as a held stage. -/
theorem Stage.held_of_check {b : StageBlock} {st : Stage} {clamped : Bool} (h : checkStage b = some (st, clamped)) :
    st.Held := by
  unfold checkStage at h
  split at h
  · next params paramsClamped _ _ hparams _ _ =>
    split at h
    · cases h
      exact ⟨ClimateParams.held_of_check hparams, clampNat_bounds _ (by decide), clampInt_bounds _ (by decide)⟩
    · cases h
  · cases h

theorem endConditionOf_code (e : EndCondition) : endConditionOf (byteOf (endConditionCode e)).toNat = some e := by
  cases e <;> rfl

theorem promptPointOf_code (x : PromptPoint) : promptPointOf (byteOf (promptPointCode x)).toNat = some x := by
  cases x <;> rfl

/-- Section 12.4: the byte of the four stage flags is read back as the flags. -/
theorem stageFlags_read (a b c d : Bool) :
    let f := byteOf (flagBit 0 a + flagBit 1 b + flagBit 2 c + flagBit 3 d)
    f.toNat < 16 ∧ f.getLsbD 0 = a ∧ f.getLsbD 1 = b ∧ f.getLsbD 2 = c ∧ f.getLsbD 3 = d := by
  revert a b c d; decide

/-- R118, R120: the record of a held stage passes the checks with nothing to clamp, and reads as the same stage. -/
theorem Stage.Held.check_block {st : Stage} (h : st.Held) : checkStage st.block = some (st, false) := by
  obtain ⟨hparams, ⟨hd1, hd2⟩, hcore⟩ := h
  have hduration : (BitVec.ofNat 32 st.duration).toNat = st.duration := Nat.mod_eq_of_lt (by omega)
  have htarget : (BitVec.ofInt 16 st.coreTarget).toInt = st.coreTarget := toInt_ofInt_half (by omega)
  obtain ⟨hflags, h0, h1, h2, h3⟩ := stageFlags_read st.preheat st.noInterrupt st.steamPriority st.doorContinue
  simp only [checkStage, Stage.block, hparams.check_block, endConditionOf_code, promptPointOf_code, if_pos hflags, h0, h1,
    h2, h3, hduration, htarget, clampNat_of_mem hd1 hd2, clampInt_of_mem hcore]
  simp

/-- Section 12.4: a stage record has 24 bytes. -/
theorem stageBytes_length (b : StageBlock) : (stageBytes b).length = 24 := rfl

/-- Settles O22: an accepted record is held, and the block of a held stage is read back as that stage. -/
theorem heldStageReadsBack : Obligations.HeldStageReadsBack := by
  intro b st clamped h
  exact ⟨(Stage.held_of_check h).check_block, stageBlockOf_bytes _, stageBytes_length _⟩

end Sys2Proof.Machine
end

section
/-! SUPPORT. The program requests (R117, R119, R122, R133, R134): each by its checks in their order, and what an accepted one
leaves. -/

namespace Sys2Proof

/-- R1: the steam modes. -/
theorem HeatMode.steamMode_iff (m : HeatMode) : m.steamMode = true ↔ m = .steam ∨ m = .combi := by cases m <;> decide

end Sys2Proof

namespace Sys2Proof.Machine

/-! ### PROGRAM_CLEAR (R117) -/

theorem endActionOf_formed {b : Byte} (h : b.toNat ≤ 1) :
    endActionOf b.toNat = some (if b = 0 then .stop else .hold) := by
  rcases (byte_le_one_iff b).1 h with rfl | rfl <;> rfl

theorem endActionOf_unformed {n : Nat} (h : 1 < n) : endActionOf n = none := by
  obtain ⟨k, rfl⟩ := Nat.exists_eq_add_of_lt h
  rw [show 1 + k + 1 = k + 2 by omega]
  rfl

theorem Part.programClear_unformed (p : Part) {action moist : Byte} (setpoint : Half)
    (h : 1 < action.toNat ∨ 1 < moist.toNat) : p.programClear action setpoint moist = (p, ⟨.badValue, []⟩) := by
  rcases h with h | h
  · rw [Part.programClear, endActionOf_unformed h]; rfl
  · rw [Part.programClear, flagOf_unformed (by omega)]
    cases endActionOf action.toNat <;> rfl

/-- R117: with its fields formed the executor's state decides. -/
theorem Part.programClear_formed (p : Part) {action moist : Byte} (setpoint : Half) (ha : action.toNat ≤ 1)
    (hm : moist.toNat ≤ 1) :
    let hold := max 600 (min 900 setpoint.toInt)
    p.programClear action setpoint moist =
      if p.program.state ∈ [.running, .waiting, .paused, .boundaryWait] then (p, ⟨.refusedState, []⟩)
      else (p.clearedProgram ⟨if action = 0 then .stop else .hold, hold, decide (moist = 1)⟩,
        ⟨if hold = setpoint.toInt then .ok else .clamped, []⟩) := by
  intro hold
  have hclamp : clampInt 600 900 setpoint.toInt = hold := clampInt_eq _ _ _ (by decide)
  have hcode : okOrClamped (decide (hold ≠ setpoint.toInt)) = if hold = setpoint.toInt then .ok else .clamped := by
    by_cases hs : hold = setpoint.toInt <;> simp [okOrClamped, hs]
  simp only [Part.programClear, endActionOf_formed ha, flagOf_formed hm, hclamp, hcode, ProgramState.runs_iff]
  rfl

/-! ### STAGE_APPEND (R119) -/

theorem Part.stageAppend_badValue {p : Part} {b : StageBlock} (h : checkStage b = none) :
    p.stageAppend b = (p, ⟨.badValue, []⟩) := by
  rw [Part.stageAppend, h]; rfl

theorem loadedState_eq (g : ProgramState) :
    loadedState g = if g ∈ [.running, .waiting, .paused, .boundaryWait] then g else .loaded := by
  simp only [loadedState, ProgramState.runs_iff]

/-- R119: a record that passes its checks is refused where 16 stages are held or its mode has no element. -/
theorem Part.stageAppend_checked {p : Part} {b : StageBlock} {st : Stage} {clamped : Bool}
    (h : checkStage b = some (st, clamped)) : p.stageAppend b =
      if 16 ≤ p.program.stages.length ∨ (st.params.mode ≠ .steam ∧ p.store.groupMax st.params.mode = 0)
      then (p, ⟨.refusedState, []⟩)
      else ({ p with
          program.stages := p.program.stages ++ [st]
          program.state := if p.program.state ∈ [.running, .waiting, .paused, .boundaryWait] then p.program.state
            else .loaded }, ⟨if clamped then .clamped else .ok, []⟩) := by
  rw [Part.stageAppend, h, ← loadedState_eq]
  by_cases hfull : 16 ≤ p.program.stages.length
  · rw [if_pos (.inl hfull)]
    exact if_pos hfull
  · simp only [hfull, false_or]
    rfl

/-! ### PROGRAM_START (R122) -/

theorem Program.usesSteamFrom_iff (g : Program) (i : Nat) :
    g.usesSteamFrom i = true ↔ ∃ st ∈ g.stages.drop i, st.params.mode = .steam ∨ st.params.mode = .combi := by
  simp only [Program.usesSteamFrom, List.any_eq_true, HeatMode.steamMode_iff]

theorem Part.programStart_unformed (p : Part) {presence : Byte} (index : Byte) (h : 1 < presence.toNat) :
    p.programStart presence index = (p, ⟨.badValue, []⟩) := by
  rw [Part.programStart, flagOf_unformed (by omega)]; rfl

theorem Part.programStart_refused {p : Part} {presence index : Byte} {c : ResultCode} (hf : presence.toNat ≤ 1)
    (h : p.startRefusal (if presence = 1 then index.toNat else 0) = some c) :
    p.programStart presence index = (p, ⟨c, []⟩) := by
  simp only [Part.programStart, flagOf_formed hf, decide_eq_true_eq, h]; rfl

theorem Part.programStart_accepted {p : Part} {presence index : Byte} (hf : presence.toNat ≤ 1)
    (h : p.startRefusal (if presence = 1 then index.toNat else 0) = none) :
    p.programStart presence index = (p.startProgram (if presence = 1 then index.toNat else 0), ⟨.ok, []⟩) := by
  simp only [Part.programStart, flagOf_formed hf, decide_eq_true_eq, h]; rfl

/-- R122 check 2: the executor's state. -/
theorem Part.startRefusal_barred {p : Part}
    (h : p.program.state = .empty ∨ p.program.state ∈ [.running, .waiting, .paused, .boundaryWait]) (i : Nat) :
    p.startRefusal i = some .refusedState := by
  rw [← ProgramState.runs_iff] at h
  exact if_pos h

/-- R122: with a program that is held and does not run, the index, the descaling procedure and the steam lock decide. -/
theorem Part.startRefusal_open {p : Part} (he : p.program.state ≠ .empty)
    (hr : p.program.state ∉ [.running, .waiting, .paused, .boundaryWait]) (i : Nat) :
    p.startRefusal i = if p.program.stages.length ≤ i then some .badValue
      else if p.descale.phase ≠ .idle ∧ ¬(p.descale.phase = .awaitSolution ∧ p.descale.prompt = some .start)
      then some .refusedState
      else if p.scale.lock = true ∧ ∃ st ∈ p.program.stages.drop i, st.params.mode = .steam ∨ st.params.mode = .combi
      then some .locked else none := by
  rw [← ProgramState.runs_iff] at hr
  simp only [← Descale.inSpan_iff, ← Program.usesSteamFrom_iff, ← Bool.and_eq_true]
  exact if_neg (not_or.2 ⟨he, hr⟩)

/-! ### PROGRAM_PAUSE, PROGRAM_RESUME, PROGRAM_ABORT (R133, R134) -/

/-- R133: the pause of a program that runs or waits. -/
theorem Part.programPause_going {p : Part} (h : p.program.state = .running ∨ p.program.state = .waiting) :
    p.programPause = ({ p.forcedOff with program := { p.program with
      state := .paused, resume := some (p.program.state, p.program.reason), reason := some .host } }, ⟨.ok, []⟩) := by
  rw [← p.forcedOff_program]
  rcases h with h | h <;> rw [Part.programPause, h] <;> rfl

/-- R133: a program already paused is paused by the host from now on. -/
theorem Part.programPause_paused {p : Part} (h : p.program.state = .paused) :
    p.programPause = ({ p.forcedOff with program := { p.program with reason := some .host } }, ⟨.ok, []⟩) := by
  rw [← p.forcedOff_program, Part.programPause, h]; rfl

theorem Part.programPause_refused {p : Part} (h : p.program.state ∉ [.running, .waiting, .paused]) :
    p.programPause = (p, ⟨.refusedState, []⟩) := by
  cases hs : p.program.state
  case running | waiting | paused => simp [hs] at h
  all_goals rw [Part.programPause, hs]; rfl

theorem Part.resumeRequest_eq (p : Part) : p.resumeRequest =
    if p.program.state = .paused ∧ p.program.reason = some .host then (p.programResume, ⟨.ok, []⟩)
    else (p, ⟨.refusedState, []⟩) := rfl

/-- R134: the end of cooking leaves the executor to the abort. -/
theorem Part.abortProgram_running {p : Part} (h : p.program.state.runs = true) :
    p.abortProgram = Part.raiseNotice { p.endCooking with program := { p.program with
      state := .aborted, reason := none, resume := none, written := none, settlement := none } } .programEnd := by
  rw [Part.abortProgram, if_pos h, Part.programAborted, if_pos (by rwa [Part.endCooking_program]), Part.endCooking_program]

theorem Part.abortRequest_eq (p : Part) : p.abortRequest =
    if p.program.state ∈ [.running, .waiting, .paused, .boundaryWait] then (p.abortProgram, ⟨.ok, []⟩)
    else (p, ⟨.refusedState, []⟩) := by
  simp only [← ProgramState.runs_iff]; rfl

/-! ### The requests -/

section
variable {s : State} {q : Request} {r : Part × Reply} (hl : s.listening) (ha : s.admits q)
  (hserve : (s.taken q).serve q = (s.taken q).plain r)
include hl ha hserve

/-- R157: a request whose effect no other block follows, carried out. -/
theorem exec_changes {p : Part} {c : ResultCode} (h : r = (p, ⟨c, []⟩)) :
    exec q.command s = .next { s.replied q ⟨c, []⟩ with part := p } :=
  exec_plain (r := (p, ⟨c, []⟩)) hl ha (hserve.trans (congrArg _ h))

/-- R157: a request whose effect no other block would follow, refused. -/
theorem exec_rejects {c : ResultCode} (h : r = (s.part, ⟨c, []⟩)) :
    exec q.command s = .next (s.replied q ⟨c, []⟩) :=
  exec_reads hl ha (hserve.trans (congrArg _ h))

end

/-- Settles O54, request by request: each answers by its checks in their order, and what it carries out is the executor's
effect. -/
theorem programRequests : Obligations.ProgramRequests := by
  intro s hl p g runs span refused
  refine ⟨fun action setpoint moist ha => ?clear, fun b ha => ?append, fun presence index ha => ?start, fun ha => ?pause,
    fun ha => ?resume, fun ha => ?abort⟩
  case clear =>
    refine ⟨fun hf => ?_, fun hf hm hr => ?_, fun hf hm hr => ?_⟩
    · exact exec_rejects hl ha rfl (Part.programClear_unformed _ _ hf)
    · exact exec_rejects hl ha rfl ((Part.programClear_formed _ _ hf hm).trans (if_pos hr))
    · exact exec_changes hl ha rfl ((Part.programClear_formed _ _ hf hm).trans (if_neg hr))
  case append =>
    refine ⟨fun hn => exec_rejects hl ha rfl (Part.stageAppend_badValue hn), fun st clamped hc => ⟨fun hb => ?_,
      fun hroom hheat => ?_⟩⟩
    · exact exec_rejects (q := .stageAppend b) hl ha rfl ((Part.stageAppend_checked hc).trans (if_pos hb))
    · have hopen := not_or.2 ⟨Nat.not_le.2 hroom, hheat⟩
      exact exec_changes (q := .stageAppend b) hl ha rfl ((Part.stageAppend_checked hc).trans (if_neg hopen))
  case start =>
    refine ⟨fun hf => ?_, fun hf hb => ?_, fun hf he hr => ?_⟩
    · exact exec_declines hl ha rfl (Part.programStart_unformed _ _ hf) rfl
    · exact exec_declines hl ha rfl (Part.programStart_refused hf (Part.startRefusal_barred hb _)) rfl
    · have hchecks := Part.startRefusal_open he hr (if presence = 1 then index.toNat else 0)
      refine ⟨fun hi => ?_, fun hi hspan => ?_, fun hi hspan hlock hsteam => ?_, fun hi hspan hlock => ?_⟩
      · exact exec_declines hl ha rfl (Part.programStart_refused hf (hchecks.trans (if_pos hi))) rfl
      all_goals have hinside := hchecks.trans (if_neg (Nat.not_le.2 hi))
      · exact exec_declines hl ha rfl (Part.programStart_refused hf (hinside.trans (if_pos hspan))) rfl
      all_goals have hfree := hinside.trans (if_neg hspan)
      · exact exec_declines hl ha rfl (Part.programStart_refused hf (hfree.trans (if_pos ⟨hlock, hsteam⟩))) rfl
      · exact exec_accepts hl ha rfl (Part.programStart_accepted hf (hfree.trans (if_neg hlock))) rfl
  case pause =>
    refine ⟨fun hs => ?_, fun hs => ?_, fun hs => ?_⟩
    · exact exec_accepts (q := .programPause) hl ha rfl (Part.programPause_going hs) rfl
    · exact exec_accepts (q := .programPause) hl ha rfl (Part.programPause_paused hs) rfl
    · exact exec_declines (q := .programPause) hl ha rfl (Part.programPause_refused hs) rfl
  case resume =>
    refine ⟨fun hs hr => ?_, fun hn => ?_⟩
    · exact exec_accepts (q := .programResume) hl ha rfl ((Part.resumeRequest_eq _).trans (if_pos ⟨hs, hr⟩)) rfl
    · exact exec_declines (q := .programResume) hl ha rfl
        ((Part.resumeRequest_eq _).trans (if_neg (not_and_or.2 hn))) rfl
  case abort =>
    refine ⟨fun hr => ?_, fun hr => ?_⟩
    · rw [← Part.abortProgram_running ((ProgramState.runs_iff _).2 hr)]
      exact exec_accepts (q := .programAbort) hl ha rfl ((Part.abortRequest_eq _).trans (if_pos hr)) rfl
    · exact exec_declines (q := .programAbort) hl ha rfl ((Part.abortRequest_eq _).trans (if_neg hr)) rfl

end Sys2Proof.Machine
end

section
/-! SUPPORT. Admission and the request in hand (R138, R139, R156 to R158): the kinds that each mode admits and the code that
it gives to the others; how a frame is judged; that the link's exchange passes through the owners unread; and what
REQUEST_TAKE does with the head of the queue. -/

namespace Sys2Proof.Machine

/-! ### The admission table (R138, R139) -/

section
variable {m : ModeControl} (k : ReqKind)

theorem admission_starting (h : m.mode = .starting) :
    admission m k = if admissionRow k = .always then none else some .notReady := by
  rw [admission, h]

/-- R139: in ACTIVE, and in STANDBY as the model judges it (log entry 46), only the window after a wake bars a kind. -/
theorem admission_awake (h : m.mode = .active ∨ m.mode = .standby) :
    admission m k = if m.wakeWindow && waitsForImage k then some .notReady else none := by
  rcases h with h | h <;> rw [admission, h]

theorem admission_hold (h : m.mode = .hold) : admission m k = admissionHold (admissionRow k) := by
  rw [admission, h]

theorem admission_standbyPending (h : m.mode = .standbyPending) :
    admission m k = admissionPending (admissionRow k) := by
  rw [admission, h]

theorem admission_safeStop (h : m.mode = .safeStop) : admission m k = admissionSafeStop (admissionRow k) := by
  rw [admission, h]

theorem admission_starting_iff (h : m.mode = .starting) :
    admission m k = none ↔ k ∈ [.ping, .statusGet, .linkStats] := by
  rw [admission_starting k h]
  cases k <;> decide

theorem waitsForImage_iff :
    waitsForImage k = true ↔ k ∈ [.climateSet, .programStart, .holdEnter, .descaleStart] := by
  cases k <;> decide

theorem admission_awake_iff (h : m.mode = .active ∨ m.mode = .standby) :
    admission m k = none ↔ (m.wakeWindow = true → k ∉ [.climateSet, .programStart, .holdEnter, .descaleStart]) := by
  rw [admission_awake k h, ← waitsForImage_iff]
  cases m.wakeWindow <;> simp

theorem admission_hold_iff (h : m.mode = .hold) :
    admission m k = none ↔ k ∈ [.ping, .statusGet, .linkStats, .settingGet, .nodeGet, .counterGet, .faultGet,
      .captureGet, .noticeGet, .noticeEnable, .captureRelease, .stop, .reset, .holdExit] := by
  rw [admission_hold k h]
  cases k <;> decide

theorem admission_standbyPending_iff (h : m.mode = .standbyPending) :
    admission m k = none ↔ k ∈ [.ping, .statusGet, .linkStats, .settingGet, .nodeGet, .counterGet, .faultGet,
      .captureGet, .noticeGet, .noticeEnable, .captureRelease, .stop, .reset] := by
  rw [admission_standbyPending k h]
  cases k <;> decide

theorem admission_safeStop_iff (h : m.mode = .safeStop) :
    admission m k = none ↔ k ∈ [.ping, .statusGet, .linkStats, .settingGet, .nodeGet, .counterGet, .faultGet,
      .captureGet, .stageGet, .scaleGet, .descaleGet, .noticeGet, .noticeEnable, .stop, .reset, .faultClear,
      .settingPut] := by
  rw [admission_safeStop k h]
  cases k <;> decide

end

/-- Settles O14, mode by mode. -/
theorem admittedKinds : Obligations.AdmittedKinds := by
  intro m k
  cases h : m.mode with
  | starting => exact admission_starting_iff k h
  | active => exact admission_awake_iff k (.inl h)
  | hold => exact admission_hold_iff k h
  | standbyPending => exact admission_standbyPending_iff k h
  | standby => exact admission_awake_iff k (.inr h)
  | safeStop => exact admission_safeStop_iff k h

/-- R138, R139: the code with which a mode answers a kind that it does not admit. -/
def modeCode : OpMode → ReqKind → ResultCode
  | .starting, _ | .active, _ | .standby, _ => .notReady
  | .hold, _ => .refusedMode
  | .standbyPending, k => if k = .standbyEnter then .ok else .refusedMode
  | .safeStop, _ => .faultActive

theorem eq_modeCode_of_admission {m : ModeControl} {k : ReqKind} {c : ResultCode} (h : admission m k = some c) :
    c = modeCode m.mode k := by
  cases hm : m.mode with
  | starting =>
    rw [admission_starting k hm] at h
    split at h <;> cases h
    rfl
  | active | standby =>
    rw [admission_awake k (by simp [hm])] at h
    split at h <;> cases h
    rfl
  | hold =>
    rw [admission_hold k hm] at h
    cases k <;> cases h <;> rfl
  | standbyPending =>
    rw [admission_standbyPending k hm] at h
    cases k <;> cases h <;> rfl
  | safeStop =>
    rw [admission_safeStop k hm] at h
    cases k <;> cases h <;> rfl

/-- R138, R158: a kind that the mode does not admit is answered with the mode's code, and nothing else changes. -/
theorem exec_unadmitted {s : State} {q : Request} (hl : s.listening) (h : ¬ s.admits q) :
    exec q.command s = .next (s.replied q ⟨modeCode s.part.mode.mode (requestKind q), []⟩) := by
  obtain ⟨c, hc⟩ := Option.ne_none_iff_exists'.1 h
  rw [exec_refused hl hc, eq_modeCode_of_admission hc]

/-- Settles O13, mode by mode: a kind outside the mode's list is answered with the mode's code. -/
theorem admissionTable : Obligations.AdmissionTable := by
  intro s q hl k answered always reads cookingReads notices
  have unadmitted {c : ResultCode} (h : ¬ s.admits q) (hc : modeCode s.part.mode.mode k = c) : answered c :=
    hc ▸ exec_unadmitted hl h
  refine ⟨fun hm hk => ?starting, fun hm hw hk => ?window, fun hm hk => ?hold, fun hm hk => ?pendingAgain,
    fun hm hk => ?pending, fun hm hk => ?safeStop⟩
  case starting => exact unadmitted (mt (admission_starting_iff k hm).1 hk) (by rw [hm]; rfl)
  case window => exact unadmitted (fun h => (admission_awake_iff k (.inl hm)).1 h hw hk) (by rw [hm]; rfl)
  case hold => exact unadmitted (mt (admission_hold_iff k hm).1 hk) (by rw [hm]; rfl)
  case pendingAgain =>
    have hlist := mt (admission_standbyPending_iff k hm).1 (by rw [hk]; decide)
    exact unadmitted hlist (by rw [hm, hk]; rfl)
  case pending =>
    have hlist := mt (admission_standbyPending_iff k hm).1 fun h =>
      hk (List.mem_append_left [ReqKind.standbyEnter] h)
    have hagain : k ≠ .standbyEnter := fun h => hk (by rw [h]; decide)
    exact unadmitted hlist (by rw [hm]; exact if_neg hagain)
  case safeStop => exact unadmitted (mt (admission_safeStop_iff k hm).1 hk) (by rw [hm]; rfl)

/-! ### How a frame is judged (R156, R158) -/

section
variable (s : State) {f : Frame}

theorem State.answer_unknownKind (h : ReqKind.ofCode f.kind = none) : s.answer f = (s, ⟨.unknownKind, []⟩) := by
  rw [State.answer, h]; rfl

variable {k : ReqKind} (hk : ReqKind.ofCode f.kind = some k)
include hk

theorem State.answer_badLength (h : f.payload.length ≠ k.length) : s.answer f = (s, ⟨.badLength, []⟩) := by
  simp only [State.answer, hk, if_pos h, Reply.bare]

theorem State.answer_unadmitted (hlen : f.payload.length = k.length) {c : ResultCode}
    (h : admission s.part.mode k = some c) : s.answer f = (s, ⟨c, []⟩) := by
  simp only [State.answer, hk, if_neg (not_not.2 hlen), h, Reply.bare]

theorem State.answer_admitted (hlen : f.payload.length = k.length) {q : Request} (hq : decodeRequest f = some q)
    (h : admission s.part.mode k = none) : s.answer f = s.serve q := by
  rw [decodeRequest, hk] at hq
  simp only [State.answer, hk, if_neg (not_not.2 hlen), h, show readPayload k f.payload = some q from hq]

end

/-! ### The link's exchange: the request in hand, the queue and what is being sent -/

/-- The state with another request in hand, another queue and another frame being sent. -/
def State.withExchange (s : State) (hand : Option Frame) (queue : List Frame) (sending : Sending) : State :=
  { s with link.inHand := hand, link.queue := queue, link.sending := sending }

section
variable (s : State) (hand : Option Frame) (queue : List Frame) (sending : Sending)

@[simp] theorem State.withExchange_part : (s.withExchange hand queue sending).part = s.part := rfl

theorem State.acting_withExchange (r : Part × Reply) :
    (s.withExchange hand queue sending).acting r =
      ((s.acting r).1.withExchange hand queue sending, (s.acting r).2) := by
  unfold State.acting
  split <;> rfl

/-- R156: no owner reads or writes the exchange. -/
theorem State.serve_withExchange (q : Request) :
    (s.withExchange hand queue sending).serve q =
      ((s.serve q).1.withExchange hand queue sending, (s.serve q).2) := by
  cases q with
  | settingPut | storeDefaults | climateSet | climateOff | programStart | programPause | programResume | programAbort
  | stageConfirm | stageSkip | boilerDrain | descaleStart | descaleConfirm | descaleAbort | holdEnter | holdExit
  | standbyEnter | stop | faultClear | nodeSet => exact s.acting_withExchange hand queue sending _
  | _ => rfl

theorem State.answer_withExchange (f : Frame) :
    (s.withExchange hand queue sending).answer f =
      ((s.answer f).1.withExchange hand queue sending, (s.answer f).2) := by
  simp only [State.answer, State.withExchange_part]
  repeat' split
  · rfl
  · rfl
  · rfl
  · exact s.serve_withExchange hand queue sending _
  · rfl

end

/-- R157: whatever a frame is answered, the exchange is as it was. -/
theorem State.answer_exchange (s : State) (f : Frame) :
    (s.answer f).1 = (s.answer f).1.withExchange s.link.inHand s.link.queue s.link.sending :=
  congrArg Prod.fst (s.answer_withExchange s.link.inHand s.link.queue s.link.sending f)

/-! ### REQUEST_TAKE (R156 to R159) -/

/-- R157: the frame of a reply. -/
theorem replyFrame_eq (kind : Byte) (r : Reply) : replyFrame kind r =
    ⟨kind + 0x80, resultByte r.code :: (if r.code = .ok ∨ r.code = .clamped then r.fields else [])⟩ := by
  simp [replyFrame, carriedOut]

section
variable (l : Link) (f : Frame)

/-- R159: where the transmitter is idle the reply begins at once. -/
theorem Link.sendReply_idle (h : l.sending = .idle) : l.sendReply f = { l with sending := .reply f } := by
  rw [Link.sendReply, h]

/-- R159: where a frame is being sent the reply waits. -/
theorem Link.sendReply_waits (h : l.sending ≠ .idle) : l.sendReply f = { l with reply := some f } := by
  unfold Link.sendReply
  split
  · contradiction
  · rfl
  · rfl

theorem Link.sendReply_queue (queue : List Frame) :
    Link.sendReply { l with queue := queue } f = { l.sendReply f with queue := queue } := by
  by_cases h : l.sending = .idle
  · rw [l.sendReply_idle f h]
    exact Link.sendReply_idle _ f h
  · rw [l.sendReply_waits f h]
    exact Link.sendReply_waits _ f h

end

/-- The awake state in which the head of the queue is judged: the frame is in hand and `rest` stays in the queue. -/
def State.judging (s : State) (f : Frame) (rest : List Frame) : State :=
  State.woken { s with link.inHand := some f, link.queue := rest }

section
variable (s : State) (f : Frame) (rest : List Frame)

theorem State.woken_link : s.woken.link = s.link := by
  unfold State.woken
  split <;> rfl

theorem State.judging_link : (s.judging f rest).link = { s.link with inHand := some f, queue := rest } :=
  State.woken_link _

/-- R156, R157: the frame stays in hand and the rest in the queue, and nothing begins to be sent before the reply. -/
theorem State.answer_judging_link : ((s.judging f rest).answer f).1.link.inHand = some f
    ∧ ((s.judging f rest).answer f).1.link.queue = rest
    ∧ ((s.judging f rest).answer f).1.link.sending = s.link.sending := by
  rw [State.answer_exchange, State.judging_link]
  exact ⟨rfl, rfl, rfl⟩

theorem State.handle_eq : s.handle f rest =
    let r := (s.judging f rest).answer f
    { r.1 with link := r.1.link.sendReply (replyFrame f.kind r.2) } := rfl

theorem State.handle_idle (h : s.link.sending = .idle) : s.handle f rest =
    let r := (s.judging f rest).answer f
    { r.1 with link.sending := .reply (replyFrame f.kind r.2) } := by
  obtain ⟨-, -, hsending⟩ := s.answer_judging_link f rest
  simp only [State.handle_eq, Link.sendReply_idle _ _ (hsending.trans h)]

theorem State.handle_waits (h : s.link.sending ≠ .idle) : s.handle f rest =
    let r := (s.judging f rest).answer f
    { r.1 with link.reply := some (replyFrame f.kind r.2) } := by
  obtain ⟨-, -, hsending⟩ := s.answer_judging_link f rest
  simp only [State.handle_eq, Link.sendReply_waits _ _ (hsending.trans_ne h)]

/-- What waits behind the frame plays no part in the wake. -/
theorem State.judging_queue : s.judging f rest = { s.judging f [] with link.queue := rest } := by
  unfold State.judging State.woken
  split <;> rfl

/-- What waits in the queue plays no part in the answer. -/
theorem State.answer_queue : State.answer { s with link.queue := rest } f =
    ({ (s.answer f).1 with link.queue := rest }, (s.answer f).2) := by
  rw [s.answer_exchange f]
  exact s.answer_withExchange s.link.inHand rest s.link.sending f

/-- What waits behind the frame plays no part in what the frame does. -/
theorem State.handle_queue : s.handle f rest = { s.handle f [] with link.queue := rest } := by
  rw [State.handle_eq, State.judging_queue, State.answer_queue]
  exact congrArg (fun l => { ((s.judging f []).answer f).1 with link := l }) (Link.sendReply_queue _ _ rest)

end

/-! ### The command -/

/-- R156: with no request in hand and no reply waiting, outside the reset wait, a request may be taken. -/
theorem Link.canTake_iff (l : Link) :
    l.canTake = true ↔ l.inHand = none ∧ l.reply = none ∧ l.resetWait = false := by
  simp [Link.canTake, and_assoc]

theorem exec_requestTake_eq_take (s : State) : exec .requestTake s = .next s.take := rfl

/-- R156: REQUEST_TAKE settles the head of the queue. -/
theorem exec_requestTake {s : State} {f : Frame} {rest : List Frame} (hq : s.link.queue = f :: rest)
    (h : s.link.canTake = true) : exec .requestTake s = .next (s.handle f rest) := by
  simp only [exec_requestTake_eq_take, State.take, hq, if_pos h]

/-- Log entry 8: where no request may be taken the command changes nothing. -/
theorem exec_requestTake_idle {s : State} (h : s.link.queue = [] ∨ s.link.canTake = false) :
    exec .requestTake s = .next s := by
  rw [exec_requestTake_eq_take, State.take]
  split
  · rfl
  · next hq => rw [if_neg (by simpa [hq] using h)]

/-- Log entry 7: a request given to a part with an empty queue that may take it is settled at once. -/
theorem submit_takes {s : State} (q : Request) (hq : s.link.queue = []) (h : s.link.canTake = true) :
    s.submit q = s.handle (encodeRequest q) [] := by
  obtain ⟨-, -, hw⟩ := s.link.canTake_iff.1 h
  rw [State.submit, if_neg (by simp [hw]), if_pos ⟨h, hq⟩]

/-- Settles O11: the head is taken and judged in the awake state; the queue behind it plays no part; and where no request
may be taken nothing happens. -/
theorem requestTakeAnswersHead : Obligations.RequestTakeAnswersHead := by
  intro s
  refine ⟨fun f rest hq hh hr hw => ?head, fun q rest hh hr hw => ?direct, fun hnone => ?nothing⟩
  case head =>
    have hc := s.link.canTake_iff.2 ⟨hh, hr, hw⟩
    intro taken awake r carriedOut reply
    obtain ⟨hhand, hqueue, hsending⟩ := s.answer_judging_link f rest
    have hreply : replyFrame f.kind r.2 = reply := replyFrame_eq f.kind r.2
    refine ⟨?_, hhand, hqueue, hsending, awake.answer_unknownKind, fun k hk => ⟨awake.answer_badLength hk,
      fun hlen => ⟨fun c => awake.answer_unadmitted hk hlen, fun q => awake.answer_admitted hk hlen⟩⟩⟩
    rw [exec_requestTake hq hc]
    split
    · next hidle => rw [s.handle_idle f rest hidle, ← hreply]; rfl
    · next hbusy => rw [s.handle_waits f rest hbusy, ← hreply]; rfl
  case direct =>
    have hc := s.link.canTake_iff.2 ⟨hh, hr, hw⟩
    refine ⟨_, (exec_command q _).trans (congrArg _ (submit_takes q rfl hc)), ?_⟩
    have hqueue := State.handle_queue { s with link.queue := [] } (encodeRequest q) rest
    exact (exec_requestTake (s := { s with link.queue := encodeRequest q :: rest }) rfl hc).trans (congrArg _ hqueue)
  case nothing =>
    refine exec_requestTake_idle (hnone.imp_right fun h => ?_)
    rw [Bool.eq_false_iff, ne_eq, Link.canTake_iff]
    rintro ⟨hh, hr, hw⟩
    simp [hh, hr, hw] at h

end Sys2Proof.Machine
end

section
/-! SUPPORT. The link controller's invariant with quiet reports in the reset wait (O9): through the owners, the receive
queue, the receiver, the transmitter and the blocks (R153 to R165). -/

namespace Sys2Proof.Machine

/-! ### What an owner leaves of the link (R156, R162, R165) -/

/-- R162, R165: `m` is `l` but for error counters that may have been cleared and the mark of an admitted RESET. -/
structure Link.ServedAs (l m : Link) : Prop where
  rest : m = { l with
    crcErrors := m.crcErrors, framingErrors := m.framingErrors, overruns := m.overruns, resetAnswered := m.resetAnswered }
  crcErrors : m.crcErrors ≤ l.crcErrors
  framingErrors : m.framingErrors ≤ l.framingErrors
  overruns : m.overruns ≤ l.overruns

theorem Link.ServedAs.refl (l : Link) : l.ServedAs l := ⟨rfl, le_rfl, le_rfl, le_rfl⟩

theorem State.acting_link (s : State) (r : Part × Reply) : (s.acting r).1.link = s.link := by
  unfold State.acting; split <;> rfl

/-- R156: of the owners, RESET's and LINK_STATS' alone write the link. -/
theorem State.serve_link (s : State) (q : Request) : s.link.ServedAs (s.serve q).1.link := by
  cases q with
  | reset => exact ⟨rfl, le_rfl, le_rfl, le_rfl⟩
  | linkStats => exact ⟨rfl, Nat.zero_le _, Nat.zero_le _, Nat.zero_le _⟩
  | settingPut | storeDefaults | climateSet | climateOff | programStart | programPause | programResume | programAbort
  | stageConfirm | stageSkip | boilerDrain | descaleStart | descaleConfirm | descaleAbort | holdEnter | holdExit
  | standbyEnter | stop | faultClear | nodeSet => exact (s.acting_link _).symm ▸ .refl s.link
  | _ => exact .refl s.link

theorem State.answer_link (s : State) (f : Frame) : s.link.ServedAs (s.answer f).1.link := by
  unfold State.answer
  repeat' split
  · exact .refl s.link
  · exact .refl s.link
  · exact .refl s.link
  · exact s.serve_link _
  · exact .refl s.link

/-! ### The link's own updates -/

section
variable {l : Link} (h : l.Inv)
include h

/-- R165: with a request in hand there is no reset wait. -/
theorem Link.Inv.awake_of_inHand (hh : l.inHand.isSome) : l.resetWait = false := by
  rw [← Bool.not_eq_true]
  intro hw
  obtain ⟨-, hnone, -, -⟩ := h.quiet hw
  simp [hnone] at hh

/-- R165: while a frame is being sent there is no reset wait. -/
theorem Link.Inv.awake_of_sending (hs : l.sending ≠ .idle) : l.resetWait = false := by
  rw [← Bool.not_eq_true]
  intro hw
  obtain ⟨-, -, hidle, -⟩ := h.quiet hw
  exact hs hidle

/-- R156: a frame is taken in hand. -/
theorem Link.Inv.taken (hc : l.canTake = true) (f : Frame) {rest : List Frame} (hrest : rest.length ≤ 4) :
    Link.Inv { l with inHand := some f, queue := rest } := by
  obtain ⟨-, hreply, hw⟩ := l.canTake_iff.1 hc
  exact ⟨hrest, h.crcErrors, h.framingErrors, h.overruns, fun _ => rfl, fun _ _ => ⟨rfl, hreply⟩, fun _ => rfl,
    fun hwait => absurd hwait (by simp [hw])⟩

theorem Link.Inv.servedAs (hh : l.inHand.isSome) {m : Link} (hm : l.ServedAs m) : m.Inv := by
  rw [hm.rest]
  exact ⟨h.queue, hm.crcErrors.trans h.crcErrors, hm.framingErrors.trans h.framingErrors, hm.overruns.trans h.overruns,
    h.waiting, h.sending, fun _ => hh, h.quiet⟩

/-- R156, R159: the reply to the request in hand begins or waits, where none is being sent or waits. -/
theorem Link.Inv.sendReply (hh : l.inHand.isSome) (hreply : l.reply = none) (hsending : ∀ g, l.sending ≠ .reply g)
    (f : Frame) : (l.sendReply f).Inv := by
  have hwake (hwait : l.resetWait = true) : False := absurd hwait (by simp [h.awake_of_inHand hh])
  by_cases hidle : l.sending = .idle
  · rw [Link.sendReply_idle _ _ hidle]
    exact ⟨h.queue, h.crcErrors, h.framingErrors, h.overruns, h.waiting, fun _ _ => ⟨hh, hreply⟩, h.answered,
      fun hwait => (hwake hwait).elim⟩
  · rw [Link.sendReply_waits _ _ hidle]
    exact ⟨h.queue, h.crcErrors, h.framingErrors, h.overruns, fun _ => hh, fun g hg => absurd hg (hsending g), h.answered,
      fun hwait => (hwake hwait).elim⟩

/-- R155: a frame joins a queue with a free place. -/
theorem Link.Inv.offered (hw : l.resetWait = false) (hq : l.queue.length < 4) (f : Frame) :
    Link.Inv { l with queue := l.queue ++ [f] } :=
  ⟨by simpa using hq, h.crcErrors, h.framingErrors, h.overruns, h.waiting, h.sending, h.answered,
    fun hwait => absurd hwait (by simp [hw])⟩

theorem Link.Inv.overrun : Link.Inv { l with overruns := bump 255 l.overruns } :=
  { h with overruns := bump_le _ _ }

theorem Link.Inv.crcError : Link.Inv { l with crcErrors := bump 255 l.crcErrors } :=
  { h with crcErrors := bump_le _ _ }

/-- R153: the receiver moves outside the reset wait. -/
theorem Link.Inv.receiving (hw : l.resetWait = false) (r : Receiver) : Link.Inv { l with receiver := r } :=
  { h with quiet := fun hwait => absurd hwait (by simp [hw]) }

/-- R153: a discarded frame leaves the receiver in HUNT, as the reset wait asks. -/
theorem Link.Inv.framingError : l.framingError.Inv := by
  refine { h with framingErrors := bump_le _ _, quiet := fun hwait => ?_ }
  obtain ⟨hqueue, hhand, hidle, -⟩ := h.quiet hwait
  exact ⟨hqueue, hhand, hidle, rfl⟩

/-- R159: a report begins or the transmitter falls idle after a report, with no reply waiting. -/
theorem Link.Inv.sends (hw : l.resetWait = false) {x : Sending} (hx : ∀ f, x ≠ .reply f) :
    Link.Inv { l with sending := x } :=
  { h with sending := fun f hf => absurd hf (hx f), quiet := fun hwait => absurd hwait (by simp [hw]) }

/-- R159: a waiting reply begins. -/
theorem Link.Inv.waitingSent (hw : l.resetWait = false) (hreply : l.reply.isSome) (f : Frame) :
    Link.Inv { l with reply := none, sending := .reply f } :=
  { h with
    waiting := nofun
    sending := fun _ _ => ⟨h.waiting hreply, rfl⟩
    quiet := fun hwait => absurd hwait (by simp [hw]) }

/-- R156, R159: the request in hand is finished at the end of its reply. -/
theorem Link.Inv.finished {f : Frame} (hs : l.sending = .reply f) (ha : l.resetAnswered = false) {x : Sending}
    (hx : ∀ f, x ≠ .reply f) : Link.Inv { l with inHand := none, sending := x } := by
  obtain ⟨-, hreply⟩ := h.sending f hs
  have hw : l.resetWait = false := h.awake_of_sending (by simp [hs])
  exact ⟨h.queue, h.crcErrors, h.framingErrors, h.overruns, by simp [hreply], fun g hg => absurd hg (hx g), by simp [ha],
    by simp [hw]⟩

/-- R165: the reset wait begins at the end of RESET's reply. -/
theorem Link.Inv.waits {f : Frame} (hs : l.sending = .reply f) : Link.Inv { l with
    inHand := none, queue := [], receiver := .hunt, resetAnswered := false, resetWait := true, sending := .idle } := by
  obtain ⟨-, hreply⟩ := h.sending f hs
  exact ⟨by simp, h.crcErrors, h.framingErrors, h.overruns, by simp [hreply], nofun, nofun, fun _ => ⟨rfl, rfl, rfl, rfl⟩⟩

end

theorem Link.reset_inv : Link.reset.Inv :=
  ⟨by decide, by decide, by decide, by decide, nofun, nofun, nofun, nofun⟩

/-! ### The invariant with the reports (R160, R165) -/

/-- What O9 says that every step keeps. -/
structure State.LinkSound (s : State) : Prop where
  link : s.link.Inv
  reports : s.reportsQuiet

/-- R165: outside the reset wait the reports are free. -/
theorem State.LinkSound.of_awake {s : State} (h : s.link.Inv) (hw : s.link.resetWait = false) : s.LinkSound :=
  ⟨h, fun hwait => absurd hwait (by simp [hw])⟩

section
variable {s : State}

/-- R165: an event in the blocks leaves the link alone and the reports quiet in the reset wait. -/
theorem State.LinkSound.onBlocks (h : s.link.Inv) (f : Part → Part) : (s.onBlocks f).LinkSound :=
  ⟨h, s.onBlocks_reportsQuiet f⟩

theorem State.LinkSound.of_same (h : s.LinkSound) {t : State} (hl : t.link = s.link)
    (hr : t.part.report = s.part.report) : t.LinkSound :=
  ⟨hl ▸ h.link, by unfold State.reportsQuiet; rw [hl, hr]; exact h.reports⟩

/-! ### Requests (R155, R156) -/

theorem State.handle_linkSound (h : s.link.Inv) (hc : s.link.canTake = true) (f : Frame) {rest : List Frame}
    (hrest : rest.length ≤ 4) : (s.handle f rest).LinkSound := by
  obtain ⟨hhand, hreply, -⟩ := s.link.canTake_iff.1 hc
  have hserved := (s.judging f rest).answer_link f
  rw [State.judging_link] at hserved
  have hsending (g : Frame) : s.link.sending ≠ .reply g := fun hg => by
    obtain ⟨hsome, -⟩ := h.sending g hg
    simp [hhand] at hsome
  have hanswered : ((s.judging f rest).answer f).1.link.Inv := (h.taken hc f hrest).servedAs rfl hserved
  obtain ⟨hhand', -, hsending'⟩ := s.answer_judging_link f rest
  have hreply' : ((s.judging f rest).answer f).1.link.reply = none := (congrArg Link.reply hserved.rest).trans hreply
  have hsome : ((s.judging f rest).answer f).1.link.inHand.isSome := by rw [hhand']; rfl
  have hsent := hanswered.sendReply hsome hreply' (by rw [hsending']; exact hsending)
    (replyFrame f.kind ((s.judging f rest).answer f).2)
  refine .of_awake hsent (hsent.awake_of_inHand ?_)
  unfold Link.sendReply
  split <;> exact hsome

theorem State.offer_linkSound (h : s.link.Inv) (hw : s.link.resetWait = false) (f : Frame) : (s.offer f).LinkSound := by
  unfold State.offer
  split
  · next hq =>
    refine .of_awake ?_ ?_ <;> rw [State.woken_link]
    · exact h.offered hw hq f
    · exact hw
  · exact .of_awake h.overrun hw

theorem State.submit_linkSound (h : s.LinkSound) (q : Request) : (s.submit q).LinkSound := by
  unfold State.submit
  repeat' split
  · exact h
  · next hc => exact s.handle_linkSound h.link hc.1 _ (by simp)
  · next hw _ => exact s.offer_linkSound h.link (by simpa using hw) _

theorem State.take_linkSound (h : s.LinkSound) : s.take.LinkSound := by
  unfold State.take
  repeat' split
  · exact h
  · next f rest hq hc =>
    have hlen : (f :: rest).length ≤ 4 := hq ▸ h.link.queue
    exact s.handle_linkSound h.link hc f (Nat.le_of_succ_le hlen)
  · exact h

/-! ### The receiver (R153, R154) -/

theorem State.judgeFrame_linkSound (h : s.link.Inv) (hw : s.link.resetWait = false) (got : List Byte) :
    (s.judgeFrame got).LinkSound := by
  unfold State.judgeFrame
  dsimp only
  repeat' split
  · exact s.offer_linkSound h hw _
  · exact .of_awake h.crcError hw
  · exact .of_awake h hw

theorem State.assemble_linkSound (h : s.link.Inv) (hw : s.link.resetWait = false) (got : List Byte) (b : Byte) :
    (s.assemble got b).LinkSound := by
  unfold State.assemble
  repeat' split
  · exact .of_awake h.framingError hw
  · exact State.judgeFrame_linkSound (s := { s with link.receiver := .hunt }) (h.receiving hw .hunt) hw _
  · exact .of_awake (h.receiving hw _) hw

theorem State.receive_linkSound (h : s.LinkSound) (b : Byte) (stopGood : Bool) : (s.receive b stopGood).LinkSound := by
  unfold State.receive
  split
  case isTrue => exact h
  case isFalse hwait =>
    have hw : s.link.resetWait = false := by simpa using hwait
    repeat' split
    · exact .of_awake (h.link.receiving hw _) hw
    · exact h
    · exact s.assemble_linkSound h.link hw _ b
    · exact .of_awake h.link.framingError hw

theorem State.receiveGap_linkSound (h : s.LinkSound) : s.receiveGap.LinkSound := by
  unfold State.receiveGap
  split
  · exact h
  · exact ⟨h.link.framingError, h.reports⟩

/-! ### The transmitter and reports (R159, R160, R165) -/

/-- R160: a transmitter that comes free begins a report or falls idle. -/
theorem State.transmitterFree_link (s : State) :
    ∃ x, (∀ f, x ≠ .reply f) ∧ s.transmitterFree.link = { s.link with sending := x } := by
  unfold State.transmitterFree
  split
  · exact ⟨.report _, fun _ => Sending.noConfusion, rfl⟩
  · exact ⟨.idle, fun _ => Sending.noConfusion, rfl⟩

theorem State.replyEnd_linkSound (h : s.link.Inv) {f : Frame} (hs : s.link.sending = .reply f) :
    s.replyEnd.LinkSound := by
  unfold State.replyEnd
  dsimp only
  split
  · exact ⟨h.waits hs, fun _ => ⟨rfl, rfl⟩⟩
  · next ha =>
    obtain ⟨x, hx, hlink⟩ := State.transmitterFree_link
      { s with link.inHand := none, part.notice := s.part.notice.replyEnd }
    refine .of_awake ?_ ?_ <;> rw [hlink]
    · exact h.finished hs (by simpa using ha) hx
    · exact h.awake_of_sending (by simp [hs])

theorem State.reportEnd_linkSound (h : s.link.Inv) (hw : s.link.resetWait = false) : s.reportEnd.LinkSound := by
  unfold State.reportEnd
  split
  · next f hf => exact .of_awake (h.waitingSent hw (by simp [hf]) f) hw
  · obtain ⟨x, hx, hlink⟩ := s.transmitterFree_link
    refine .of_awake ?_ ?_ <;> rw [hlink]
    · exact h.sends hw hx
    · exact hw

theorem State.transmitEnd_linkSound (h : s.LinkSound) : s.transmitEnd.LinkSound := by
  unfold State.transmitEnd
  split
  · exact h
  · next hs => exact s.replyEnd_linkSound h.link hs
  · next hs => exact s.reportEnd_linkSound h.link (h.link.awake_of_sending (by simp [hs]))

/-- R160, R165: in the reset wait the report timer has stopped, so an expiry changes nothing. -/
theorem State.reportExpiry_linkSound (h : s.LinkSound) : s.reportExpiry.LinkSound := by
  unfold State.reportExpiry
  dsimp only
  split
  · next hruns =>
    have hw : s.link.resetWait = false := by
      rw [← Bool.not_eq_true]
      intro hwait
      obtain ⟨hstopped, -⟩ := h.reports hwait
      simp [hstopped] at hruns
    split
    · exact .of_awake (h.link.sends hw nofun) hw
    · exact .of_awake h.link hw
  · exact h

/-! ### Resets and stored items (R165, R178) -/

theorem State.startUp_linkSound (s : State) : s.startUp.LinkSound := .of_awake Link.reset_inv rfl

theorem State.resetWaitEnd_linkSound (h : s.LinkSound) : s.resetWaitEnd.LinkSound := by
  unfold State.resetWaitEnd
  split
  · exact s.startUp_linkSound
  · exact h

theorem State.writeComplete_linkSound (h : s.LinkSound) : s.writeComplete.LinkSound := by
  unfold State.writeComplete
  split
  · next e _ _ _ => exact State.LinkSound.onBlocks (s := { s with flash := setAt s.flash e.item _ }) h.link _
  · exact h

/-- Log entry 9: a crossing that closes nothing changes nothing. -/
theorem State.crossingWhere_linkSound (h : s.LinkSound) (closes : Bool) (gap : Nat) :
    (if closes then s.onBlocks (fun p => p.zeroCrossing gap) else s).LinkSound := by
  split
  · exact .onBlocks h.link _
  · exact h

/-! ### Every command -/

/-- No command breaks the invariant: the link's own commands by their updates, the others through the blocks. -/
theorem exec_linkSound {t : State} (c : Instr) (h : s.LinkSound) (he : exec c s = .next t) : t.LinkSound := by
  cases c with
  | powerOnReset => cases he; exact s.cutWrite.startUp_linkSound
  | resetWaitEnd => cases he; exact State.resetWaitEnd_linkSound h
  | rxByte b stopGood => cases he; exact State.receive_linkSound h b stopGood
  | rxGapTimeout => cases he; exact State.receiveGap_linkSound h
  | requestTake => cases he; exact State.take_linkSound h
  | transmitEnd => cases he; exact State.transmitEnd_linkSound h
  | reportTimerExpiry => cases he; exact State.reportExpiry_linkSound h
  | windowBoundary gap => cases he; exact State.crossingWhere_linkSound h _ gap
  | frequencyMeasured gap => cases he; exact State.crossingWhere_linkSound h _ gap
  | mainsReturn gap => cases he; exact State.crossingWhere_linkSound h _ gap
  | attnReassertEnd | ventDriveTimeout => cases he; exact h.of_same rfl rfl
  | flowPulse => cases he; exact h.of_same rfl (by unfold Part.flowPulse; split <;> rfl)
  | tachPulse => cases he; exact h.of_same rfl (by unfold Part.tachPulse; split <;> rfl)
  | storeWriteComplete => cases he; exact State.writeComplete_linkSound h
  | zeroCrossing | freqMeasureTimeout | mainsLossOnset | climatePeriodExpiry | pulseTimerTick | scanTimerExpiry | nodeReply
  | replyWindowExpiry | fillTimeout | drainTimerExpiry | runOnExpiry | coolWaitExpiry | idleDrainExpiry
  | levelDelayExpiry | lullTimerExpiry | soakTimerExpiry | stageTimerTick | holdTimerExpiry =>
    cases he; exact .onBlocks h.link _
  | _ => cases he; exact State.submit_linkSound h _

end

/-- Settles O9, by the invariant of each command. -/
theorem everyStepKeepsLinkInvariant : Obligations.EveryStepKeepsLinkInvariant := by
  intro s t hlink hreports hstep
  unfold step at hstep
  split at hstep
  · cases hstep; exact ⟨hlink, hreports⟩
  · next c rest _ =>
    obtain ⟨hlink', hreports'⟩ := exec_linkSound (s := { s with pending := rest }) c ⟨hlink, hreports⟩ hstep
    exact ⟨hlink', hreports'⟩

end Sys2Proof.Machine
end

section
/-! SUPPORT. Requests and their frames (R152, R158, R182, R183): the bytes of a field back from the field, and the frame of a
request back from the request that it spells (O10). -/

namespace Sys2Proof.Machine

/-! ### Fields (R182) -/

theorem hiByte_halfOf (hi lo : Byte) : hiByte (halfOf hi lo) = hi := BitVec.extractLsb'_append_eq_left

theorem loByte_halfOf (hi lo : Byte) : loByte (halfOf hi lo) = lo := BitVec.extractLsb'_append_eq_right

theorem halfBytes_halfOf (hi lo : Byte) : halfBytes (halfOf hi lo) = [hi, lo] := by
  rw [halfBytes, hiByte_halfOf, loByte_halfOf]

/-- R182: a field is known by its bytes. -/
theorem halfBytes_inj {h k : Half} : halfBytes h = halfBytes k ↔ h = k := by
  refine ⟨fun heq => ?_, congrArg halfBytes⟩
  obtain ⟨hhi, hlo⟩ : hiByte h = hiByte k ∧ loByte h = loByte k := by simpa [halfBytes] using heq
  rw [← halfOf_bytes h, ← halfOf_bytes k, hhi, hlo]

theorem quadBytes_quadOf (a b c d : Byte) : quadBytes (quadOf a b c d) = [a, b, c, d] := by
  have hlast (start : Nat) (h : 8 ≤ start) :
      (quadOf a b c d).extractLsb' start 8 = (a ++ b ++ c).extractLsb' (start - 8) 8 :=
    BitVec.extractLsb'_append_eq_of_le h
  have hsecond (start : Nat) (h : 8 ≤ start) :
      (a ++ b ++ c).extractLsb' start 8 = (a ++ b).extractLsb' (start - 8) 8 := BitVec.extractLsb'_append_eq_of_le h
  have ha : (quadOf a b c d).extractLsb' 24 8 = a := by
    rw [hlast 24 (by decide), hsecond _ (by decide)]
    exact BitVec.extractLsb'_append_eq_left
  have hb : (quadOf a b c d).extractLsb' 16 8 = b := by
    rw [hlast 16 (by decide), hsecond _ (by decide)]
    exact BitVec.extractLsb'_append_eq_right
  have hc : (quadOf a b c d).extractLsb' 8 8 = c := by
    rw [hlast 8 (by decide)]
    exact BitVec.extractLsb'_append_eq_right
  have hd : (quadOf a b c d).extractLsb' 0 8 = d := BitVec.extractLsb'_append_eq_right
  rw [quadBytes, ha, hb, hc, hd]

/-! ### Records (section 12.4) -/

theorem climateBytes_of_some : ∀ {bytes : List Byte} {b : ClimateBlock}, climateBlockOf bytes = some b →
    climateBytes b = bytes
  | [_, _, _, _, _, _, _, _, _, _, _, _, _, _], _, rfl => by simp only [climateBytes, hiByte_halfOf, loByte_halfOf]

theorem climateBlockOf_of_length {bytes : List Byte} (h : bytes.length = 14) : (climateBlockOf bytes).isSome := by
  match bytes, h with
  | [_, _, _, _, _, _, _, _, _, _, _, _, _, _], _ => rfl

theorem stageBytes_of_some {bytes : List Byte} {b : StageBlock} (h : stageBlockOf bytes = some b) :
    stageBytes b = bytes := by
  unfold stageBlockOf at h
  split at h
  · next climate e d3 d2 d1 d0 c1 c0 p code flags hclimate htail =>
    cases h
    calc stageBytes _ = climateBytes climate ++ [e, d3, d2, d1, d0, c1, c0, p, code, flags] := by
          simp [stageBytes, quadBytes_quadOf, halfBytes_halfOf]
      _ = bytes := by rw [climateBytes_of_some hclimate, ← htail, List.take_append_drop]
  · cases h

theorem stageBlockOf_of_length {bytes : List Byte} (h : bytes.length = 24) : (stageBlockOf bytes).isSome := by
  have hhead : (bytes.take 14).length = 14 := by simp [h]
  have htail : (bytes.drop 14).length = 10 := by simp [h]
  obtain ⟨climate, hclimate⟩ := Option.isSome_iff_exists.1 (climateBlockOf_of_length hhead)
  unfold stageBlockOf
  match bytes.drop 14, htail with
  | [_, _, _, _, _, _, _, _, _, _], _ => rw [hclimate]; rfl

/-! ### Requests (R183) -/

/-- R183: a byte that names a kind is that kind's byte. -/
theorem ReqKind.code_of_ofCode {b : Byte} {k : ReqKind} (h : ReqKind.ofCode b = some k) : k.code = b := by
  unfold ReqKind.ofCode at h
  split at h <;> cases h
  all_goals
    next hb => exact BitVec.eq_of_toNat_eq hb.symm

theorem bare_of_some {r q : Request} : ∀ {bytes : List Byte}, bare r bytes = some q → bytes = [] ∧ r = q
  | [], rfl => ⟨rfl, rfl⟩

theorem withByte_of_some {f : Byte → Request} {q : Request} : ∀ {bytes : List Byte}, withByte f bytes = some q →
    ∃ a, bytes = [a] ∧ f a = q
  | [a], rfl => ⟨a, rfl, rfl⟩

/-- R183: a payload that spells a request for a kind is the payload of that request. -/
theorem readPayload_of_some {k : ReqKind} {bytes : List Byte} {q : Request} (h : readPayload k bytes = some q) :
    requestKind q = k ∧ requestPayload q = bytes := by
  cases k with
  | settingGet | stageGet | holdExit | faultClear | nodeGet | counterGet | captureRelease =>
    obtain ⟨a, rfl, rfl⟩ := withByte_of_some h
    exact ⟨rfl, rfl⟩
  | climateSet =>
    obtain ⟨b, hb, rfl⟩ := Option.map_eq_some_iff.1 h
    exact ⟨rfl, climateBytes_of_some hb⟩
  | stageAppend =>
    obtain ⟨b, hb, rfl⟩ := Option.map_eq_some_iff.1 h
    exact ⟨rfl, stageBytes_of_some hb⟩
  | settingPut => match bytes, h with
    | [_, _, _, _, _, _], rfl => exact ⟨rfl, rfl⟩
  | programStart => match bytes, h with
    | [_, _], rfl => exact ⟨rfl, rfl⟩
  | descaleStart => match bytes, h with
    | [_, _], rfl => exact ⟨rfl, rfl⟩
  | programClear => match bytes, h with
    | [_, _, _, _], rfl => exact ⟨rfl, by simp only [requestPayload, hiByte_halfOf, loByte_halfOf]⟩
  | holdEnter => match bytes, h with
    | [_, _, _], rfl => exact ⟨rfl, by simp only [requestPayload, hiByte_halfOf, loByte_halfOf]⟩
  | nodeSet => match bytes, h with
    | [_, _, _, _, _, _], rfl => exact ⟨rfl, by simp only [requestPayload, hiByte_halfOf, loByte_halfOf]⟩
  | captureArm => match bytes, h with
    | [_, _, _], rfl => exact ⟨rfl, by simp only [requestPayload, hiByte_halfOf, loByte_halfOf]⟩
  | noticeGet => match bytes, h with
    | [_, _], rfl => exact ⟨rfl, halfBytes_halfOf _ _⟩
  | noticeEnable => match bytes, h with
    | [_, _], rfl => exact ⟨rfl, halfBytes_halfOf _ _⟩
  | _ =>
    obtain ⟨rfl, rfl⟩ := bare_of_some h
    exact ⟨rfl, rfl⟩

/-- R183: a payload of the kind's length spells a request. -/
theorem readPayload_of_length {k : ReqKind} {bytes : List Byte} (h : bytes.length = k.length) :
    (readPayload k bytes).isSome := by
  cases k with
  | climateSet => exact Option.isSome_map.trans (climateBlockOf_of_length h)
  | stageAppend => exact Option.isSome_map.trans (stageBlockOf_of_length h)
  | settingGet | stageGet | holdExit | faultClear | nodeGet | counterGet | captureRelease => match bytes, h with
    | [_], _ => rfl
  | programStart | descaleStart | noticeGet | noticeEnable => match bytes, h with
    | [_, _], _ => rfl
  | holdEnter | captureArm => match bytes, h with
    | [_, _, _], _ => rfl
  | programClear => match bytes, h with
    | [_, _, _, _], _ => rfl
  | settingPut | nodeSet => match bytes, h with
    | [_, _, _, _, _, _], _ => rfl
  | _ => match bytes, h with
    | [], _ => rfl

/-- R183: the frame of the request that a frame spells is that frame. -/
theorem encodeRequest_of_decode {f : Frame} {q : Request} (h : decodeRequest f = some q) : encodeRequest q = f := by
  unfold decodeRequest at h
  split at h
  · next k hk =>
    obtain ⟨hkind, hpayload⟩ := readPayload_of_some h
    rw [encodeRequest, hkind, hpayload, ReqKind.code_of_ofCode hk]
  · cases h

/-- R158, R183: a frame spells a request exactly where its kind and its length pass the general checks. -/
theorem decodeRequest_isSome_iff (f : Frame) :
    (decodeRequest f).isSome ↔ ∃ k, ReqKind.ofCode f.kind = some k ∧ f.payload.length = k.length := by
  constructor
  · intro h
    obtain ⟨q, hq⟩ := Option.isSome_iff_exists.1 h
    rw [← encodeRequest_of_decode hq]
    exact ⟨requestKind q, ofCode_request q, length_request q⟩
  · rintro ⟨k, hk, hlen⟩
    simp only [decodeRequest, hk]
    exact readPayload_of_length hlen

/-- Settles O10. -/
theorem requestRoundTrip : Obligations.RequestRoundTrip := by
  refine ⟨fun q => ⟨length_request q, ?_⟩, fun f q => encodeRequest_of_decode, decodeRequest_isSome_iff⟩
  simp only [decodeRequest, ofCode_request, readPayload_request]

end Sys2Proof.Machine
end

section
/-! SUPPORT. The receiver byte by byte and a frame with any check (O6, O7), and the general checks of the request in hand
(O12). -/

namespace Sys2Proof.Machine

/-! ### The receiver (R153) -/

theorem exec_rxByte (s : State) (b : Byte) (stopGood : Bool) :
    exec (.rxByte b stopGood) s = .next (s.receive b stopGood) := rfl

theorem exec_rxGapTimeout (s : State) : exec .rxGapTimeout s = .next s.receiveGap := rfl

/-- R153: a partial frame is discarded and counted. -/
theorem Link.framingError_eq (l : Link) :
    l.framingError = { l with receiver := .hunt, framingErrors := min 255 (l.framingErrors + 1) } := by
  rw [Link.framingError, bump_eq]

section
variable {s : State} (hw : s.link.resetWait = false)
include hw

/-- R153: in HUNT the start byte alone, with a good stop bit, begins a frame. -/
theorem State.receive_hunt (hr : s.link.receiver = .hunt) (b : Byte) (stopGood : Bool) :
    s.receive b stopGood = if stopGood && b = 0xA5 then s.receiving (.assemble []) else s := by
  rw [State.receive, if_neg (by simp [hw])]
  simp only [hr]
  rfl

/-- R153: a bad stop bit in ASSEMBLE discards the frame. -/
theorem State.receive_badStop {got : List Byte} (hr : s.link.receiver = .assemble got) (b : Byte) :
    s.receive b false = { s with link := s.link.framingError } := by
  rw [State.receive, if_neg (by simp [hw])]
  simp only [hr]
  rfl

/-- R153: a length byte above 120 discards the frame. -/
theorem State.receive_length (hr : s.link.receiver = .assemble []) (b : Byte) : s.receive b true =
    if 120 < b.toNat then { s with link := s.link.framingError } else s.receiving (.assemble [b]) := by
  have hc : frameComplete [b] = false := by simp [frameComplete]
  rw [State.receive_assemble b hw hr, List.nil_append, hc]
  simp

end

theorem State.receiveGap_hunt {s : State} (hr : s.link.receiver = .hunt) : s.receiveGap = s := by
  rw [State.receiveGap, hr]

theorem State.receiveGap_assemble {s : State} {got : List Byte} (hr : s.link.receiver = .assemble got) :
    s.receiveGap = { s with link := s.link.framingError } := by
  rw [State.receiveGap, hr]

/-- Settles O6, by the receiver's states. -/
theorem receiverActsOnBytes : Obligations.ReceiverActsOnBytes := by
  intro s b hw
  simp only [exec_rxByte, exec_rxGapTimeout]
  refine ⟨fun hr => ⟨?start, ?bad, ?gap⟩, fun got hr => ⟨?badInFrame, ?gapInFrame⟩, fun hr => ?length,
    fun len got hr hl => ?more⟩
  case start => rw [State.receive_hunt hw hr]; simp only [Bool.true_and, decide_eq_true_eq]; rfl
  case bad => rw [State.receive_hunt hw hr]; rfl
  case gap => rw [State.receiveGap_hunt hr]
  case badInFrame => rw [State.receive_badStop hw hr, Link.framingError_eq]
  case gapInFrame => rw [State.receiveGap_assemble hr, Link.framingError_eq]
  case length => rw [State.receive_length hw hr, Link.framingError_eq]; rfl
  case more => rw [State.receive_more b hw hr hl]; rfl

/-! ### A whole frame (R152 to R155, R159) -/

/-- R152, R153: the bytes of a frame, whatever its check, into a receiver in HUNT have the frame judged. -/
theorem State.feed_frameBytes {s : State} (hw : s.link.resetWait = false) (hr : s.link.receiver = .hunt) (kind : Byte)
    {payload : List Byte} (check : Half) (h : payload.length ≤ 120) : s.feed (frameBytes kind payload check) =
      .next (s.judgeFrame (byteOf payload.length :: kind :: (payload ++ halfBytes check))) := by
  have hlen : (byteOf payload.length).toNat = payload.length := by
    rw [byteOf, BitVec.toNat_ofNat]
    omega
  have hstart : s.receive 0xA5 true = s.receiving (.assemble []) := State.receive_hunt hw hr _ _
  have hlength : (s.receiving (.assemble [])).receive (byteOf payload.length) true
      = s.receiving (.assemble [byteOf payload.length]) := by
    rw [State.receive_length (s := s.receiving (.assemble [])) hw rfl, if_neg (by omega), State.receiving_receiving]
  rw [frameBytes, State.feed_cons, State.feed_cons, hstart, hlength,
    State.feed_assemble _ [] (s.receiving (.assemble _)) hw rfl (by simp) (by simp [hlen, halfBytes]),
    State.receiving_receiving, State.receiving_self hr, List.nil_append]

/-- R154: a complete frame is offered where its check is right, and counted where it is wrong. -/
theorem State.judgeFrame_eq (s : State) (kind : Byte) {payload : List Byte} (check : Half) (h : payload.length ≤ 120) :
    s.judgeFrame (byteOf payload.length :: kind :: (payload ++ halfBytes check)) =
      if check = crc16 (byteOf payload.length :: kind :: payload) then s.offer ⟨kind, payload⟩
      else { s with link.crcErrors := min 255 (s.link.crcErrors + 1) } := by
  have hlen : (byteOf payload.length).toNat = payload.length := by
    rw [byteOf, BitVec.toNat_ofNat]
    omega
  simp only [State.judgeFrame, hlen, List.take_left, List.drop_left, halfBytes_inj, bump_eq]

/-- R139: outside STANDBY there is nothing to wake. -/
theorem State.woken_awake {s : State} (h : s.part.mode.mode ≠ .standby) : s.woken = s := if_neg h

/-- R155: outside STANDBY a frame that finds a free place joins the tail. -/
theorem State.offer_free {s : State} (hm : s.part.mode.mode ≠ .standby) (hq : s.link.queue.length < 4) (f : Frame) :
    s.offer f = { s with link.queue := s.link.queue ++ [f] } := by
  rw [State.offer, if_pos hq]
  exact State.woken_awake hm

/-- R152, R159: the bytes that leave TXD are those of the frame being sent. -/
theorem Link.txd_eq {l : Link} {f : Frame} (h : l.sending = .reply f ∨ l.sending = .report f) : l.txd = f.bytes := by
  rcases h with h | h <;> rw [Link.txd, h]

/-- Settles O7: the bytes of a frame have it judged, whatever its check, and those of a sent frame are its own. -/
theorem frameIsReceivedWhole : Obligations.FrameIsReceivedWhole := by
  refine ⟨fun s kind payload check hw hr hlen => ?fed, fun s f hm => ⟨fun hq => State.offer_free hm hq f,
    fun hq => State.offer_full hq f⟩, fun l f hs => Link.txd_eq hs, fun s l f hw hr hlen hs => ?sent⟩
  case fed => rw [State.feed_frameBytes hw hr kind check hlen, State.judgeFrame_eq s kind check hlen]
  case sent => rw [Link.txd_eq hs, State.feed_frame hw hr f hlen]

/-! ### The general checks (R158) -/

/-- R156, R158: outside STANDBY a frame whose answer changes nothing is taken and its reply begins. -/
theorem exec_requestTake_refused {s : State} {f : Frame} {rest : List Frame} (hq : s.link.queue = f :: rest)
    (hc : s.link.canTake = true) (hs : s.link.sending = .idle) (hm : s.part.mode.mode ≠ .standby) {c : ResultCode}
    (hcode : carriedOut c = false) (ha : ∀ t : State, t.answer f = (t, ⟨c, []⟩)) : exec .requestTake s = .next { s with
      link.queue := rest, link.inHand := some f, link.sending := .reply ⟨f.kind + 0x80, [resultByte c]⟩ } := by
  have hjudging : s.judging f rest = { s with link.inHand := some f, link.queue := rest } := State.woken_awake hm
  rw [exec_requestTake hq hc, State.handle_idle _ _ _ hs, ha, hjudging]
  simp [replyFrame, hcode]

/-- Settles O12. -/
theorem generalChecksComeFirst : Obligations.GeneralChecksComeFirst := by
  intro s f rest hq hh hr hw hs hm
  have hc : s.link.canTake = true := s.link.canTake_iff.2 ⟨hh, hr, hw⟩
  exact ⟨fun hk => exec_requestTake_refused hq hc hs hm rfl fun t => t.answer_unknownKind hk,
    fun k hk hlen => exec_requestTake_refused hq hc hs hm rfl fun t => t.answer_badLength hk hlen⟩

end Sys2Proof.Machine
end

section
/-! SUPPORT. Requests that are not carried out (R157, O15), PING and LINK_STATS (R162, R163, O18). -/

namespace Sys2Proof.Machine

/-! ### Requests that are not carried out (R157) -/

/-- R157: what an owner makes of the blocks is `p` unchanged, unless the request has been carried out. -/
def Part.SparedBy (p : Part) (r : Part × Reply) : Prop := carriedOut r.2.code = false → r.1 = p

theorem Part.refuse_spares (p : Part) (c : ResultCode) : p.SparedBy (p.refuse c) := fun _ => rfl

theorem Part.SparedBy.of_carriedOut {p : Part} {r : Part × Reply} (h : carriedOut r.2.code = true) : p.SparedBy r :=
  fun hc => absurd (h.symm.trans hc) (by decide)

theorem carriedOut_okOrClamped (clamped : Bool) : carriedOut (okOrClamped clamped) = true := by cases clamped <;> rfl

section
variable (p : Part)

theorem Part.settingGet_spares (item : Byte) : p.SparedBy (p.settingGet item) := by
  unfold Part.settingGet
  split
  · exact p.refuse_spares _
  · exact .of_carriedOut rfl

theorem Part.programClear_spares (action : Byte) (setpoint : Half) (moist : Byte) :
    p.SparedBy (p.programClear action setpoint moist) := by
  unfold Part.programClear
  repeat' split
  · exact p.refuse_spares _
  · exact .of_carriedOut (carriedOut_okOrClamped _)
  · exact p.refuse_spares _

theorem Part.stageAppend_spares (b : StageBlock) : p.SparedBy (p.stageAppend b) := by
  unfold Part.stageAppend
  repeat' split
  · exact p.refuse_spares _
  · exact p.refuse_spares _
  · exact p.refuse_spares _
  · exact .of_carriedOut (carriedOut_okOrClamped _)

theorem Part.stageGet_spares (i : Byte) : p.SparedBy (p.stageGet i) := by
  unfold Part.stageGet
  split
  · exact .of_carriedOut rfl
  · exact p.refuse_spares _

theorem Part.nodeGet_spares (a : Byte) : p.SparedBy (p.nodeGet a) := by
  unfold Part.nodeGet
  split
  · exact .of_carriedOut rfl
  · exact p.refuse_spares _

theorem Part.counterGet_spares (zero : Byte) : p.SparedBy (p.counterGet zero) := by
  unfold Part.counterGet
  split
  · exact p.refuse_spares _
  · exact .of_carriedOut rfl

theorem Part.captureArm_spares (trigger : Half) (style : Byte) : p.SparedBy (p.captureArm trigger style) := by
  rw [Part.captureArm_eq]
  split
  · exact .of_carriedOut rfl
  · exact p.refuse_spares .badValue

theorem Part.captureRelease_spares (disarm : Byte) : p.SparedBy (p.captureRelease disarm) := by
  rw [Part.captureRelease_eq]
  split
  · exact .of_carriedOut rfl
  · exact p.refuse_spares .badValue

end

section
variable (s : State)

theorem State.acting_refused {r : Part × Reply} (h : carriedOut (s.acting r).2.code = false) : (s.acting r).1 = s := by
  unfold State.acting at h ⊢
  split
  · next hc => rw [if_pos hc] at h; exact absurd (hc.symm.trans h) (by decide)
  · rfl

theorem State.plain_refused {r : Part × Reply} (hr : s.part.SparedBy r) (h : carriedOut (s.plain r).2.code = false) :
    (s.plain r).1 = s :=
  congrArg (fun p => { s with part := p }) (hr h)

/-- R157: an owner that does not carry a request out changes nothing. -/
theorem State.serve_refused {q : Request} (h : carriedOut (s.serve q).2.code = false) : (s.serve q).1 = s := by
  cases q with
  | settingPut | storeDefaults | climateSet | climateOff | programStart | programPause | programResume | programAbort
  | stageConfirm | stageSkip | boilerDrain | descaleStart | descaleConfirm | descaleAbort | holdEnter | holdExit
  | standbyEnter | stop | faultClear | nodeSet => exact s.acting_refused h
  | settingGet item => exact s.plain_refused (s.part.settingGet_spares item) h
  | programClear action setpoint moist => exact s.plain_refused (s.part.programClear_spares action setpoint moist) h
  | stageAppend b => exact s.plain_refused (s.part.stageAppend_spares b) h
  | stageGet i => exact s.plain_refused (s.part.stageGet_spares i) h
  | nodeGet a => exact s.plain_refused (s.part.nodeGet_spares a) h
  | counterGet zero => exact s.plain_refused (s.part.counterGet_spares zero) h
  | captureArm trigger style => exact s.plain_refused (s.part.captureArm_spares trigger style) h
  | captureRelease disarm => exact s.plain_refused (s.part.captureRelease_spares disarm) h
  | ping | reset | statusGet | linkStats | scaleGet | descaleGet | faultGet | noticeGet | noticeEnable | captureGet =>
    exact Bool.noConfusion h

end

/-- R157: the code 0 or 1 is that of a request that has been carried out. -/
theorem carriedOut_eq_false {c : ResultCode} (h0 : resultByte c ≠ 0x00) (h1 : resultByte c ≠ 0x01) :
    carriedOut c = false := by
  cases c with
  | ok => exact absurd rfl h0
  | clamped => exact absurd rfl h1
  | _ => rfl

/-- R156, R159: an admitted request's owner settles it, and its reply begins. -/
theorem exec_served {s : State} {q : Request} (hl : s.listening) (ha : s.admits q) : exec q.command s = .next
    { ((s.taken q).serve q).1 with
      link.sending := .reply (replyFrame (requestKind q).code ((s.taken q).serve q).2) } := by
  have ⟨_, _, _, hidle, _, _⟩ := hl
  have hsending : ((s.taken q).serve q).1.link.sending = .idle :=
    (congrArg Link.sending ((s.taken q).serve_link q).rest).trans hidle
  rw [exec_admitted hl ha]
  dsimp only
  rw [Link.sendReply_idle _ _ hsending]

/-- R157: a reply with a single byte that is neither 0 nor 1 answers a request that has changed nothing. -/
theorem exec_replied_of_code {s t : State} {q : Request} {k code : Byte} (hl : s.listening)
    (he : exec q.command s = .next t) (hs : t.link.sending = .reply ⟨k, [code]⟩) (h0 : code ≠ 0x00) (h1 : code ≠ 0x01) :
    ∃ r, t = s.replied q r := by
  by_cases ha : s.admits q
  · have hserved := he.symm.trans (exec_served hl ha)
    cases hserved
    have hcode : resultByte ((s.taken q).serve q).2.code = code := by
      obtain ⟨-, hpayload⟩ := Frame.mk.inj (Sending.reply.inj hs)
      exact List.head_eq_of_cons_eq hpayload
    have hrefused := (s.taken q).serve_refused (carriedOut_eq_false (hcode ▸ h0) (hcode ▸ h1))
    refine ⟨((s.taken q).serve q).2, ?_⟩
    rw [hrefused]
    rfl
  · have hrefused := he.symm.trans (exec_unadmitted hl ha)
    cases hrefused
    exact ⟨_, rfl⟩

/-- Settles O15: neither the mode nor the owner changes anything for a request that is not carried out. -/
theorem refusedRequestChangesNothing : Obligations.RefusedRequestChangesNothing := by
  intro s t q k code hl he hs h0 h1
  obtain ⟨r, rfl⟩ := exec_replied_of_code hl he hs h0 h1
  rw [← hs]
  rfl

/-! ### PING and LINK_STATS (R162, R163) -/

/-- R163: the identity record of a node, as PING carries it. -/
def identityField : Option Identity → List Byte
  | some i => 0x01 :: quadBytes i.serial
  | none => [0, 0, 0, 0, 0]

theorem Part.pingBytes_eq (p : Part) : p.pingBytes =
    [0x04, 0x20, 0x03] ++ identityField ((p.ring.supplier .cavityTemp).bind NodeEntry.identity) := by
  have hpart : halfBytes Config.partCode = [0x04, 0x20] := by decide
  rw [Part.pingBytes, hpart]
  cases p.ring.supplier .cavityTemp with
  | none => rfl
  | some n => cases hi : n.identity with
    | none => simp only [Option.bind_some, hi]; rfl
    | some i => simp only [Option.bind_some, hi]; rfl

/-- R163: PING answers its record and changes nothing. -/
theorem exec_ping {s : State} (hl : s.listening) {o : Option Identity}
    (h : (s.part.ring.supplier .cavityTemp).bind NodeEntry.identity = o) :
    exec .ping s = .next (s.replied .ping ⟨.ok, [0x04, 0x20, 0x03] ++ identityField o⟩) := by
  rw [← h, ← Part.pingBytes_eq]
  exact exec_reads (q := .ping) hl (admits_always rfl rfl) rfl

/-- Settles O18: PING's record by the identity of the node at the lowest address, LINK_STATS by its owner. -/
theorem pingAndLinkStats : Obligations.PingAndLinkStats := by
  intro s hl cavity
  refine ⟨fun n i hn hi => ?_, fun hnone => ?_, exec_served (q := .linkStats) hl (admits_always rfl rfl)⟩
  · refine exec_ping hl (o := some i) ?_
    rw [show s.part.ring.supplier .cavityTemp = some n from hn]
    exact hi
  · refine exec_ping hl (o := none) ?_
    rcases hnone with hn | ⟨n, hn, hi⟩
    · rw [show s.part.ring.supplier .cavityTemp = none from hn]
      rfl
    · rw [show s.part.ring.supplier .cavityTemp = some n from hn]
      exact hi

end Sys2Proof.Machine
end

section
/-! SUPPORT. The transmitter, the report timer and the reset wait (R156, R159 to R161, R165; O23 to O25), and ATTN with its
re-assertion (R167 to R169; O27). -/

namespace Sys2Proof.Machine

/-! ### The transmitter (R159, R160) -/

theorem exec_transmitEnd (s : State) : exec .transmitEnd s = .next s.transmitEnd := rfl

/-- R169: a reply's end is nothing to the notices where no NOTICE_GET is in hand. -/
theorem NoticeUnit.replyEnd_idle {u : NoticeUnit} (h : u.inHand = false) : u.replyEnd = u := by
  rw [NoticeUnit.replyEnd, if_neg (by simp [h])]

/-- R169: the end of a NOTICE_GET's reply begins a re-assertion that is owed. -/
theorem NoticeUnit.replyEnd_inHand {u : NoticeUnit} (h : u.inHand = true) :
    u.replyEnd = { u with inHand := false, owed := false, pulse := u.pulse || u.owed } := if_pos h

/-- R169: what the end of a reply makes of the request in hand and of the notices. -/
def State.replyTold (s : State) (u : NoticeUnit) : State := { s with link.inHand := none, part.notice := u }

section
variable {s : State}

theorem State.transmitEnd_idle (h : s.link.sending = .idle) : s.transmitEnd = s := by rw [State.transmitEnd, h]

theorem State.transmitEnd_report {f : Frame} (h : s.link.sending = .report f) : s.transmitEnd = s.reportEnd := by
  rw [State.transmitEnd, h]

theorem State.reportEnd_waiting {f : Frame} (h : s.link.reply = some f) :
    s.reportEnd = { s with link.reply := none, link.sending := .reply f } := by rw [State.reportEnd, h]

theorem State.reportEnd_free (h : s.link.reply = none) : s.reportEnd = s.transmitterFree := by rw [State.reportEnd, h]

/-- R156, R160: at the end of a reply other than RESET's the transmitter comes free. -/
theorem State.transmitEnd_reply {f : Frame} (h : s.link.sending = .reply f) (ha : s.link.resetAnswered = false) :
    s.transmitEnd = (s.replyTold s.part.notice.replyEnd).transmitterFree := by
  rw [State.transmitEnd, h]
  exact if_neg (by simp [ha])

/-- R165: at the end of RESET's reply the reset wait begins. -/
theorem State.transmitEnd_reset {f : Frame} (h : s.link.sending = .reply f) (ha : s.link.resetAnswered = true) :
    s.transmitEnd = (s.replyTold s.part.notice.replyEnd).enterResetWait := by
  rw [State.transmitEnd, h]
  exact if_pos ha

end

/-- Settles O23, by what is being sent and what waits. -/
theorem transmitterOrder : Obligations.TransmitterOrder := by
  intro s n
  simp only [exec_transmitEnd]
  refine ⟨fun hs => ?idle, fun f g hs hg => ?waiting, fun f hs hnone => ?report, fun f hs hn ha => ?reply⟩
  case idle => rw [State.transmitEnd_idle hs]
  case waiting => rw [State.transmitEnd_report hs, State.reportEnd_waiting hg]
  case report => rw [State.transmitEnd_report hs, State.reportEnd_free hnone]; rfl
  case reply => rw [State.transmitEnd_reply hs ha, NoticeUnit.replyEnd_idle hn]; rfl

/-! ### The report timer (R160, R161) -/

theorem exec_reportTimerExpiry (s : State) : exec .reportTimerExpiry s = .next s.reportExpiry := rfl

/-- R160: the modes in which reports are allowed. -/
theorem OpMode.reports_iff (m : OpMode) : m.reports = true ↔ m ∈ [.starting, .active, .standbyPending, .safeStop] := by
  cases m <;> decide

/-- R160: the report is pending and the timer has restarted with the interval in force. -/
def State.reportDue (s : State) : State :=
  { s with part.report := ⟨.running (s.part.store.num 19), true, s.part.report.number⟩ }

section
variable {s : State}

theorem State.reportExpiry_allowed {n : Nat} (ht : s.part.report.timer = .running n) (hm : s.part.mode.mode.reports = true)
    (hi : s.part.store.num 19 ≠ 0) :
    s.reportExpiry = if s.link.sending = .idle then s.reportDue.beginReport else s.reportDue :=
  if_pos (by simp [ht, hm, hi])

theorem State.reportExpiry_barred (h : s.part.mode.mode.reports = false ∨ s.part.store.num 19 = 0) :
    s.reportExpiry = s := if_neg (by rcases h with h | h <;> simp [h])

end

/-- Settles O24. -/
theorem reportTimerExpires : Obligations.ReportTimerExpires := by
  intro s n ht interval number allowed
  have hallowed : s.part.mode.mode.reports = true ↔ allowed := OpMode.reports_iff _
  simp only [exec_reportTimerExpiry]
  refine ⟨fun hm hi hs => ?begins, fun hm hi hs => ?waits, fun h => ?barred⟩
  case begins => rw [State.reportExpiry_allowed ht (hallowed.2 hm) hi, if_pos hs]; rfl
  case waits => rw [State.reportExpiry_allowed ht (hallowed.2 hm) hi, if_neg hs]; rfl
  case barred => rw [State.reportExpiry_barred (h.imp_left fun hm => Bool.eq_false_iff.2 (mt hallowed.1 hm))]

/-! ### The reset wait (R165) -/

theorem exec_resetWaitEnd (s : State) : exec .resetWaitEnd s = .next s.resetWaitEnd := rfl

/-- R165: the wait goes on while the write queue holds an entry. -/
theorem State.resetWaitEnd_writing {s : State} (hq : s.part.store.queue ≠ []) : s.resetWaitEnd = s :=
  if_neg (by simp [hq])

section
variable {s : State} (hw : s.link.resetWait = true)
include hw

theorem State.submit_wait (q : Request) : s.submit q = s := if_pos hw

theorem State.receive_wait (b : Byte) (stopGood : Bool) : s.receive b stopGood = s := if_pos hw

theorem Link.canTake_wait : s.link.canTake = false := by simp [Link.canTake, hw]

/-- R165: with the write queue empty the part starts up. -/
theorem State.resetWaitEnd_written (hq : s.part.store.queue = []) : s.resetWaitEnd = s.startUp :=
  if_pos (by simp [hw, hq])

end

/-- Settles O25: the request, the end of its reply, and what the wait lets through. -/
theorem resetWait : Obligations.ResetWait := by
  intro s
  refine ⟨fun hl ha => ?request, fun f hs ha hn => ?begins, fun hw => ⟨fun q => ?requests, fun b stop => ?bytes, ?take,
    fun hq => ?writing, fun hq => ?ends⟩⟩
  case request => exact exec_served (q := .reset) hl ha
  case begins => rw [exec_transmitEnd, State.transmitEnd_reset hs ha, NoticeUnit.replyEnd_idle hn]; rfl
  case requests => rw [exec_command, State.submit_wait hw]
  case bytes => rw [exec_rxByte, State.receive_wait hw]
  case take => exact exec_requestTake_idle (.inr (Link.canTake_wait hw))
  case writing => rw [exec_resetWaitEnd, State.resetWaitEnd_writing hq]
  case ends => rw [exec_resetWaitEnd, State.resetWaitEnd_written hw hq]; rfl

/-! ### Notices (R167 to R169) -/

theorem noticePosition_lt (n : Notice) : noticePosition n < 16 := by cases n <;> decide

theorem getLsbD_noticeFlag (n : Notice) (i : Nat) : (noticeFlag n).getLsbD i = decide (i = noticePosition n) := by
  have hn := noticePosition_lt n
  rw [noticeFlag, BitVec.getLsbD_shiftLeft, BitVec.getLsbD_one]
  by_cases hi : i = noticePosition n
  · simp [hi, hn]
  · by_cases hlt : i < noticePosition n
    · simp [hi, hlt]
    · simp [hi, show i - noticePosition n ≠ 0 by omega]

/-- A set holds a kind's flag exactly where it meets the flag alone. -/
theorem and_noticeFlag_ne_zero (set : Half) (n : Notice) :
    ((set &&& noticeFlag n) != 0) = set.getLsbD (noticePosition n) := by
  have hflag : set &&& noticeFlag n = if set.getLsbD (noticePosition n) then noticeFlag n else 0 := by
    apply BitVec.eq_of_getLsbD_eq
    intro i _
    rw [BitVec.getLsbD_and, getLsbD_noticeFlag]
    by_cases hi : i = noticePosition n
    · subst hi
      cases set.getLsbD (noticePosition n) <;> simp [getLsbD_noticeFlag]
    · cases set.getLsbD (noticePosition n) <;> simp [getLsbD_noticeFlag, hi]
  have hne : noticeFlag n ≠ 0 := by cases n <;> decide
  rw [hflag]
  cases set.getLsbD (noticePosition n) with
  | true => exact bne_iff_ne.2 hne
  | false => rfl

theorem NoticeUnit.raise_set {u : NoticeUnit} {n : Notice} (h : u.pending.getLsbD (noticePosition n) = true) :
    u.raise n = u := if_pos (by rw [and_noticeFlag_ne_zero, h])

theorem NoticeUnit.raise_clear {u : NoticeUnit} {n : Notice} (h : u.pending.getLsbD (noticePosition n) = false) :
    u.raise n = { u with
      pending := u.pending ||| noticeFlag n
      owed := u.owed || (u.inHand && u.enable.getLsbD (noticePosition n)) } := by
  rw [NoticeUnit.raise, and_noticeFlag_ne_zero, and_noticeFlag_ne_zero, h]
  rfl

/-- R167: the notice kinds by their positions. -/
def noticeKinds : List Notice :=
  [.stageChange, .prompt, .programEnd, .preheatReached, .doorChange, .waterNeeded, .descaleDue, .descaleStep,
    .descaleDone, .fault, .nodeChange, .watchChange, .captureTaken, .holdEnd, .scanDone, .storeDefaulted]

/-- R167: each of the sixteen positions is that of a kind. -/
theorem exists_noticePosition {i : Nat} (h : i < 16) : ∃ n, noticePosition n = i := by
  have hkinds : noticeKinds.map noticePosition = List.range 16 := rfl
  obtain ⟨n, -, hn⟩ := List.mem_map.1 (hkinds ▸ List.mem_range.2 h)
  exact ⟨n, hn⟩

/-- A set of notices is not empty exactly where it holds a kind. -/
theorem notices_ne_zero_iff (set : Half) : set ≠ 0 ↔ ∃ n, set.getLsbD (noticePosition n) = true := by
  constructor
  · intro hne
    by_contra hnone
    refine hne (BitVec.eq_of_getLsbD_eq fun i hi => ?_)
    obtain ⟨n, rfl⟩ := exists_noticePosition hi
    exact (Bool.eq_false_iff.2 fun hn => hnone ⟨n, hn⟩).trans BitVec.getLsbD_zero.symm
  · rintro ⟨n, hn⟩ rfl
    exact absurd (hn.symm.trans BitVec.getLsbD_zero) (by decide)

/-- R168: ATTN is active while a kind is pending and enabled, the release pulse apart. -/
theorem NoticeUnit.attn_iff (u : NoticeUnit) : u.attn = true ↔ u.pulse = false
    ∧ ∃ n, u.pending.getLsbD (noticePosition n) = true ∧ u.enable.getLsbD (noticePosition n) = true := by
  have hboth := notices_ne_zero_iff (u.pending &&& u.enable)
  simp only [BitVec.getLsbD_and, Bool.and_eq_true] at hboth
  rw [← hboth]
  simp [NoticeUnit.attn]

/-- Settles O27: a raise by whether its flag was set, ATTN, and the two ends of the re-assertion pulse. -/
theorem attnAndReassertion : Obligations.AttnAndReassertion := by
  refine ⟨fun u n => ⟨NoticeUnit.raise_set, fun h => ?raised⟩, NoticeUnit.attn_iff, fun s f hs hn ha => ?replyEnds,
    fun s => rfl⟩
  case raised =>
    rw [NoticeUnit.raise_clear h]
    refine ⟨?_, fun i hi => ?_, rfl, rfl, rfl, rfl⟩
    · simp [BitVec.getLsbD_or, getLsbD_noticeFlag]
    · simp [BitVec.getLsbD_or, getLsbD_noticeFlag, hi]
  case replyEnds =>
    intro told n
    rw [exec_transmitEnd, State.transmitEnd_reply hs ha, NoticeUnit.replyEnd_inHand hn]
    rfl

end Sys2Proof.Machine
end

section
/-! SUPPORT. The link controller after POWER_ON_RESET (R166, O3), and the invariants right after reset (O60). -/

namespace Sys2Proof.Machine

/-! ### What the load step leaves of the reports (R160, R180) -/

section
variable (p : Part)

theorem Part.queueDamaged_report (i : Nat) : (p.queueDamaged i).report = p.report := by
  unfold Part.queueDamaged; split <;> rfl

theorem Part.damageQueued_report : p.damageQueued.report = p.report := by
  simp only [Part.damageQueued, Part.queueDamaged_report]

theorem Part.reportDamage_report : p.reportDamage.report = p.report := by
  unfold Part.reportDamage
  split
  · rw [Part.raiseFault_storeDefaulted]; split <;> rfl
  · rfl

theorem Part.descaleLoaded_report : p.descaleLoaded.report = p.report := by
  unfold Part.descaleLoaded; split <;> rfl

theorem Part.recordLoaded_report : p.recordLoaded.report = p.report := by
  unfold Part.recordLoaded; split <;> rfl

theorem Part.blowdownLoaded_report : p.blowdownLoaded.report = p.report := by
  unfold Part.blowdownLoaded; split <;> rfl

theorem Part.progressLoaded_report : p.progressLoaded.report = p.report := by
  unfold Part.progressLoaded Part.queueIfOwing; split <;> rfl

theorem Part.dueLoaded_report : p.dueLoaded.report = p.report := by
  unfold Part.dueLoaded; dsimp only; split <;> rfl

theorem Part.scaleLoaded_report : p.scaleLoaded.report = p.report := by
  rw [Part.scaleLoaded, Part.evaluateLock_report, Part.dueLoaded_report, Part.progressLoaded_report,
    Part.blowdownLoaded_report, Part.recordLoaded_report]

/-- R160, R180: of the reports the load step starts the timer alone, with the interval as loaded. -/
theorem Part.loadStep_report (flash : List StoredForm) : (p.loadStep flash).report = { p.report with
    timer := if (p.loadStep flash).store.num 19 = 0 then .stopped else .running ((p.loadStep flash).store.num 19) } := by
  have hstarted (q : Part) :
      let t : Part := { q.startReports with mode.startup := .frequency, power.measure := .waiting }
      t.report = { q.report with timer := if t.store.num 19 = 0 then .stopped else .running (t.store.num 19) } := rfl
  have hloaded : (p.itemsLoaded flash).damageQueued.reportDamage.descaleLoaded.scaleLoaded.report = p.report := by
    rw [Part.scaleLoaded_report, Part.descaleLoaded_report, Part.reportDamage_report, Part.damageQueued_report]
    rfl
  rw [Part.loadStep_eq, hstarted, hloaded]

end

/-- Settles O3: the link has its values after reset, and the load step starts the report timer. -/
theorem powerOnResetsLink : Obligations.PowerOnResetsLink := by
  intro s
  have hreport := Part.reset.loadStep_report s.cutWrite.flash
  rw [← State.powerOn_part] at hreport
  have hlink : s.powerOn.link = .reset := rfl
  refine ⟨s.powerOn, exec_powerOnReset s, ?_⟩
  rw [hlink, hreport]
  exact ⟨rfl, rfl, rfl, rfl, rfl, rfl, rfl, rfl, rfl, rfl, rfl, by dsimp only⟩

/-! ### Right after reset (R98, R136, R166, R178) -/

/-- R178: the write queue and the defaults run are empty after reset. -/
theorem Store.reset_ok : Store.reset.Ok where
  distinct := List.nodup_nil
  hosts := Nat.zero_le 5
  writes := by decide
  runApart := nofun
  runItems := nofun
  runDistinct := List.nodup_nil
  full := fun h => absurd rfl h

/-- Settles O60, block by block. -/
theorem invariantsHoldAtReset : Obligations.InvariantsHoldAtReset :=
  ⟨Link.reset_inv, nofun, Store.reset_ok, Part.reset_bounded, rfl⟩

end Sys2Proof.Machine
end

section
/-! SUPPORT. Notices through the requests (R167 to R170): what a request does to the pending and the enable set, and that no
owner but those of NOTICE_GET and NOTICE_ENABLE clears a pending kind or changes the enable set. -/

namespace Sys2Proof.Machine

/-! ### NOTICE_GET and NOTICE_ENABLE (R169, R170; O26) -/

/-- Settles O26: each request is its owner's update of the notice unit, and its reply. -/
theorem noticeRequests : Obligations.NoticeRequests := by
  intro s flags hl u
  refine ⟨fun ha => ?get, fun ha => ?enable⟩
  case get => exact exec_plain (q := .noticeGet flags) (r := s.part.noticeGet flags) hl ha rfl
  case enable => exact exec_plain (q := .noticeEnable flags) (r := s.part.noticeEnable flags) hl ha rfl

/-! ### What may clear a pending kind or change the enable set -/

/-- R167 to R170: from `p` to `q` a pending kind is cleared only by a NOTICE_GET among `given` that names it, and the enable
set is changed only to that of a NOTICE_ENABLE among `given`. -/
structure Part.NoticesBy (given : Request → Prop) (p q : Part) : Prop where
  pending : ∀ i, p.notice.pending.getLsbD i = true →
    q.notice.pending.getLsbD i = true ∨ ∃ clear, given (.noticeGet clear) ∧ clear.getLsbD i = true
  enable : q.notice.enable = p.notice.enable ∨ given (.noticeEnable q.notice.enable)

section
variable {given : Request → Prop} {p q r : Part}

theorem Part.NoticesBy.refl (p : Part) : p.NoticesBy given p := ⟨fun _ => .inl, .inl rfl⟩

theorem Part.NoticesBy.trans (h : p.NoticesBy given q) (k : q.NoticesBy given r) : p.NoticesBy given r := by
  refine ⟨fun i hi => ?pending, ?enable⟩
  case pending => exact (h.pending i hi).elim (k.pending i) .inr
  case enable =>
    obtain hsame | hgiven := k.enable
    · rw [hsame]; exact h.enable
    · exact .inr hgiven

theorem Part.NoticesBy.of_sets (hp : q.notice.pending = p.notice.pending) (he : q.notice.enable = p.notice.enable) :
    p.NoticesBy given q :=
  ⟨fun _ hi => .inl (by rw [hp]; exact hi), .inl he⟩

theorem Part.NoticesBy.of_notice (h : q.notice = p.notice) : p.NoticesBy given q :=
  .of_sets (congrArg _ h) (congrArg _ h)

theorem Part.Persists.noticesBy (h : p.Persists q) : p.NoticesBy given q :=
  ⟨fun i hi => .inl (h.adds.pending i hi), .inl (congrArg HostOwned.enable h.owned)⟩

theorem Part.Keeps.noticesBy (h : p.Keeps q) : p.NoticesBy given q := h.persists.noticesBy

end

/-! ### The owners (R156) -/

section
variable {given : Request → Prop} (p : Part)

theorem Part.acceptItem_noticesBy (item : Nat) (v : ItemValue) : p.NoticesBy given (p.acceptItem item v) := by
  have haccepted : p.NoticesBy given { p with store := p.store.accept item v } := .of_notice rfl
  have htold := Part.scaleTold_keeps item (.refl { p with store := p.store.accept item v })
  unfold Part.acceptItem
  dsimp only
  split
  · exact haccepted.trans (Part.reportIntervalTold_keeps htold).noticesBy
  · exact haccepted.trans htold.noticesBy

theorem Part.settingPut_noticesBy (item : Byte) (v : ValueField) : p.NoticesBy given (p.settingPut item v).1 := by
  unfold Part.settingPut
  dsimp only
  repeat' split
  case h_2.isFalse => exact p.acceptItem_noticesBy _ _
  all_goals exact .refl p

theorem Part.storeDefaults_noticesBy : p.NoticesBy given p.storeDefaults.1 := by
  have hformed : p.NoticesBy given { p with store := p.store.formRun } := .of_notice rfl
  unfold Part.storeDefaults
  split
  · exact .refl p
  · exact hformed.trans (Part.reportIntervalTold_keeps
      (Part.scaleTold_keeps 17 (Part.scaleTold_keeps 13 (.refl _)))).noticesBy

theorem Part.climateSet_noticesBy (b : ClimateBlock) : p.NoticesBy given (p.climateSet b).1 := by
  unfold Part.climateSet
  repeat' split
  · exact .refl p
  · exact .refl p
  · exact (Part.writeClimate_keeps _ (.refl p)).noticesBy

theorem Part.climateOff_noticesBy : p.NoticesBy given p.climateOff.1 := by
  unfold Part.climateOff
  split
  · exact .refl p
  · exact (Part.endCooking_keeps (.refl p)).noticesBy

theorem Part.programClear_noticesBy (endAction : Byte) (setpoint : Half) (moist : Byte) :
    p.NoticesBy given (p.programClear endAction setpoint moist).1 := by
  unfold Part.programClear
  repeat' split
  · exact .refl p
  · exact .of_notice rfl
  · exact .refl p

theorem Part.stageAppend_noticesBy (b : StageBlock) : p.NoticesBy given (p.stageAppend b).1 := by
  unfold Part.stageAppend
  repeat' split
  · exact .refl p
  · exact .refl p
  · exact .refl p
  · exact .of_notice rfl

/-- R122: a start ends a manual climate where its stage prompts first, enters the stage, and pauses in mains loss. -/
theorem Part.startProgram_keeps (index : Nat) : p.Keeps (p.startProgram index) := by
  have hfreed (waits : Bool) : p.Keeps (if waits then p.endCooking else p) := by
    cases waits
    · exact .refl p
    · exact Part.endCooking_keeps (.refl p)
  have hentered {q : Part} (hq : p.Keeps q) : p.Keeps (q.restarted.enterStage index) :=
    Part.enterStage_keeps index (hq.leaf rfl rfl rfl)
  have hrun {q : Part} (hq : p.Keeps q) : p.Keeps (if q.mode.mainsLoss then q.pauseProgram .mains else q) := by
    split
    · exact Part.pauseProgram_keeps _ hq
    · exact hq
  unfold Part.startProgram
  exact hrun (hentered (hfreed _))

theorem Part.programStart_noticesBy (presence index : Byte) :
    p.NoticesBy given (p.programStart presence index).1 := by
  unfold Part.programStart
  dsimp only
  split
  · exact .refl p
  · split
    · exact .refl p
    · exact (p.startProgram_keeps _).noticesBy

theorem Part.programPause_noticesBy : p.NoticesBy given p.programPause.1 := by
  have hoff : p.Keeps p.forcedOff := Part.forcedOff_keeps (.refl p)
  have hpaused : p.Keeps (p.forcedOff.pauseProgram .host) := Part.pauseProgram_keeps _ hoff
  have hreason : p.Keeps { p.forcedOff with program.reason := some .host } := hoff.leaf rfl rfl rfl
  unfold Part.programPause
  split
  case h_1 => exact hpaused.noticesBy
  case h_2 => exact hpaused.noticesBy
  case h_3 => exact hreason.noticesBy
  all_goals exact .refl p

theorem Part.resumeRequest_noticesBy : p.NoticesBy given p.resumeRequest.1 := by
  unfold Part.resumeRequest
  split
  · exact (Part.programResume_keeps (.refl p)).noticesBy
  · exact .refl p

theorem Part.abortRequest_noticesBy : p.NoticesBy given p.abortRequest.1 := by
  unfold Part.abortRequest
  split
  · exact (Part.abortProgram_keeps (.refl p)).noticesBy
  · exact .refl p

theorem Part.confirmPrompt_keeps (st : Stage) : p.Keeps (p.confirmPrompt st) := by
  have hcounting : p.Keeps { p with program.step := .counting } := (Part.Keeps.refl p).leaf rfl rfl rfl
  unfold Part.confirmPrompt
  split
  · exact Part.beginStage_keeps st (.refl p)
  · exact Part.returnRunning_keeps hcounting
  · exact .refl p
  · exact Part.boundary_keeps (.refl p)

theorem Part.stageConfirm_noticesBy : p.NoticesBy given p.stageConfirm.1 := by
  have hreturned : p.Keeps p.returnRunning := Part.returnRunning_keeps (.refl p)
  unfold Part.stageConfirm
  split
  case h_1 =>
    split
    · exact .refl p
    · exact (p.confirmPrompt_keeps _).noticesBy
  case h_2 =>
    split
    · exact hreturned.noticesBy
    · exact .refl p
  case h_3 =>
    repeat' split
    · exact .refl p
    · exact .refl p
    · exact hreturned.noticesBy
  case h_4 =>
    split
    · exact (Part.finishStage_keeps _ (.refl p)).noticesBy
    · exact .refl p
  case h_5 => exact .refl p

theorem Part.stageSkip_noticesBy : p.NoticesBy given p.stageSkip.1 := by
  unfold Part.stageSkip
  split
  · exact (Part.boundary_keeps (.refl p)).noticesBy
  · exact .refl p

theorem Part.boilerDrain_noticesBy : p.NoticesBy given p.boilerDrain.1 := by
  unfold Part.boilerDrain
  split
  · exact .refl p
  · split
    case h_2 => exact (Part.startDrain_keeps _ _ (.refl p)).noticesBy
    all_goals exact .refl p

theorem Part.beginDescale_keeps (minutes : Nat) : p.Keeps (p.beginDescale minutes) := by
  have hset : p.Keeps { p with descale.soakMinutes := minutes, descale.record.rinses := 0 } :=
    (Part.Keeps.refl p).leaf rfl rfl rfl
  exact Part.raiseNotice_keeps _ (Part.descalePhase_keeps _ _ hset)

theorem Part.descaleStart_noticesBy (presence minutes : Byte) :
    p.NoticesBy given (p.descaleStart presence minutes).1 := by
  unfold Part.descaleStart
  split
  · exact .refl p
  · split
    · exact .refl p
    · split
      · exact .refl p
      · exact (p.beginDescale_keeps _).noticesBy

theorem Part.descaleConfirm_noticesBy : p.NoticesBy given p.descaleConfirm.1 := by
  have howned : p.Keeps { p with boiler.owner := .descale } := (Part.Keeps.refl p).leaf rfl rfl rfl
  have hrinse : p.Keeps { p.descalePhase .rinse none with descale.rinseStep := some .fill } :=
    (Part.descalePhase_keeps .rinse none (.refl p)).leaf rfl rfl rfl
  unfold Part.descaleConfirm
  repeat' split
  · exact .refl p
  · exact (Part.enterDrainFirst_keeps howned).noticesBy
  · exact (Part.enterDose_keeps (.refl p)).noticesBy
  · exact (Part.directFill_keeps _ hrinse).noticesBy
  · exact .refl p

theorem Part.abortDescale_noticesBy : p.NoticesBy given p.abortDescale.1 := by
  unfold Part.abortDescale
  dsimp only
  split
  · exact (Part.descaleAbort_keeps (.refl p)).noticesBy
  · exact .refl p

theorem Part.holdEnter_noticesBy (setpoint : Half) (moist : Byte) :
    p.NoticesBy given (p.holdEnter setpoint moist).1 := by
  unfold Part.holdEnter
  repeat' split
  · exact .refl p
  · exact .refl p
  · exact (Part.enterHold_keeps _ _ (.refl p)).noticesBy

theorem Part.holdExit_noticesBy (abandon : Byte) : p.NoticesBy given (p.holdExit abandon).1 := by
  have hended : p.Keeps p.endHold := Part.endHold_keeps (.refl p)
  unfold Part.holdExit
  repeat' split
  · exact .refl p
  · exact (Part.endRefill_keeps (Part.endHold_keeps (Part.abandonBlowdown_keeps (.refl p)))).noticesBy
  · exact (Part.refillRunsOn_keeps hended).noticesBy
  · exact hended.noticesBy
  · exact .refl p

theorem Part.standbyEnter_noticesBy : p.NoticesBy given p.standbyEnter.1 := by
  unfold Part.standbyEnter
  split
  · exact .refl p
  · exact (Part.setMode_keeps .standbyPending (.refl p)).noticesBy

theorem Part.stopBoiler_keeps {p q : Part} (h : p.Keeps q) : p.Keeps q.stopBoiler := by
  unfold Part.stopBoiler
  split
  · exact h
  · exact Part.boilerStop_keeps h

theorem Part.stopped_keeps : p.Keeps p.stopped := by
  have h := Part.Keeps.refl p
  unfold Part.stopped
  split
  · dsimp only
    split
    · exact Part.stopBoiler_keeps (Part.descaleStop_keeps (Part.abortProgram_keeps h))
    · exact Part.stopBoiler_keeps (Part.descaleStop_keeps (Part.endCooking_keeps h))
  · exact Part.stopBoiler_keeps (Part.endHold_keeps h)
  · exact Part.stopBoiler_keeps (Part.setMode_keeps _ h)
  · exact Part.stopBoiler_keeps (Part.descaleStop_keeps h)
  · exact h
  · exact h

theorem Part.faultClear_noticesBy (kind : Byte) : p.NoticesBy given (p.faultClear kind).1 := by
  unfold Part.faultClear
  repeat' split
  · exact .refl p
  · exact .refl p
  · exact .refl p
  · exact (Part.clearFault_persists _ (.refl p)).noticesBy

theorem Part.configureNode_noticesBy (a : Nat) (masked : Bool) (f : Selector) (watch : Byte) (threshold : Nat) :
    p.NoticesBy given (p.configureNode a masked f watch threshold) := by
  have hring (x : Ring) : p.NoticesBy given { p with ring := x } := .of_notice rfl
  exact (hring _).trans (Part.linkTold_persists p.ring (p.ring.entry a).kind false (.refl _)).noticesBy

theorem Part.nodeSet_noticesBy (address masked selector watch : Byte) (threshold : Half) :
    p.NoticesBy given (p.nodeSet address masked selector watch threshold).1 := by
  unfold Part.nodeSet
  dsimp only
  repeat' split
  · exact .refl p
  · exact .refl p
  · exact p.configureNode_noticesBy _ _ _ _ _
  · exact .refl p

theorem Part.counterGet_noticesBy (zero : Byte) : p.NoticesBy given (p.counterGet zero).1 := by
  unfold Part.counterGet
  split
  · exact .refl p
  · exact .of_notice (by dsimp only; split <;> rfl)

theorem Part.captureArm_noticesBy (trigger : Half) (style : Byte) :
    p.NoticesBy given (p.captureArm trigger style).1 := by
  unfold Part.captureArm
  repeat' split
  · exact .refl p
  · exact .of_notice rfl
  · exact .refl p

theorem Part.captureRelease_noticesBy (disarm : Byte) : p.NoticesBy given (p.captureRelease disarm).1 := by
  unfold Part.captureRelease
  split
  · exact .refl p
  · exact .of_notice rfl

/-- R169: NOTICE_GET clears the kinds that it names. -/
theorem Part.noticeGet_noticesBy {clear : Half} (h : given (.noticeGet clear)) :
    p.NoticesBy given (p.noticeGet clear).1 := by
  refine ⟨fun i hi => ?_, .inl rfl⟩
  cases hnamed : clear.getLsbD i with
  | true => exact .inr ⟨clear, h, hnamed⟩
  | false =>
    have hleft : (p.notice.pending &&& ~~~clear).getLsbD i = true := by
      rw [BitVec.getLsbD_and, BitVec.getLsbD_not, hi, hnamed, decide_eq_true (BitVec.lt_of_getLsbD hi)]
      rfl
    exact .inl hleft

/-- R170: NOTICE_ENABLE replaces the enable set. -/
theorem Part.noticeEnable_noticesBy {enable : Half} (h : given (.noticeEnable enable)) :
    p.NoticesBy given (p.noticeEnable enable).1 :=
  ⟨fun _ => .inl, .inr h⟩

end

end Sys2Proof.Machine
end

section
/-! SUPPORT. The notice sets through every command (R155, R156, R167 to R170; O28). -/

namespace Sys2Proof.Machine

section
variable {given : Request → Prop} (s : State)

/-! ### Through the blocks -/

theorem State.onBlocks_noticesBy {f : Part → Part} (h : s.part.NoticesBy given (f s.part)) :
    s.part.NoticesBy given (s.onBlocks f).part := by
  have hsettled : (f s.part).Keeps (f s.part).settle := Part.settle_keeps (.refl _)
  have hquiet (q : Part) (wait : Bool) : q.NoticesBy given (q.quietReports wait) := by
    cases wait <;> exact .of_notice rfl
  rw [State.onBlocks_part]
  exact (h.trans (Part.advance_persists 3 hsettled.persists).noticesBy).trans (hquiet _ _)

theorem State.onBlocks_noticesBy_of_persists {f : Part → Part} (h : s.part.Persists (f s.part)) :
    s.part.NoticesBy given (s.onBlocks f).part := s.onBlocks_noticesBy h.noticesBy

theorem State.woken_noticesBy : s.part.NoticesBy given s.woken.part := by
  unfold State.woken
  split
  · exact s.onBlocks_noticesBy_of_persists (Part.wake_persists (.refl _))
  · exact .refl _

/-! ### Requests (R155, R156) -/

theorem State.acting_noticesBy {r : Part × Reply} (h : s.part.NoticesBy given r.1) :
    s.part.NoticesBy given (s.acting r).1.part := by
  unfold State.acting
  split
  · exact s.onBlocks_noticesBy (f := fun _ => r.1) h
  · exact .refl _

/-- R156: the owner of a request clears pending kinds and changes the enable set as that request alone says. -/
theorem State.serve_noticesBy {q : Request} (hq : given q) : s.part.NoticesBy given (s.serve q).1.part := by
  cases q with
  | settingPut item v => exact s.acting_noticesBy (s.part.settingPut_noticesBy item v)
  | storeDefaults => exact s.acting_noticesBy s.part.storeDefaults_noticesBy
  | climateSet b => exact s.acting_noticesBy (s.part.climateSet_noticesBy b)
  | climateOff => exact s.acting_noticesBy s.part.climateOff_noticesBy
  | programClear e t m => exact s.part.programClear_noticesBy e t m
  | stageAppend b => exact s.part.stageAppend_noticesBy b
  | programStart g i => exact s.acting_noticesBy (s.part.programStart_noticesBy g i)
  | programPause => exact s.acting_noticesBy s.part.programPause_noticesBy
  | programResume => exact s.acting_noticesBy s.part.resumeRequest_noticesBy
  | programAbort => exact s.acting_noticesBy s.part.abortRequest_noticesBy
  | stageConfirm => exact s.acting_noticesBy s.part.stageConfirm_noticesBy
  | stageSkip => exact s.acting_noticesBy s.part.stageSkip_noticesBy
  | boilerDrain => exact s.acting_noticesBy s.part.boilerDrain_noticesBy
  | descaleStart g m => exact s.acting_noticesBy (s.part.descaleStart_noticesBy g m)
  | descaleConfirm => exact s.acting_noticesBy s.part.descaleConfirm_noticesBy
  | descaleAbort => exact s.acting_noticesBy s.part.abortDescale_noticesBy
  | holdEnter t m => exact s.acting_noticesBy (s.part.holdEnter_noticesBy t m)
  | holdExit a => exact s.acting_noticesBy (s.part.holdExit_noticesBy a)
  | standbyEnter => exact s.acting_noticesBy s.part.standbyEnter_noticesBy
  | stop => exact s.acting_noticesBy s.part.stopped_keeps.noticesBy
  | faultClear k => exact s.acting_noticesBy (s.part.faultClear_noticesBy k)
  | nodeSet a m f w t => exact s.acting_noticesBy (s.part.nodeSet_noticesBy a m f w t)
  | counterGet z => exact s.part.counterGet_noticesBy z
  | captureArm t c => exact s.part.captureArm_noticesBy t c
  | captureRelease d => exact s.part.captureRelease_noticesBy d
  | noticeGet clear => exact s.part.noticeGet_noticesBy hq
  | noticeEnable enable => exact s.part.noticeEnable_noticesBy hq
  | settingGet i => exact .of_notice (by unfold State.serve State.plain Part.settingGet; dsimp only; split <;> rfl)
  | stageGet i => exact .of_notice (by unfold State.serve State.plain Part.stageGet; dsimp only; split <;> rfl)
  | nodeGet a => exact .of_notice (by unfold State.serve State.plain Part.nodeGet; dsimp only; split <;> rfl)
  | ping | reset | statusGet | linkStats | scaleGet | descaleGet | faultGet | captureGet => exact .refl _

theorem State.answer_noticesBy {f : Frame} (hf : ∀ q, decodeRequest f = some q → given q) :
    s.part.NoticesBy given (s.answer f).1.part := by
  unfold State.answer
  split
  · exact .refl _
  · next k hk =>
    repeat' split
    · exact .refl _
    · exact .refl _
    · next q hq => exact s.serve_noticesBy (hf q (by simp only [decodeRequest, hk, hq]))
    · exact .refl _

/-- R139, R156: a frame that is taken acts as the request that it spells. -/
theorem State.handle_noticesBy {f : Frame} (hf : ∀ q, decodeRequest f = some q → given q) (rest : List Frame) :
    s.part.NoticesBy given (s.handle f rest).part := by
  have hawake : s.part.NoticesBy given (s.judging f rest).part :=
    State.woken_noticesBy { s with link.inHand := some f, link.queue := rest }
  rw [State.handle_eq]
  exact hawake.trans ((s.judging f rest).answer_noticesBy hf)

theorem State.offer_noticesBy (f : Frame) : s.part.NoticesBy given (s.offer f).part := by
  unfold State.offer
  split
  · exact State.woken_noticesBy { s with link.queue := s.link.queue ++ [f] }
  · exact .refl _

/-- Log entry 7: a request given directly acts as itself or waits. -/
theorem State.submit_noticesBy {q : Request} (hq : given q) : s.part.NoticesBy given (s.submit q).part := by
  have hspelt (r : Request) (hr : decodeRequest (encodeRequest q) = some r) : given r := by
    obtain ⟨hround, -, -⟩ := requestRoundTrip
    obtain rfl : q = r := Option.some_inj.1 ((hround q).2.symm.trans hr)
    exact hq
  unfold State.submit
  repeat' split
  · exact .refl _
  · exact s.handle_noticesBy hspelt _
  · exact s.offer_noticesBy _

/-- R156: the frame taken is the head of the receive queue. -/
theorem State.take_noticesBy (hhead : ∀ q rest, s.link.queue = encodeRequest q :: rest → given q) :
    s.part.NoticesBy given s.take.part := by
  unfold State.take
  split
  · exact .refl _
  · next f rest hqueue =>
    split
    · exact s.handle_noticesBy (fun q hq => hhead q rest (by rw [encodeRequest_of_decode hq, hqueue])) rest
    · exact .refl _

/-! ### The receiver and the transmitter (R153, R154, R159, R160) -/

theorem State.judgeFrame_noticesBy (got : List Byte) : s.part.NoticesBy given (s.judgeFrame got).part := by
  unfold State.judgeFrame
  dsimp only
  repeat' split
  · exact s.offer_noticesBy _
  · exact .refl _
  · exact .refl _

theorem State.assemble_noticesBy (got : List Byte) (b : Byte) : s.part.NoticesBy given (s.assemble got b).part := by
  unfold State.assemble
  repeat' split
  · exact .refl _
  · exact State.judgeFrame_noticesBy { s with link.receiver := .hunt } _
  · exact .refl _

theorem State.receive_noticesBy (b : Byte) (stopGood : Bool) : s.part.NoticesBy given (s.receive b stopGood).part := by
  unfold State.receive
  repeat' split
  case h_2.isTrue => exact s.assemble_noticesBy _ b
  all_goals exact .refl _

theorem State.receiveGap_part : s.receiveGap.part = s.part := by
  unfold State.receiveGap; split <;> rfl

theorem NoticeUnit.replyEnd_sets (u : NoticeUnit) : u.replyEnd.pending = u.pending ∧ u.replyEnd.enable = u.enable := by
  unfold NoticeUnit.replyEnd; split <;> exact ⟨rfl, rfl⟩

theorem State.transmitterFree_notice : s.transmitterFree.part.notice = s.part.notice := by
  unfold State.transmitterFree; split <;> rfl

/-- R169: the end of a NOTICE_GET's reply is the re-assertion's alone. -/
theorem State.replyEnd_notice : s.replyEnd.part.notice = s.part.notice.replyEnd := by
  unfold State.replyEnd
  dsimp only
  split
  · rfl
  · exact State.transmitterFree_notice _

theorem State.transmitEnd_noticesBy : s.part.NoticesBy given s.transmitEnd.part := by
  unfold State.transmitEnd
  split
  case h_1 => exact .refl _
  case h_2 =>
    obtain ⟨hpending, henable⟩ := s.part.notice.replyEnd_sets
    rw [← s.replyEnd_notice] at hpending henable
    exact .of_sets hpending henable
  case h_3 =>
    unfold State.reportEnd
    split
    · exact .refl _
    · exact .of_notice s.transmitterFree_notice

theorem State.reportExpiry_notice : s.reportExpiry.part.notice = s.part.notice := by
  unfold State.reportExpiry
  dsimp only
  repeat' split
  all_goals rfl

/-! ### Stored items and crossings (R178; log entry 9) -/

theorem State.writeComplete_noticesBy : s.part.NoticesBy given s.writeComplete.part := by
  unfold State.writeComplete
  split
  · next v e _ _ _ => exact State.onBlocks_noticesBy { s with flash := setAt s.flash e.item _ } (.of_notice rfl)
  · exact .refl _

theorem State.zeroCrossing_noticesBy (gap : Nat) :
    s.part.NoticesBy given (s.onBlocks (fun p => p.zeroCrossing gap)).part :=
  s.onBlocks_noticesBy_of_persists (f := fun p => p.zeroCrossing gap) (Part.zeroCrossing_persists gap (.refl _))

theorem State.crossingWhere_noticesBy (closes : Bool) (gap : Nat) :
    s.part.NoticesBy given (if closes then s.onBlocks (fun p => p.zeroCrossing gap) else s).part := by
  split
  · exact s.zeroCrossing_noticesBy gap
  · exact .refl _

end

/-! ### Every command -/

/-- The request `q` reaches its owner by the command `c`: given directly, or as the head of the receive queue. -/
def State.Given (s : State) (c : Instr) (q : Request) : Prop :=
  c = q.command ∨ (c = .requestTake ∧ ∃ rest, s.link.queue = encodeRequest q :: rest)

/-- R167 to R170: the two resets apart, a command does to the notice sets only what the requests given by it say. -/
theorem exec_noticesBy {c : Instr} {s t : State} (he : exec c s = .next t) (hpower : c ≠ .powerOnReset)
    (hwait : c ≠ .resetWaitEnd) : s.part.NoticesBy (s.Given c) t.part := by
  have r := Part.Persists.refl s.part
  cases c with
  | powerOnReset => contradiction
  | resetWaitEnd => contradiction
  | rxByte b stopGood => cases he; exact s.receive_noticesBy b stopGood
  | rxGapTimeout => cases he; exact .of_notice (congrArg _ s.receiveGap_part)
  | requestTake => cases he; exact s.take_noticesBy fun q rest hqueue => .inr ⟨rfl, rest, hqueue⟩
  | transmitEnd => cases he; exact s.transmitEnd_noticesBy
  | reportTimerExpiry => cases he; exact .of_notice s.reportExpiry_notice
  | attnReassertEnd => cases he; exact .of_sets rfl rfl
  | zeroCrossing gap => cases he; exact s.zeroCrossing_noticesBy gap
  | windowBoundary gap => cases he; exact s.crossingWhere_noticesBy _ gap
  | frequencyMeasured gap => cases he; exact s.crossingWhere_noticesBy _ gap
  | mainsReturn gap => cases he; exact s.crossingWhere_noticesBy _ gap
  | freqMeasureTimeout => cases he; exact s.onBlocks_noticesBy_of_persists (Part.measureTimeout_persists r)
  | mainsLossOnset => cases he; exact s.onBlocks_noticesBy_of_persists (Part.crossingsStop_persists r)
  | flowPulse => cases he; exact (Part.flowPulse_persists r).noticesBy
  | tachPulse => cases he; exact (Part.tachPulse_persists r).noticesBy
  | climatePeriodExpiry => cases he; exact s.onBlocks_noticesBy_of_persists (Part.climateExpiry_persists r)
  | pulseTimerTick => cases he; exact s.onBlocks_noticesBy (Part.pulseTick_keeps (.refl _)).noticesBy
  | ventDriveTimeout => cases he; exact (Part.ventTimeout_persists r).noticesBy
  | scanTimerExpiry => cases he; exact s.onBlocks_noticesBy_of_persists (Part.scanTimer_persists r)
  | nodeReply x =>
    cases he
    exact s.onBlocks_noticesBy_of_persists (f := fun p => p.nodeReply x) (Part.nodeReply_persists x r)
  | replyWindowExpiry => cases he; exact s.onBlocks_noticesBy_of_persists (Part.replyMissing_persists r)
  | fillTimeout => cases he; exact s.onBlocks_noticesBy_of_persists (Part.fillTimeout_persists r)
  | drainTimerExpiry => cases he; exact s.onBlocks_noticesBy_of_persists (Part.drainTimeout_persists r)
  | runOnExpiry => cases he; exact s.onBlocks_noticesBy_of_persists (Part.runOnDone_persists r)
  | coolWaitExpiry => cases he; exact s.onBlocks_noticesBy_of_persists (Part.coolWaitDone_persists r)
  | idleDrainExpiry => cases he; exact s.onBlocks_noticesBy_of_persists (Part.idleDrain_persists r)
  | levelDelayExpiry => cases he; exact s.onBlocks_noticesBy_of_persists (Part.levelDelayDone_persists r)
  | lullTimerExpiry => cases he; exact s.onBlocks_noticesBy_of_persists (Part.lullReached_persists r)
  | soakTimerExpiry => cases he; exact s.onBlocks_noticesBy (Part.soakDone_keeps (.refl _)).noticesBy
  | stageTimerTick => cases he; exact s.onBlocks_noticesBy_of_persists (Part.stageSecond_persists r)
  | holdTimerExpiry => cases he; exact s.onBlocks_noticesBy_of_persists (Part.holdExpiry_persists r)
  | storeWriteComplete => cases he; exact s.writeComplete_noticesBy
  | _ => cases he; exact s.submit_noticesBy (.inl rfl)

/-- Settles O28, by what each command may do to the sets. -/
theorem onlyNoticeRequestsChangeTheSets : Obligations.OnlyNoticeRequestsChangeTheSets := by
  intro c s t he given
  by_cases hpower : c = .powerOnReset
  · exact ⟨fun _ _ _ => .inl hpower, fun _ => .inl hpower⟩
  by_cases hwait : c = .resetWaitEnd
  · exact ⟨fun _ _ _ => .inr (.inl hwait), fun _ => .inr (.inl hwait)⟩
  have hsets : s.part.NoticesBy given t.part := exec_noticesBy he hpower hwait
  refine ⟨fun i hi hcleared => .inr (.inr ?cleared), fun hchanged => .inr (.inr ?changed)⟩
  case cleared => exact (hsets.pending i hi).resolve_left (by simp [hcleared])
  case changed => exact hsets.enable.resolve_left hchanged

end Sys2Proof.Machine
end

section
/-! SUPPORT. The write queue and the defaults run (R177 to R179): entries that join, values that are replaced and a write that
completes, each with what it leaves of the served values and of the store's invariant. -/

namespace Sys2Proof.Machine

/-! ### Entries and items -/

theorem Store.entry_eq_none_iff (t : Store) (i : Nat) : t.entry i = none ↔ i ∉ t.queue.map QueueEntry.item := by
  refine ⟨Store.entry_none, fun h => List.find?_eq_none.2 fun e he => ?_⟩
  have hne : e.item ≠ i := fun hei => h (hei ▸ List.mem_map_of_mem he)
  simpa using hne

/-- R178: an item that its owner does not write itself. -/
def hostItem (item : Nat) : Bool := decide (item ≠ 14 ∧ item ≠ 15 ∧ item ≠ 16)

/-- The entries that `Store.Ok` bounds, counted by their items. -/
theorem hosts_eq_items (q : List QueueEntry) : (q.filter (fun e => e.item ≠ 14 ∧ e.item ≠ 15 ∧ e.item ≠ 16)).length =
    ((q.map QueueEntry.item).filter hostItem).length := by
  rw [List.filter_map, List.length_map]
  rfl

/-! ### Served values (R175) -/

section
variable {t u : Store} {i : Nat}

theorem Store.served_of_entry {e : QueueEntry} (h : t.entry i = some e) : t.served i = e.value := by rw [Store.served, h]

theorem Store.served_of_run (he : t.entry i = none) (hr : i ∈ t.run) : t.served i = defaultValue i := by
  rw [Store.served, he]
  exact if_pos hr

theorem Store.served_of_base (he : t.entry i = none) (hr : i ∉ t.run) : t.served i = getAt (.number 0) t.base i := by
  rw [Store.served, he]
  exact if_neg hr

/-- The served value rests on the item's entry, on its place in the run and on its base value. -/
theorem Store.served_congr (he : u.entry i = t.entry i) (hr : i ∈ u.run ↔ i ∈ t.run)
    (hb : getAt (.number 0) u.base i = getAt (.number 0) t.base i) : u.served i = t.served i := by
  rw [Store.served, Store.served, he]
  cases t.entry i with
  | some e => rfl
  | none => exact if_congr hr rfl hb

end

/-! ### Entries that join, and replaced values (R177) -/

section
variable (t : Store) (i j : Nat) (v : ItemValue)

/-- R177, R179: an entry joins the tail of the queue, and `run` is what is then left of the defaults run. -/
def Store.joins (run : List Nat) : Store := { t with queue := t.queue ++ [⟨i, v⟩], run := run }

@[simp] theorem Store.joins_run (run : List Nat) : (t.joins i v run).run = run := rfl
@[simp] theorem Store.joins_length (run : List Nat) : (t.joins i v run).queue.length = t.queue.length + 1 := by
  simp [Store.joins]
@[simp] theorem Store.joins_items (run : List Nat) :
    (t.joins i v run).queue.map QueueEntry.item = t.queue.map QueueEntry.item ++ [i] := by simp [Store.joins]

theorem Store.joins_entry (run : List Nat) : (t.joins i v run).entry j =
    (t.entry j).or (if i = j then some ⟨i, v⟩ else none) := by
  by_cases h : i = j <;> simp [Store.joins, Store.entry, List.find?_append, h]

/-- R179: a move from the run to the queue changes no served value. -/
theorem Store.joins_served_of_run {rest : List Nat} (h : t.run = i :: rest) :
    (t.joins i (defaultValue i) rest).served j = t.served j := by
  have hentry := t.joins_entry i j (defaultValue i) rest
  by_cases hij : i = j
  · subst hij
    have hrun : i ∈ t.run := h ▸ List.mem_cons_self
    cases he : t.entry i with
    | some e => rw [Store.served_of_entry he, Store.served_of_entry (hentry.trans (by rw [he]; rfl))]
    | none => rw [Store.served_of_run he hrun, Store.served_of_entry (hentry.trans (by rw [he, if_pos rfl]; rfl))]
  · refine Store.served_congr (by rw [hentry, if_neg hij, Option.or_none]) ?_ rfl
    rw [Store.joins_run, h, List.mem_cons, or_iff_right (Ne.symm hij)]

theorem Store.replace_entry_self (h : (t.entry i).isSome) : (t.replace i v).entry i = some ⟨i, v⟩ := by
  obtain ⟨e, he⟩ := Option.isSome_iff_exists.1 h
  have henqueue := t.enqueue_entry_self i v
  rwa [Store.enqueue, he] at henqueue

/-- R177: an accepted value replaces the one queued, or joins the tail of the queue. -/
theorem Store.accept_queued (h : (t.entry i).isSome) :
    t.accept i v = { t.replace i v with run := t.run.filter (· ≠ i) } := by
  obtain ⟨e, he⟩ := Option.isSome_iff_exists.1 h
  rw [Store.accept, Store.enqueue, he]

theorem Store.accept_joins (h : t.entry i = none) :
    t.accept i v = (t.joins i v (t.run.filter (· ≠ i))).startWrite := by
  simp only [Store.accept, Store.enqueue, h, Store.startWrite, Store.joins]
  cases t.writing with
  | some w => rfl
  | none => cases t.queue <;> rfl

/-- R175, R177: the accepted value is served. -/
theorem Store.accept_served_self : (t.accept i v).served i = v := by
  have hentry : (t.accept i v).entry i = some ⟨i, v⟩ := t.enqueue_entry_self i v
  exact Store.served_of_entry hentry

/-- R177: the other items are served as before. -/
theorem Store.accept_served_ne (h : j ≠ i) : (t.accept i v).served j = t.served j := by
  have hentry : (t.accept i v).entry j = t.entry j := t.enqueue_entry_ne i j v h
  have hrun : j ∈ (t.accept i v).run ↔ j ∈ t.run := by simp [Store.accept, h]
  have hbase : (t.accept i v).base = t.base := t.enqueue_base i v
  exact Store.served_congr hentry hrun (by rw [hbase])

end

/-! ### The run feeds the queue (R179) -/

/-- What every move from the run to the queue keeps, feeding keeps. -/
theorem Store.feed_induction {P : Store → Prop} (hmove : ∀ (t : Store) (i : Nat) (rest : List Nat), P t →
    t.run = i :: rest → t.queue.length < 5 → P (t.joins i (defaultValue i) rest)) (n : Nat) : ∀ {t : Store}, P t → P (Store.feed n t) := by
  induction n with
  | zero => exact id
  | succ n ih =>
    intro t ht
    unfold Store.feed
    split
    · exact ht
    · next i rest hrun =>
      split
      · next hroom => exact ih (hmove t i rest ht hrun hroom)
      · exact ht

@[simp] theorem Store.feed_base (n : Nat) (t : Store) : (Store.feed n t).base = t.base :=
  Store.feed_induction (P := fun u => u.base = t.base) (fun _ _ _ h _ _ => h) n rfl
@[simp] theorem Store.feed_defaulted (n : Nat) (t : Store) : (Store.feed n t).defaulted = t.defaulted :=
  Store.feed_induction (P := fun u => u.defaulted = t.defaulted) (fun _ _ _ h _ _ => h) n rfl
@[simp] theorem Store.feed_served (n : Nat) (t : Store) (j : Nat) : (Store.feed n t).served j = t.served j :=
  Store.feed_induction (P := fun u => u.served j = t.served j)
    (fun u i _ h hrun _ => (u.joins_served_of_run i j hrun).trans h) n rfl

/-- R179: enough moves leave five entries queued where the run has items left. -/
theorem Store.feed_full (n : Nat) : ∀ {t : Store}, 5 ≤ t.queue.length + n → (Store.feed n t).run ≠ [] →
    5 ≤ (Store.feed n t).queue.length := by
  induction n with
  | zero => exact fun h _ => h
  | succ n ih =>
    intro t h
    unfold Store.feed
    split
    · next hrun => exact fun hne => absurd hrun hne
    · next i rest _ =>
      split
      · exact ih (t := t.joins i (defaultValue i) rest) (by rw [Store.joins_length]; omega)
      · exact fun _ => by omega

/-! ### The store while the queue changes (R178, R179) -/

/-- `Store.Ok` as it holds between the steps of one change, before the run has fed the queue and the next write has begun. -/
structure Store.Sound (t : Store) : Prop where
  distinct : (t.queue.map QueueEntry.item).Nodup
  hosts : ((t.queue.map QueueEntry.item).filter hostItem).length ≤ 5
  writing : t.writing.isSome → t.queue ≠ []
  runApart : ∀ i ∈ t.run, i ∉ t.queue.map QueueEntry.item
  runItems : ∀ i ∈ t.run, i ∈ Sys2Proof.Machine.runItems
  runDistinct : t.run.Nodup

section
variable {t : Store} {i : Nat} {v : ItemValue}

theorem Store.Ok.sound (h : t.Ok) : t.Sound where
  distinct := h.distinct
  hosts := hosts_eq_items t.queue ▸ h.hosts
  writing := h.writes.2
  runApart j hj := Store.entry_none (h.runApart j hj)
  runItems := h.runItems
  runDistinct := h.runDistinct

theorem Store.Sound.ok (h : t.Sound) (hw : t.queue ≠ [] → t.writing.isSome) (hf : t.run ≠ [] → 5 ≤ t.queue.length) :
    t.Ok where
  distinct := h.distinct
  hosts := (hosts_eq_items t.queue).symm ▸ h.hosts
  writes := ⟨hw, h.writing⟩
  runApart j hj := (t.entry_eq_none_iff j).2 (h.runApart j hj)
  runItems := h.runItems
  runDistinct := h.runDistinct
  full := hf

/-- R178: the head's write begins. -/
theorem Store.Sound.startWrite (h : t.Sound) (hf : t.run ≠ [] → 5 ≤ t.queue.length) : t.startWrite.Ok := by
  have hbegins : t.queue ≠ [] → t.startWrite.writing.isSome := by
    unfold Store.startWrite
    split
    · exact fun _ => rfl
    · next hother =>
      intro hq
      obtain ⟨e, rest, hq⟩ := List.exists_cons_of_ne_nil hq
      cases hw : t.writing with
      | some w => rfl
      | none => exact (hother e rest hw hq).elim
  refine Store.Sound.ok ⟨?_, ?_, ?_, ?_, ?_, ?_⟩ ?_ ?_ <;>
    simp only [Store.startWrite_queue, Store.startWrite_run]
  · exact h.distinct
  · exact h.hosts
  · intro hw hq
    have hsame : t.startWrite = t := by simp [Store.startWrite, hq]
    exact h.writing (hsame ▸ hw) hq
  · exact h.runApart
  · exact h.runItems
  · exact h.runDistinct
  · exact hbegins
  · exact hf

theorem Store.Sound.replace (h : t.Sound) (i : Nat) (v : ItemValue) : (t.replace i v).Sound where
  distinct := by rw [Store.replace_items]; exact h.distinct
  hosts := by rw [Store.replace_items]; exact h.hosts
  writing hw := by rw [← List.length_pos_iff, Store.replace_length, List.length_pos_iff]; exact h.writing hw
  runApart := by rw [Store.replace_items]; exact h.runApart
  runItems := h.runItems
  runDistinct := h.runDistinct

/-- R177: items leave the run. -/
theorem Store.Sound.runLeft (h : t.Sound) {run : List Nat} (hr : run.Sublist t.run) : Store.Sound { t with run := run } :=
  { h with
    runApart := fun j hj => h.runApart j (hr.subset hj)
    runItems := fun j hj => h.runItems j (hr.subset hj)
    runDistinct := h.runDistinct.sublist hr }

/-- R177, R179: an item with no entry joins a queue of fewer than five. -/
theorem Store.Sound.joins (h : t.Sound) (hi : i ∉ t.queue.map QueueEntry.item) (hroom : t.queue.length < 5) {run : List Nat}
    (hr : run.Sublist t.run) (hir : i ∉ run) : (t.joins i v run).Sound where
  distinct := by
    rw [Store.joins_items, ← List.concat_eq_append]
    exact h.distinct.concat hi
  hosts := by
    have hlen := List.length_filter_le hostItem ((t.joins i v run).queue.map QueueEntry.item)
    rw [List.length_map, Store.joins_length] at hlen
    omega
  writing _ := by simp [Store.joins]
  runApart j hj := by
    rw [Store.joins_items, List.mem_append, List.mem_singleton]
    exact not_or.2 ⟨h.runApart j (hr.subset hj), fun hji => hir (hji ▸ hj)⟩
  runItems j hj := h.runItems j (hr.subset hj)
  runDistinct := h.runDistinct.sublist hr

theorem Store.Sound.feed (h : t.Sound) (n : Nat) : (Store.feed n t).Sound := by
  refine Store.feed_induction (P := Store.Sound) (fun u i rest hu hrun hroom => ?_) n h
  have hi : i ∈ u.run := hrun ▸ List.mem_cons_self
  have hrest : rest.Sublist u.run := hrun ▸ List.sublist_cons_self i rest
  have hapart : i ∉ rest := (List.nodup_cons.1 (hrun ▸ hu.runDistinct)).1
  exact hu.joins (hu.runApart i hi) hroom hrest hapart

/-- R178, R179: the run feeds the queue and the next write begins. -/
theorem Store.Sound.fed (h : t.Sound) : (Store.feed 5 t).startWrite.Ok :=
  (h.feed 5).startWrite (Store.feed_full 5 (Nat.le_add_left 5 _))

/-! ### Accepted values (R177) -/

/-- R177: an accepted value of an item that has an entry, or that finds fewer than five. -/
theorem Store.Ok.accept (h : t.Ok) (i : Nat) (v : ItemValue) (hroom : t.entry i = none → t.queue.length < 5) :
    (t.accept i v).Ok := by
  have hleft : (t.run.filter (· ≠ i)).Sublist t.run := List.filter_sublist
  have hheld (hr : t.run.filter (· ≠ i) ≠ []) : 5 ≤ t.queue.length :=
    h.full fun hrun => hr (by rw [hrun]; rfl)
  cases he : t.entry i with
  | some e =>
    rw [t.accept_queued i v (by rw [he]; rfl)]
    refine ((h.sound.replace i v).runLeft hleft).ok (fun hq => ?_) (fun hr => ?_)
    · refine h.writes.1 ?_
      rwa [← List.length_pos_iff, Store.replace_length, List.length_pos_iff] at hq
    · rw [Store.replace_length]
      exact hheld hr
  | none =>
    rw [t.accept_joins i v he]
    refine (h.sound.joins (Store.entry_none he) (hroom he) hleft (by simp)).startWrite fun hr => ?_
    rw [Store.joins_length]
    exact Nat.le_succ_of_le (hheld hr)

end

/-! ### The defaults run is formed (R179) -/

/-- R179: the values queued for these items are replaced by their defaults. -/
def Store.defaultsReplaced (t : Store) (items : List Nat) : Store := items.foldl (fun u i => u.replace i (defaultValue i)) t

/-- R179: the items of a defaults run that have an entry, and those that enter the run. -/
def Store.queuedDefaults (t : Store) : List Nat := runItems.filter (fun i => (t.entry i).isSome)
def Store.freshDefaults (t : Store) : List Nat := runItems.filter (fun i => (t.entry i).isNone)

theorem Store.mem_queuedDefaults (t : Store) (i : Nat) : i ∈ t.queuedDefaults ↔ i ∈ runItems ∧ (t.entry i).isSome :=
  List.mem_filter
theorem Store.mem_freshDefaults (t : Store) (i : Nat) : i ∈ t.freshDefaults ↔ i ∈ runItems ∧ t.entry i = none := by
  rw [Store.freshDefaults, List.mem_filter, Option.isNone_iff_eq_none]

/-- R179: the store as it forms a run, before the run feeds the queue. -/
def Store.runFormed (t : Store) : Store := { t.defaultsReplaced t.queuedDefaults with run := t.freshDefaults }

theorem Store.formRun_eq (t : Store) : t.formRun = (Store.feed 5 t.runFormed).startWrite := rfl

theorem Store.defaultsReplaced_induction {P : Store → Prop} (hreplace : ∀ u i, P u → P (u.replace i (defaultValue i)))
    (items : List Nat) : ∀ {t : Store}, P t → P (t.defaultsReplaced items) := by
  induction items with
  | nil => exact id
  | cons i items ih => exact fun ht => ih (hreplace _ i ht)

section
variable (t : Store) (items : List Nat) {j : Nat}

@[simp] theorem Store.defaultsReplaced_items :
    (t.defaultsReplaced items).queue.map QueueEntry.item = t.queue.map QueueEntry.item :=
  Store.defaultsReplaced_induction (P := fun u => u.queue.map QueueEntry.item = t.queue.map QueueEntry.item)
    (fun u i h => (u.replace_items i _).trans h) items rfl
@[simp] theorem Store.defaultsReplaced_base : (t.defaultsReplaced items).base = t.base :=
  Store.defaultsReplaced_induction (P := fun u => u.base = t.base) (fun _ _ h => h) items rfl

theorem Store.defaultsReplaced_entry_ne (h : j ∉ items) : (t.defaultsReplaced items).entry j = t.entry j := by
  induction items generalizing t with
  | nil => rfl
  | cons i items ih =>
    obtain ⟨hi, hitems⟩ : j ≠ i ∧ j ∉ items := by simpa using h
    exact (ih (t.replace i _) hitems).trans (t.replace_entry_ne i j _ hi)

theorem Store.defaultsReplaced_entry_self (h : j ∈ items) (hq : (t.entry j).isSome) :
    (t.defaultsReplaced items).entry j = some ⟨j, defaultValue j⟩ := by
  induction items generalizing t with
  | nil => exact absurd h List.not_mem_nil
  | cons i items ih =>
    have hqueued : ((t.replace i (defaultValue i)).entry j).isSome := by
      simpa only [Store.entry_isSome_iff, ← List.mem_map, Store.replace_items] using hq
    by_cases hj : j ∈ items
    · exact ih (t.replace i (defaultValue i)) hj hqueued
    · obtain rfl : j = i := by simpa [hj] using h
      exact ((t.replace j _).defaultsReplaced_entry_ne items hj).trans (t.replace_entry_self j _ hq)

/-- R179: an item that the run takes is served at its default. -/
theorem Store.formRun_served_run (h : j ∈ runItems) : t.formRun.served j = defaultValue j := by
  rw [t.formRun_eq, Store.startWrite_served, Store.feed_served]
  cases he : t.entry j with
  | some e =>
    have hsome : (t.entry j).isSome := by rw [he]; rfl
    have hentry : t.runFormed.entry j = some ⟨j, defaultValue j⟩ :=
      t.defaultsReplaced_entry_self _ ((t.mem_queuedDefaults j).2 ⟨h, hsome⟩) hsome
    exact Store.served_of_entry hentry
  | none =>
    have hentry : t.runFormed.entry j = t.entry j :=
      t.defaultsReplaced_entry_ne _ fun hm => by simpa [he] using ((t.mem_queuedDefaults j).1 hm).2
    exact Store.served_of_run (hentry.trans he) ((t.mem_freshDefaults j).2 ⟨h, he⟩)

/-- R179: any other item is served as before, where no run was held. -/
theorem Store.formRun_served_other (hrun : t.run = []) (h : j ∉ runItems) : t.formRun.served j = t.served j := by
  rw [t.formRun_eq, Store.startWrite_served, Store.feed_served]
  have hentry : t.runFormed.entry j = t.entry j :=
    t.defaultsReplaced_entry_ne _ fun hm => h ((t.mem_queuedDefaults j).1 hm).1
  have hfresh : j ∉ t.runFormed.run := fun hm => h ((t.mem_freshDefaults j).1 hm).1
  have hbase : t.runFormed.base = t.base := t.defaultsReplaced_base _
  exact Store.served_congr hentry (by simp [hfresh, hrun]) (by rw [hbase])

end

section
variable {t : Store}

/-- R179: the run that is formed holds the items that have no entry. -/
theorem Store.Ok.formRun (h : t.Ok) : t.formRun.Ok := by
  have hreplaced : (t.defaultsReplaced t.queuedDefaults).Sound :=
    Store.defaultsReplaced_induction (fun u i hu => hu.replace i _) _ h.sound
  have hitems : t.runFormed.queue.map QueueEntry.item = t.queue.map QueueEntry.item := t.defaultsReplaced_items _
  have hformed : t.runFormed.Sound := { hreplaced with
    runApart := fun j hj => by
      rw [hitems, ← Store.entry_eq_none_iff]
      exact ((t.mem_freshDefaults j).1 hj).2
    runItems := fun j hj => ((t.mem_freshDefaults j).1 hj).1
    runDistinct := List.Nodup.filter _ (by decide) }
  exact hformed.fed

/-! ### A write completes (R178) -/

/-- R178: the store as the write of the head `e` completes, before the run feeds the queue: a replaced entry is written
again, another leaves `rest`. -/
def Store.written (t : Store) (e : QueueEntry) (rest : List QueueEntry) (v : ItemValue) : Store := { t with
  base := setAt t.base e.item v
  defaulted := setAt t.defaulted e.item false
  writing := none
  replaced := false
  queue := if t.replaced then e :: rest else rest }

theorem Store.completeWrite_eq {e : QueueEntry} {rest : List QueueEntry} (hq : t.queue = e :: rest) (v : ItemValue) :
    t.completeWrite v = (Store.feed 5 (t.written e rest v)).startWrite := by
  unfold Store.completeWrite
  rw [hq]
  dsimp only
  split
  · next hr => rw [Store.written, if_pos hr]
  · next hr => simp [Store.written, hr]

theorem Store.completeWrite_base {e : QueueEntry} {rest : List QueueEntry} (hq : t.queue = e :: rest) (v : ItemValue) :
    (t.completeWrite v).base = setAt t.base e.item v := by
  rw [Store.completeWrite_eq hq, Store.startWrite_base, Store.feed_base]
  rfl

theorem Store.completeWrite_defaulted {e : QueueEntry} {rest : List QueueEntry} (hq : t.queue = e :: rest)
    (v : ItemValue) : (t.completeWrite v).defaulted = setAt t.defaulted e.item false := by
  rw [Store.completeWrite_eq hq, Store.startWrite_defaulted, Store.feed_defaulted]
  rfl

theorem Store.Ok.completeWrite (h : t.Ok) (v : ItemValue) : (t.completeWrite v).Ok := by
  cases hq : t.queue with
  | nil =>
    have hidle : Store.Sound { t with writing := none, replaced := false } := { h.sound with writing := nofun }
    have hsame : t.completeWrite v = { t with writing := none, replaced := false } := by
      unfold Store.completeWrite; rw [hq]
    rw [hsame]
    exact hidle.ok (fun hne => absurd hq hne) h.full
  | cons e rest =>
    rw [Store.completeWrite_eq hq]
    have hleft : (t.written e rest v).queue.Sublist t.queue := by
      unfold Store.written
      dsimp only
      rw [hq]
      split
      · exact .refl _
      · exact List.sublist_cons_self e rest
    exact Store.Sound.fed {
      distinct := h.distinct.sublist (hleft.map _)
      hosts := ((hleft.map _).filter _).length_le.trans h.sound.hosts
      writing := nofun
      runApart := fun j hj hmem => h.sound.runApart j hj ((hleft.map _).subset hmem)
      runItems := h.runItems
      runDistinct := h.runDistinct }

/-- R178: a completed write changes no served value: the value that is stored is the one that was served, unless the entry
stays. -/
theorem Store.Ok.completeWrite_served (h : t.Ok) {e : QueueEntry} {rest : List QueueEntry} (hq : t.queue = e :: rest)
    {v : ItemValue} (hb : e.item < t.base.length) (hv : t.replaced = false → e.value = v) (j : Nat) :
    (t.completeWrite v).served j = t.served j := by
  rw [Store.completeWrite_eq hq, Store.startWrite_served, Store.feed_served]
  by_cases hj : j = e.item
  · subst hj
    have hhead : t.entry e.item = some e := by simp [Store.entry, hq]
    rw [Store.served_of_entry hhead]
    cases hr : t.replaced with
    | true =>
      have hstays : (t.written e rest v).entry e.item = some e := by simp [Store.written, Store.entry, hr]
      exact Store.served_of_entry hstays
    | false =>
      have hnodup := h.distinct
      rw [hq, List.map_cons, List.nodup_cons] at hnodup
      have hrun : e.item ∉ (t.written e rest v).run := fun hmem => by simp [h.runApart _ hmem] at hhead
      have hleaves : (t.written e rest v).entry e.item = none := by
        rw [Store.entry_eq_none_iff, Store.written, if_neg (by simp [hr])]
        exact hnodup.1
      rw [Store.served_of_base hleaves hrun, hv hr]
      exact getAt_setAt_self _ _ _ _ hb
  · refine Store.served_congr ?_ Iff.rfl (getAt_setAt_ne _ _ _ hj)
    unfold Store.written Store.entry
    dsimp only
    rw [hq]
    split
    · rfl
    · rw [List.find?_cons_of_neg (by simpa using Ne.symm hj)]

/-! ### At most eight entries (R178) -/

/-- R178: with no two entries for one item, at most three are for internal items. -/
theorem Store.Ok.length_le (h : t.Ok) : t.queue.length ≤ 8 := by
  have hinternal : ((t.queue.map QueueEntry.item).filter (fun i => !hostItem i)).length ≤ [14, 15, 16].length := by
    refine (List.Nodup.subperm (h.distinct.filter _) fun i hi => ?_).length_le
    simpa [hostItem, ← or_iff_not_imp_left] using List.of_mem_filter hi
  have hsplit := List.length_eq_length_filter_add (l := t.queue.map QueueEntry.item) hostItem
  have hhosts := h.sound.hosts
  rw [List.length_map] at hsplit
  simp only [List.length_cons, List.length_nil] at hinternal
  omega

end

end Sys2Proof.Machine
end

section
/-! SUPPORT. The requests of the settings store (R177, R179; O36, O38), the steps of its numeric items (R175, R177; O37), and
the completion of a write (R178; O39). -/

namespace Sys2Proof.Machine

/-! ### Clamping (R175, R177) -/

theorem clampItem_budget (n : Nat) : clampItem 0 n = clampNat 2000 3680 n - clampNat 2000 3680 n % 10 := rfl

theorem clampItem_interval_zero : clampItem 19 0 = 0 := rfl

/-- R177: a report interval of 1 to 199 ms becomes 200 ms. -/
theorem clampItem_interval_short {n : Nat} (h : 1 ≤ n) (hn : n < 200) : clampItem 19 n = 200 := by
  have hc : clampNat 0 10000 n = n := clampNat_of_mem (Nat.zero_le n) (by omega)
  simp only [clampItem, itemRange, hc]
  rw [if_neg (by decide), if_pos trivial, if_neg (by omega), if_pos hn]

theorem clampItem_interval {n : Nat} (h : 200 ≤ n) : clampItem 19 n = min 10000 n - min 10000 n % 100 := by
  have hc : clampNat 0 10000 n = min 10000 n := by rw [clampNat_eq _ _ _ (by decide), Nat.zero_max]
  simp only [clampItem, itemRange, hc]
  rw [if_neg (by decide), if_pos trivial, if_neg (by omega), if_neg (by omega)]

theorem clampItem_whole {item : Nat} (h0 : item ≠ 0) (h19 : item ≠ 19) (n : Nat) :
    clampItem item n = clampNat (itemRange item).1 (itemRange item).2 n := by
  rw [clampItem, if_neg h0, if_neg h19]

/-- R175: the report interval is 0 or at least 200 ms, in steps of 100 ms. -/
theorem clampItem_interval_mem (n : Nat) : clampItem 19 n = 0 ∨ (200 ≤ clampItem 19 n ∧ clampItem 19 n ≤ 10000
    ∧ clampItem 19 n % 100 = 0) := by
  by_cases h0 : n = 0
  · exact .inl (by rw [h0, clampItem_interval_zero])
  by_cases h : n < 200
  · rw [clampItem_interval_short (by omega) h]
    decide
  · rw [clampItem_interval (by omega)]
    omega

theorem clampItem_interval_idem (n : Nat) : clampItem 19 (clampItem 19 n) = clampItem 19 n := by
  obtain h | ⟨hlow, hhigh, hstep⟩ := clampItem_interval_mem n
  · rw [h, clampItem_interval_zero]
  · rw [clampItem_interval hlow]
    omega

/-- Settles O37, by the items with steps and the others. -/
theorem itemsAreClampedToTheirSteps : Obligations.ItemsAreClampedToTheirSteps := by
  intro item n _ _
  dsimp only
  by_cases h0 : item = 0
  · subst h0
    simp only [show itemRange 0 = (2000, 3680) from rfl, clampItem_budget, clampNat_eq 2000 3680 _ (by decide)]
    omega
  by_cases h19 : item = 19
  · subst h19
    simp only [show itemRange 19 = (0, 10000) from rfl]
    have hmem := clampItem_interval_mem n
    have hzero (h : n = 0) : clampItem 19 n = 0 := by rw [h, clampItem_interval_zero]
    have hshort : 1 ≤ n → n < 200 → clampItem 19 n = 200 := clampItem_interval_short
    have hlong : 200 ≤ n → clampItem 19 n = min 10000 n - min 10000 n % 100 := clampItem_interval
    have hidem := clampItem_interval_idem n
    omega
  · obtain ⟨hrange, -⟩ := itemRange_bounds item
    simp only [clampItem_whole h0 h19, clampNat_eq _ _ _ hrange]
    omega

/-! ### What follows an event in the blocks -/

/-- The reactions and the scans that are due at once leave the host-owned values and the host's items alone. -/
theorem Part.settled_persists (p : Part) : p.Persists (Part.advance 3 p.settle) :=
  Part.advance_persists 3 (Part.settle_keeps (.refl p)).persists

theorem Part.Persists.served {p q : Part} (h : p.Persists q) {i : Nat} (hi : i ∉ [14, 15, 16]) :
    q.store.served i = p.store.served i := h.adds.served i (by simpa [internalItem] using hi)

theorem Part.Persists.base {p q : Part} (h : p.Persists q) : q.store.base = p.store.base := congrArg HostOwned.base h.owned

theorem Part.Persists.defaulted {p q : Part} (h : p.Persists q) : q.store.defaulted = p.store.defaulted :=
  congrArg HostOwned.defaulted h.owned

/-- What a command has made of the blocks, after the reactions and the quiet of the reset wait. -/
theorem State.onBlocks_persists (s : State) (f : Part → Part) : (f s.part).Persists (s.onBlocks f).part := by
  have hquiet (p : Part) (wait : Bool) : p.Persists (p.quietReports wait) := by
    cases wait <;> exact (Part.Persists.refl p).leaf rfl rfl rfl rfl
  exact (f s.part).settled_persists.trans (hquiet _ _)

/-! ### SETTING_PUT (R177) -/

theorem mem_internal_iff (i : Nat) : i ∈ [14, 15, 16] ↔ 14 ≤ i ∧ i ≤ 16 := by
  simp only [List.mem_cons, List.not_mem_nil, or_false]
  omega

section
variable (p : Part) (item : Byte) (v : ValueField)

/-- R177: the scale tracker and the link controller leave the accepted value alone. -/
theorem Part.acceptItem_keeps (i : Nat) (w : ItemValue) :
    Part.Keeps { p with store := p.store.accept i w } (p.acceptItem i w) := by
  have htold := Part.scaleTold_keeps i (.refl { p with store := p.store.accept i w })
  unfold Part.acceptItem
  dsimp only
  split
  · exact Part.reportIntervalTold_keeps htold
  · exact htold

/-- R177 checks 1 to 3. -/
theorem Part.settingPut_unknown (h : 34 ≤ item.toNat) : p.settingPut item v = p.refuse .badValue := if_pos h

theorem Part.settingPut_internal (h : item.toNat ∈ [14, 15, 16]) : p.settingPut item v = p.refuse .refusedState := by
  have hrange := (mem_internal_iff _).1 h
  rw [Part.settingPut, if_neg (by omega), if_pos hrange]

theorem Part.settingPut_stopped (h : item.toNat < 22) (hi : item.toNat ∉ [14, 15, 16]) (hm : p.mode.mode = .safeStop) :
    p.settingPut item v = p.refuse .faultActive := by
  have hrange := (mem_internal_iff _).not.1 hi
  rw [Part.settingPut, if_neg (by omega), if_neg hrange, if_pos ⟨hm, h⟩]

/-- R177 check 5: the item has no entry and the queue holds 5 or more. -/
def Store.fullFor (t : Store) (i : Nat) : Prop := (∀ e ∈ t.queue, e.item ≠ i) ∧ 5 ≤ t.queue.length

theorem Store.fullFor_iff (t : Store) (i : Nat) : t.fullFor i ↔ (t.entry i).isNone ∧ 5 ≤ t.queue.length := by
  simp [Store.fullFor, Store.entry, List.find?_eq_none]

/-- R177 checks 4 to 6, for the value that the request carries. -/
def Part.putChecked (p : Part) (i : Nat) : Option ItemValue → Part × Reply
  | none => p.refuse .badValue
  | some value =>
    if (p.store.entry i).isNone ∧ 5 ≤ p.store.queue.length then p.refuse .busy
    else (p.acceptItem i (clampValue i value).1, .bare (okOrClamped (clampValue i value).2))

/-- R177: an item that the first three checks let through is judged by the others. -/
theorem Part.settingPut_checked (h : item.toNat < 34) (hi : item.toNat ∉ [14, 15, 16])
    (hm : item.toNat < 22 → p.mode.mode ≠ .safeStop) : p.settingPut item v = p.putChecked item.toNat (putValue item.toNat v) := by
  have hrange := (mem_internal_iff _).not.1 hi
  rw [Part.settingPut, if_neg (by omega), if_neg hrange, if_neg fun hs => hm hs.2 hs.1]
  cases putValue item.toNat v <;> rfl

end

section
variable {p : Part} {item : Byte} {v : ValueField} (h : item.toNat < 34) (hi : item.toNat ∉ [14, 15, 16])
  (hm : item.toNat < 22 → p.mode.mode ≠ .safeStop)
include h hi hm

theorem Part.settingPut_badKind (hv : putValue item.toNat v = none) : p.settingPut item v = p.refuse .badValue := by
  rw [p.settingPut_checked item v h hi hm, hv, Part.putChecked]

theorem Part.settingPut_full {value : ItemValue} (hv : putValue item.toNat v = some value)
    (hfull : p.store.fullFor item.toNat) : p.settingPut item v = p.refuse .busy := by
  rw [p.settingPut_checked item v h hi hm, hv]
  exact if_pos ((p.store.fullFor_iff _).1 hfull)

theorem Part.settingPut_accepted {value w : ItemValue} {clamped : Bool} (hv : putValue item.toNat v = some value)
    (hfull : ¬p.store.fullFor item.toNat) (hw : clampValue item.toNat value = (w, clamped)) :
    p.settingPut item v = (p.acceptItem item.toNat w, .bare (okOrClamped clamped)) := by
  rw [p.settingPut_checked item v h hi hm, hv]
  rw [Part.putChecked, if_neg fun hf => hfull ((p.store.fullFor_iff _).2 hf), hw]

end

section
variable {s : State} {item : Byte} {v : ValueField} (hl : s.listening) (ha : s.admits (.settingPut item v))
include hl ha

theorem exec_settingPut_refused {c : ResultCode} (hc : carriedOut c = false)
    (h : s.part.settingPut item v = s.part.refuse c) :
    exec (Request.settingPut item v).command s = .next (s.replied (.settingPut item v) ⟨c, []⟩) :=
  exec_declined hl ha (congrArg (s.taken _).acting h) hc

/-- R177: after an accepted value the item is served at it, and every other item of the host's as before. -/
theorem exec_settingPut_accepted {w : ItemValue} {clamped : Bool} (hi : item.toNat ∉ [14, 15, 16])
    (h : s.part.settingPut item v = (s.part.acceptItem item.toNat w, .bare (okOrClamped clamped))) :
    ∃ t, exec (Request.settingPut item v).command s = .next t
      ∧ t.link = (s.replied (.settingPut item v) ⟨okOrClamped clamped, []⟩).link ∧ t.flash = s.flash
      ∧ t.part.store.served item.toNat = w
      ∧ ∀ j, j ≠ item.toNat → j ∉ [14, 15, 16] → t.part.store.served j = s.part.store.served j := by
  have hafter := (s.part.acceptItem_keeps item.toNat w).persists.trans (s.part.acceptItem item.toNat w).settled_persists
  refine ⟨_, exec_carried hl ha (congrArg (s.taken _).acting h) (carriedOut_okOrClamped clamped), rfl, rfl, ?_,
    fun j hj hji => ?_⟩ <;> rw [State.carried_part]
  · exact (hafter.served hi).trans (s.part.store.accept_served_self _ w)
  · exact (hafter.served hji).trans (s.part.store.accept_served_ne _ j w hj)

end

theorem nodeKindOf_none {n : Nat} (h : 7 < n) : nodeKindOf n = none := by
  unfold nodeKindOf
  split
  case h_9 => rfl
  all_goals omega

theorem nodeKindOf_some {n : Nat} (h : n ≤ 7) : ∃ k, nodeKindOf n = some k := by
  interval_cases n <;> exact ⟨_, rfl⟩

/-- Settles O36, check by check. -/
theorem settingPutChecksAndAccepts : Obligations.SettingPutChecksAndAccepts := by
  intro s item v q i number answered full accepted hl ha
  refine ⟨fun h => ?unknown, fun h => ?internal, fun h hi => ?numeric, fun hlow h => ?map⟩
  case unknown => exact exec_settingPut_refused hl ha rfl (s.part.settingPut_unknown item v h)
  case internal => exact exec_settingPut_refused hl ha rfl (s.part.settingPut_internal item v h)
  case numeric =>
    have hv : putValue i v = some (.number number) := if_pos h
    have h34 : i < 34 := by omega
    refine ⟨fun hm => ?_, fun hm hf => ?_, fun hm hf hn => ?_, fun hm hf hn => ?_⟩
    · exact exec_settingPut_refused hl ha rfl (s.part.settingPut_stopped item v h hi hm)
    · exact exec_settingPut_refused hl ha rfl (Part.settingPut_full h34 hi (fun _ => hm) hv hf)
    · have hw : clampValue i (.number number) = (.number number, false) := by simp [clampValue, hn]
      exact exec_settingPut_accepted hl ha hi (Part.settingPut_accepted h34 hi (fun _ => hm) hv hf hw)
    · have hw : clampValue i (.number number) = (.number (clampItem i number), true) := by simp [clampValue, hn]
      exact exec_settingPut_accepted hl ha hi (Part.settingPut_accepted h34 hi (fun _ => hm) hv hf hw)
  case map =>
    have hi : i ∉ [14, 15, 16] := (mem_internal_iff i).not.2 (by omega)
    have hm (hnumeric : i < 22) : s.part.mode.mode ≠ .safeStop := absurd hnumeric (by omega)
    have hv : putValue i v = (nodeKindOf v.b0.toNat).map .kind := if_neg (by omega)
    refine ⟨fun hbad => ?_, fun hgood hf => ?_, fun k hk hf => ?_⟩
    · exact exec_settingPut_refused hl ha rfl (Part.settingPut_badKind h hi hm (by rw [hv, nodeKindOf_none hbad]; rfl))
    · obtain ⟨k, hk⟩ := nodeKindOf_some hgood
      exact exec_settingPut_refused hl ha rfl (Part.settingPut_full h hi hm (by rw [hv, hk]; rfl) hf)
    · exact exec_settingPut_accepted hl ha hi (Part.settingPut_accepted h hi hm (by rw [hv, hk]; rfl) hf rfl)

/-! ### STORE_DEFAULTS (R179) -/

/-- R179: the run that is formed, as the scale tracker and the link controller are told of it. -/
def Part.defaultsTold (p : Part) : Part :=
  (((Part.scaleTold { p with store := p.store.formRun } 13).scaleTold 17).reportIntervalTold)

theorem Part.defaultsTold_keeps (p : Part) : Part.Keeps { p with store := p.store.formRun } p.defaultsTold :=
  Part.reportIntervalTold_keeps (Part.scaleTold_keeps 17 (Part.scaleTold_keeps 13 (.refl _)))

theorem Part.storeDefaults_held {p : Part} (h : p.store.run ≠ []) : p.storeDefaults = p.refuse .busy := if_pos h

theorem Part.storeDefaults_forms {p : Part} (h : p.store.run = []) : p.storeDefaults = (p.defaultsTold, .bare .ok) :=
  if_neg (not_not_intro h)

theorem mem_runItems_iff (i : Nat) : i ∈ runItems ↔ i ≤ 13 ∨ (17 ≤ i ∧ i ≤ 21) := by
  simp only [runItems, List.mem_cons, List.not_mem_nil, or_false]
  omega

/-- Settles O38, by what the store serves once the run is formed. -/
theorem storeDefaultsServesDefaults : Obligations.StoreDefaultsServesDefaults := by
  intro s hl ha
  refine ⟨fun hrun => ?held, fun hrun => ?formed⟩
  case held =>
    have hheld := congrArg (s.taken .storeDefaults).acting (Part.storeDefaults_held hrun)
    exact exec_declined (q := .storeDefaults) hl ha hheld rfl
  case formed =>
    have hforms := congrArg (s.taken .storeDefaults).acting (Part.storeDefaults_forms hrun)
    have hafter := s.part.defaultsTold_keeps.persists.trans s.part.defaultsTold.settled_persists
    refine ⟨_, exec_carried (q := .storeDefaults) hl ha hforms rfl, rfl, rfl, fun i hi => ?_, fun i hlow hhigh => ?_⟩ <;>
      rw [State.carried_part]
    · have htaken : i ∈ runItems := (mem_runItems_iff i).2 hi
      exact (hafter.served (by simpa [internalItem] using runItems_external htaken)).trans
        (s.part.store.formRun_served_run htaken)
    · have hleft : i ∉ runItems := fun hm => by have := (mem_runItems_iff i).1 hm; omega
      have hhost : i ∉ [14, 15, 16] := (mem_internal_iff i).not.2 (by omega)
      exact (hafter.served hhost).trans (s.part.store.formRun_served_other hrun hleft)

/-! ### STORE_WRITE_COMPLETE (R178) -/

section
variable {s : State}

theorem State.writeComplete_idle (h : s.part.store.writing = none ∨ s.part.store.queue = []) : s.writeComplete = s := by
  unfold State.writeComplete
  split
  · next hw hq => simp [hw, hq] at h
  · rfl

theorem State.writeComplete_writes {v : ItemValue} {e : QueueEntry} {rest : List QueueEntry}
    (hw : s.part.store.writing = some v) (hq : s.part.store.queue = e :: rest) : s.writeComplete =
      State.onBlocks { s with flash := setAt s.flash e.item (storedForm e.item v) }
        (fun p => { p with store := p.store.completeWrite v }) := by
  rw [State.writeComplete, hw, hq]

end

/-- Settles O39, by what the write leaves in the store and what the reactions leave of that. -/
theorem writeCompletes : Obligations.WriteCompletes := by
  intro s
  refine ⟨fun h => ?idle, fun v e rest hw hq => ?writes⟩
  case idle => exact congrArg Host.Outcome.next (State.writeComplete_idle h)
  case writes =>
    have hafter := State.onBlocks_persists { s with flash := setAt s.flash e.item (storedForm e.item v) }
      (fun p => { p with store := p.store.completeWrite v })
    exact ⟨_, congrArg Host.Outcome.next (State.writeComplete_writes hw hq), rfl,
      hafter.base.trans (Store.completeWrite_base hq v), hafter.defaulted.trans (Store.completeWrite_defaulted hq v),
      fun hok hb hv i hi => (hafter.served hi).trans (hok.completeWrite_served hq hb hv i)⟩

end Sys2Proof.Machine
end

section
/-! SUPPORT. What the owners of the requests leave of the blocks (R156): those that keep what the reactions keep, those that
keep what every event keeps, and those that leave the store untouched. -/

namespace Sys2Proof.Machine

section
variable (p : Part)

/-! ### Cooking and programs (R3, R5, R122 to R134) -/

theorem Part.climateSet_keeps (b : ClimateBlock) : p.Keeps (p.climateSet b).1 := by
  unfold Part.climateSet
  repeat' split
  · exact .refl p
  · exact .refl p
  · exact Part.writeClimate_keeps _ (.refl p)

theorem Part.climateOff_keeps : p.Keeps p.climateOff.1 := by
  unfold Part.climateOff
  split
  · exact .refl p
  · exact Part.endCooking_keeps (.refl p)

theorem Part.programStart_keeps (presence index : Byte) : p.Keeps (p.programStart presence index).1 := by
  unfold Part.programStart
  dsimp only
  split
  · exact .refl p
  · split
    · exact .refl p
    · exact p.startProgram_keeps _

theorem Part.programPause_keeps : p.Keeps p.programPause.1 := by
  have hoff : p.Keeps p.forcedOff := Part.forcedOff_keeps (.refl p)
  unfold Part.programPause
  split
  case h_1 | h_2 => exact Part.pauseProgram_keeps _ hoff
  case h_3 => exact hoff.leaf rfl rfl rfl
  all_goals exact .refl p

theorem Part.resumeRequest_keeps : p.Keeps p.resumeRequest.1 := by
  unfold Part.resumeRequest
  split
  · exact Part.programResume_keeps (.refl p)
  · exact .refl p

theorem Part.abortRequest_keeps : p.Keeps p.abortRequest.1 := by
  unfold Part.abortRequest
  split
  · exact Part.abortProgram_keeps (.refl p)
  · exact .refl p

theorem Part.stageConfirm_keeps : p.Keeps p.stageConfirm.1 := by
  have hreturned : p.Keeps p.returnRunning := Part.returnRunning_keeps (.refl p)
  unfold Part.stageConfirm
  split
  case h_1 =>
    split
    · exact .refl p
    · exact p.confirmPrompt_keeps _
  case h_2 =>
    split
    · exact hreturned
    · exact .refl p
  case h_3 =>
    repeat' split
    · exact .refl p
    · exact .refl p
    · exact hreturned
  case h_4 =>
    split
    · exact Part.finishStage_keeps _ (.refl p)
    · exact .refl p
  case h_5 => exact .refl p

theorem Part.stageSkip_keeps : p.Keeps p.stageSkip.1 := by
  unfold Part.stageSkip
  split
  · exact Part.boundary_keeps (.refl p)
  · exact .refl p

/-! ### Water and descaling (R75, R102, R104, R111) -/

theorem Part.boilerDrain_keeps : p.Keeps p.boilerDrain.1 := by
  unfold Part.boilerDrain
  split
  · exact .refl p
  · split
    case h_2 => exact Part.startDrain_keeps _ _ (.refl p)
    all_goals exact .refl p

theorem Part.descaleStart_keeps (presence minutes : Byte) : p.Keeps (p.descaleStart presence minutes).1 := by
  unfold Part.descaleStart
  split
  · exact .refl p
  · split
    · exact .refl p
    · split
      · exact .refl p
      · exact p.beginDescale_keeps _

theorem Part.descaleConfirm_keeps : p.Keeps p.descaleConfirm.1 := by
  have howned : p.Keeps { p with boiler.owner := .descale } := (Part.Keeps.refl p).leaf rfl rfl rfl
  have hrinse : p.Keeps { p.descalePhase .rinse none with descale.rinseStep := some .fill } :=
    (Part.descalePhase_keeps .rinse none (.refl p)).leaf rfl rfl rfl
  unfold Part.descaleConfirm
  repeat' split
  · exact .refl p
  · exact Part.enterDrainFirst_keeps howned
  · exact Part.enterDose_keeps (.refl p)
  · exact Part.directFill_keeps _ hrinse
  · exact .refl p

theorem Part.abortDescale_keeps : p.Keeps p.abortDescale.1 := by
  unfold Part.abortDescale
  dsimp only
  split
  · exact Part.descaleAbort_keeps (.refl p)
  · exact .refl p

/-! ### Modes, faults and the ring (R58, R140 to R149) -/

theorem Part.holdEnter_keeps (setpoint : Half) (moist : Byte) : p.Keeps (p.holdEnter setpoint moist).1 := by
  unfold Part.holdEnter
  repeat' split
  · exact .refl p
  · exact .refl p
  · exact Part.enterHold_keeps _ _ (.refl p)

theorem Part.holdExit_keeps (abandon : Byte) : p.Keeps (p.holdExit abandon).1 := by
  have hended : p.Keeps p.endHold := Part.endHold_keeps (.refl p)
  unfold Part.holdExit
  repeat' split
  · exact .refl p
  · exact Part.endRefill_keeps (Part.endHold_keeps (Part.abandonBlowdown_keeps (.refl p)))
  · exact Part.refillRunsOn_keeps hended
  · exact hended
  · exact .refl p

theorem Part.standbyEnter_keeps : p.Keeps p.standbyEnter.1 := by
  unfold Part.standbyEnter
  split
  · exact .refl p
  · exact Part.setMode_keeps .standbyPending (.refl p)

theorem Part.faultClear_persists (kind : Byte) : p.Persists (p.faultClear kind).1 := by
  unfold Part.faultClear
  repeat' split
  · exact .refl p
  · exact .refl p
  · exact .refl p
  · exact Part.clearFault_persists _ (.refl p)

theorem Part.configureNode_persists (a : Nat) (masked : Bool) (f : Selector) (watch : Byte) (threshold : Nat) :
    p.Persists (p.configureNode a masked f watch threshold) := by
  have hring {r : Ring} (hr : r.nodes.length = p.ring.nodes.length) : p.Persists { p with ring := r } :=
    (Part.Persists.refl p).leaf rfl rfl rfl hr
  have hdiscard (r : Ring) : (r.discardPoll a).nodes = r.nodes := by
    unfold Ring.discardPoll
    repeat' split
    all_goals rfl
  refine Part.linkTold_persists p.ring (p.ring.entry a).kind false (hring ?_)
  split
  · rw [hdiscard, Ring.putEntry_length]
  · rw [Ring.putEntry_length]

theorem Part.nodeSet_persists (address masked selector watch : Byte) (threshold : Half) :
    p.Persists (p.nodeSet address masked selector watch threshold).1 := by
  unfold Part.nodeSet
  dsimp only
  repeat' split
  case h_1.isFalse.isFalse => exact p.configureNode_persists _ _ _ _ _
  all_goals exact .refl p

/-! ### Requests that leave the store untouched -/

theorem Part.programClear_store (endAction : Byte) (setpoint : Half) (moist : Byte) :
    (p.programClear endAction setpoint moist).1.store = p.store := by
  unfold Part.programClear
  repeat' split
  all_goals rfl

theorem Part.stageAppend_store (b : StageBlock) : (p.stageAppend b).1.store = p.store := by
  unfold Part.stageAppend
  repeat' split
  all_goals rfl

theorem Part.counterGet_store (zero : Byte) : (p.counterGet zero).1.store = p.store := by
  unfold Part.counterGet
  repeat' split
  all_goals rfl

theorem Part.captureArm_store (trigger : Half) (style : Byte) : (p.captureArm trigger style).1.store = p.store := by
  unfold Part.captureArm
  repeat' split
  all_goals rfl

theorem Part.captureRelease_store (disarm : Byte) : (p.captureRelease disarm).1.store = p.store := by
  unfold Part.captureRelease
  split <;> rfl

theorem Part.settingGet_store (item : Byte) : (p.settingGet item).1.store = p.store := by
  unfold Part.settingGet
  split <;> rfl

theorem Part.stageGet_store (index : Byte) : (p.stageGet index).1.store = p.store := by
  unfold Part.stageGet
  split <;> rfl

theorem Part.nodeGet_store (address : Byte) : (p.nodeGet address).1.store = p.store := by
  unfold Part.nodeGet
  split <;> rfl

/-! ### The requests of the store (R177, R179) -/

section
variable {p} (h : p.store.Ok)
include h

/-- R177 check 5: a value that is accepted has an entry of its item or finds fewer than five. -/
theorem Part.settingPut_storeOk (item : Byte) (v : ValueField) : (p.settingPut item v).1.store.Ok := by
  unfold Part.settingPut
  dsimp only
  repeat' split
  case h_2.isFalse hroom =>
    refine (p.acceptItem_keeps _ _).adds.storeOk (h.accept _ _ fun hnone => ?_)
    by_contra hfull
    exact hroom ⟨by rw [hnone]; rfl, by omega⟩
  all_goals exact h

theorem Part.storeDefaults_storeOk : p.storeDefaults.1.store.Ok := by
  by_cases hrun : p.store.run = []
  · rw [Part.storeDefaults_forms hrun]
    exact p.defaultsTold_keeps.adds.storeOk h.formRun
  · rw [Part.storeDefaults_held hrun]
    exact h

end

end

end Sys2Proof.Machine
end

section
/-! SUPPORT. The stored forms and the write queue's invariant through every command (R177 to R181; O40, O42). -/

namespace Sys2Proof.Machine

/-- R178: from `s` to `t` no stored form changes, and the write queue keeps its invariant. -/
structure State.StoreSafe (s t : State) : Prop where
  flash : t.flash = s.flash
  storeOk : s.part.store.Ok → t.part.store.Ok

section
variable {s t u : State}

theorem State.StoreSafe.refl (s : State) : s.StoreSafe s := ⟨rfl, id⟩

theorem State.StoreSafe.trans (h : s.StoreSafe t) (k : t.StoreSafe u) : s.StoreSafe u :=
  ⟨k.flash.trans h.flash, fun hok => k.storeOk (h.storeOk hok)⟩

/-- A command of the link first changes what the store does not see. -/
theorem State.StoreSafe.after (h : t.StoreSafe u) (hf : t.flash = s.flash) (hs : t.part.store = s.part.store) :
    s.StoreSafe u := ⟨h.flash.trans hf, fun hok => h.storeOk (hs ▸ hok)⟩

theorem State.StoreSafe.of_store (hf : t.flash = s.flash) (hs : t.part.store = s.part.store) : s.StoreSafe t :=
  ⟨hf, fun hok => hs ▸ hok⟩

/-! ### Through the blocks -/

theorem State.onBlocks_storeSafe {f : Part → Part} (h : s.part.store.Ok → (f s.part).store.Ok) :
    s.StoreSafe (s.onBlocks f) :=
  ⟨rfl, fun hok => (s.onBlocks_persists f).adds.storeOk (h hok)⟩

theorem State.onBlocks_storeSafe_of_persists {f : Part → Part} (h : s.part.Persists (f s.part)) :
    s.StoreSafe (s.onBlocks f) := State.onBlocks_storeSafe h.adds.storeOk

theorem State.woken_storeSafe (s : State) : s.StoreSafe s.woken := by
  unfold State.woken
  split
  · exact State.onBlocks_storeSafe_of_persists (Part.wake_persists (.refl _))
  · exact .refl s

/-! ### Requests (R155, R156) -/

theorem State.acting_storeSafe {r : Part × Reply} (h : s.part.store.Ok → r.1.store.Ok) :
    s.StoreSafe (s.acting r).1 := by
  unfold State.acting
  split
  · exact State.onBlocks_storeSafe (f := fun _ => r.1) h
  · exact .refl s

theorem State.acting_storeSafe_of_keeps {r : Part × Reply} (h : s.part.Keeps r.1) : s.StoreSafe (s.acting r).1 :=
  State.acting_storeSafe h.adds.storeOk

/-- R156: no owner changes a stored form or breaks the write queue's invariant. -/
theorem State.serve_storeSafe (s : State) (q : Request) : s.StoreSafe (s.serve q).1 := by
  cases q with
  | settingPut item v => exact State.acting_storeSafe fun h => Part.settingPut_storeOk h item v
  | storeDefaults => exact State.acting_storeSafe fun h => Part.storeDefaults_storeOk h
  | climateSet b => exact State.acting_storeSafe_of_keeps (s.part.climateSet_keeps b)
  | climateOff => exact State.acting_storeSafe_of_keeps s.part.climateOff_keeps
  | programStart g i => exact State.acting_storeSafe_of_keeps (s.part.programStart_keeps g i)
  | programPause => exact State.acting_storeSafe_of_keeps s.part.programPause_keeps
  | programResume => exact State.acting_storeSafe_of_keeps s.part.resumeRequest_keeps
  | programAbort => exact State.acting_storeSafe_of_keeps s.part.abortRequest_keeps
  | stageConfirm => exact State.acting_storeSafe_of_keeps s.part.stageConfirm_keeps
  | stageSkip => exact State.acting_storeSafe_of_keeps s.part.stageSkip_keeps
  | boilerDrain => exact State.acting_storeSafe_of_keeps s.part.boilerDrain_keeps
  | descaleStart g m => exact State.acting_storeSafe_of_keeps (s.part.descaleStart_keeps g m)
  | descaleConfirm => exact State.acting_storeSafe_of_keeps s.part.descaleConfirm_keeps
  | descaleAbort => exact State.acting_storeSafe_of_keeps s.part.abortDescale_keeps
  | holdEnter t m => exact State.acting_storeSafe_of_keeps (s.part.holdEnter_keeps t m)
  | holdExit a => exact State.acting_storeSafe_of_keeps (s.part.holdExit_keeps a)
  | standbyEnter => exact State.acting_storeSafe_of_keeps s.part.standbyEnter_keeps
  | stop => exact State.acting_storeSafe_of_keeps s.part.stopped_keeps
  | faultClear k => exact State.acting_storeSafe (s.part.faultClear_persists k).adds.storeOk
  | nodeSet a m f w t => exact State.acting_storeSafe (s.part.nodeSet_persists a m f w t).adds.storeOk
  | programClear e t m => exact .of_store rfl (s.part.programClear_store e t m)
  | stageAppend b => exact .of_store rfl (s.part.stageAppend_store b)
  | counterGet z => exact .of_store rfl (s.part.counterGet_store z)
  | captureArm t c => exact .of_store rfl (s.part.captureArm_store t c)
  | captureRelease d => exact .of_store rfl (s.part.captureRelease_store d)
  | settingGet i => exact .of_store rfl (s.part.settingGet_store i)
  | stageGet i => exact .of_store rfl (s.part.stageGet_store i)
  | nodeGet a => exact .of_store rfl (s.part.nodeGet_store a)
  | ping | reset | statusGet | linkStats | scaleGet | descaleGet | faultGet | captureGet | noticeGet | noticeEnable =>
    exact .of_store rfl rfl

theorem State.answer_storeSafe (s : State) (f : Frame) : s.StoreSafe (s.answer f).1 := by
  unfold State.answer
  repeat' split
  · exact .refl s
  · exact .refl s
  · exact .refl s
  · exact s.serve_storeSafe _
  · exact .refl s

theorem State.judging_storeSafe (s : State) (f : Frame) (rest : List Frame) : s.StoreSafe (s.judging f rest) :=
  (State.woken_storeSafe { s with link.inHand := some f, link.queue := rest }).after rfl rfl

theorem State.handle_storeSafe (s : State) (f : Frame) (rest : List Frame) : s.StoreSafe (s.handle f rest) := by
  rw [State.handle_eq]
  exact ((s.judging_storeSafe f rest).trans ((s.judging f rest).answer_storeSafe f)).trans (.of_store rfl rfl)

theorem State.offer_storeSafe (s : State) (f : Frame) : s.StoreSafe (s.offer f) := by
  unfold State.offer
  split
  · exact (State.woken_storeSafe { s with link.queue := s.link.queue ++ [f] }).after rfl rfl
  · exact .of_store rfl rfl

theorem State.submit_storeSafe (s : State) (q : Request) : s.StoreSafe (s.submit q) := by
  unfold State.submit
  repeat' split
  · exact .refl s
  · exact s.handle_storeSafe _ _
  · exact s.offer_storeSafe _

theorem State.take_storeSafe (s : State) : s.StoreSafe s.take := by
  unfold State.take
  repeat' split
  · exact .refl s
  · exact s.handle_storeSafe _ _
  · exact .refl s

/-! ### The receiver and the transmitter (R153, R154, R159, R160) -/

theorem State.judgeFrame_storeSafe (s : State) (got : List Byte) : s.StoreSafe (s.judgeFrame got) := by
  unfold State.judgeFrame
  dsimp only
  repeat' split
  · exact s.offer_storeSafe _
  all_goals exact .of_store rfl rfl

theorem State.assemble_storeSafe (s : State) (got : List Byte) (b : Byte) : s.StoreSafe (s.assemble got b) := by
  unfold State.assemble
  repeat' split
  · exact .of_store rfl rfl
  · exact (State.judgeFrame_storeSafe { s with link.receiver := .hunt } _).after rfl rfl
  · exact .of_store rfl rfl

theorem State.receive_storeSafe (s : State) (b : Byte) (stopGood : Bool) : s.StoreSafe (s.receive b stopGood) := by
  unfold State.receive
  repeat' split
  case h_2.isTrue => exact s.assemble_storeSafe _ b
  all_goals exact .of_store rfl rfl

theorem State.receiveGap_storeSafe (s : State) : s.StoreSafe s.receiveGap := by
  unfold State.receiveGap
  split <;> exact .of_store rfl rfl

theorem State.transmitEnd_storeSafe (s : State) : s.StoreSafe s.transmitEnd := by
  have hfree (a : State) : a.StoreSafe a.transmitterFree := by
    unfold State.transmitterFree
    split <;> exact .of_store rfl rfl
  unfold State.transmitEnd State.replyEnd State.reportEnd
  dsimp only
  repeat' split
  · exact .refl s
  · exact .of_store rfl rfl
  · exact (hfree _).after rfl rfl
  · exact .of_store rfl rfl
  · exact hfree s

theorem State.reportExpiry_storeSafe (s : State) : s.StoreSafe s.reportExpiry := by
  unfold State.reportExpiry
  dsimp only
  repeat' split
  all_goals exact .of_store rfl rfl

/-! ### Resets (R178, R180, R181) -/

/-- R180: the invariant does not speak of the values that are read. -/
theorem Store.Ok.read {t : Store} (h : t.Ok) (base : List ItemValue) (defaulted : List Bool) :
    Store.Ok { t with base := base, defaulted := defaulted } := { h with }

/-- R180: the load step queues damaged internal items in an empty queue. -/
theorem Part.loadStep_storeOk (flash : List StoredForm) : (Part.reset.loadStep flash).store.Ok := by
  have hqueued {p : Part} {i : Nat} (hi : internalItem i) (h : p.store.Ok) : (p.queueDamaged i).store.Ok := by
    unfold Part.queueDamaged
    split
    · exact Store.enqueue_ok _ hi h
    · exact h
  have hread : (Part.reset.itemsLoaded flash).store.Ok := Store.reset_ok.read _ _
  have hdamage : (Part.reset.itemsLoaded flash).damageQueued.store.Ok :=
    hqueued (.inr (.inr rfl)) (hqueued (.inr (.inl rfl)) (hqueued (.inl rfl) hread))
  rw [← Part.reportDamage_store, ← Part.descaleLoaded_store] at hdamage
  rw [Part.loadStep_eq]
  dsimp only
  rw [Part.startReports_store]
  exact (Part.scaleLoaded_keeps (.refl _)).adds.storeOk hdamage

theorem State.startUp_storeSafe (s : State) : s.StoreSafe s.startUp :=
  ⟨rfl, fun _ => s.startUp_part ▸ Part.loadStep_storeOk s.flash⟩

theorem State.resetWaitEnd_storeSafe (s : State) : s.StoreSafe s.resetWaitEnd := by
  unfold State.resetWaitEnd
  split
  · exact s.startUp_storeSafe
  · exact .refl s

/-- R178: a cut-off write leaves its item with the earlier form or with a damaged one. -/
theorem loadForm_tornForm (item n : Nat) : loadForm item (tornForm item n) = none := by
  have hcheck : (tornForm item n).check ≠ crc8 (byteOf item :: (tornForm item n).bytes) := by
    have hmask : (if Config.tornCheck n = 0 then 1 else Config.tornCheck n) ≠ 0 := by
      split
      · decide
      · assumption
    exact fun h => hmask ((BitVec.xor_right_inj _).1 (h.trans BitVec.xor_zero.symm))
  exact if_neg fun h => hcheck h.2

theorem State.cutWrite_flash (s : State) : s.cutWrite.flash = s.flash ∨ ∃ v e rest f, s.part.store.writing = some v
    ∧ s.part.store.queue = e :: rest ∧ s.cutWrite.flash = setAt s.flash e.item f ∧ loadForm e.item f = none := by
  unfold State.cutWrite
  split
  · next v e rest hw hq =>
    dsimp only
    split
    · exact .inr ⟨v, e, rest, _, hw, hq, rfl, loadForm_tornForm _ _⟩
    · exact .inl rfl
  · exact .inl rfl

/-! ### Every command -/

theorem State.zeroCrossing_storeSafe (s : State) (gap : Nat) : s.StoreSafe (s.onBlocks (fun p => p.zeroCrossing gap)) :=
  State.onBlocks_storeSafe_of_persists (f := fun p => p.zeroCrossing gap) (Part.zeroCrossing_persists gap (.refl _))

/-- Log entry 9: a crossing that closes nothing changes nothing. -/
theorem State.crossingWhere_storeSafe (s : State) (closes : Bool) (gap : Nat) :
    s.StoreSafe (if closes then s.onBlocks (fun p => p.zeroCrossing gap) else s) := by
  split
  · exact s.zeroCrossing_storeSafe gap
  · exact .refl s

/-- R178: of the commands, only a write's completion and a power-on that cuts one off change a stored form. -/
theorem exec_storeSafe {c : Instr} (he : exec c s = .next t) (hpower : c ≠ .powerOnReset)
    (hwrite : c ≠ .storeWriteComplete) : s.StoreSafe t := by
  have r := Part.Persists.refl s.part
  cases c with
  | powerOnReset => contradiction
  | storeWriteComplete => contradiction
  | resetWaitEnd => cases he; exact s.resetWaitEnd_storeSafe
  | rxByte b stopGood => cases he; exact s.receive_storeSafe b stopGood
  | rxGapTimeout => cases he; exact s.receiveGap_storeSafe
  | requestTake => cases he; exact s.take_storeSafe
  | transmitEnd => cases he; exact s.transmitEnd_storeSafe
  | reportTimerExpiry => cases he; exact s.reportExpiry_storeSafe
  | attnReassertEnd => cases he; exact .of_store rfl rfl
  | zeroCrossing gap => cases he; exact s.zeroCrossing_storeSafe gap
  | windowBoundary gap => cases he; exact s.crossingWhere_storeSafe _ gap
  | frequencyMeasured gap => cases he; exact s.crossingWhere_storeSafe _ gap
  | mainsReturn gap => cases he; exact s.crossingWhere_storeSafe _ gap
  | freqMeasureTimeout => cases he; exact State.onBlocks_storeSafe_of_persists (Part.measureTimeout_persists r)
  | mainsLossOnset => cases he; exact State.onBlocks_storeSafe_of_persists (Part.crossingsStop_persists r)
  | flowPulse => cases he; exact ⟨rfl, (Part.flowPulse_persists r).adds.storeOk⟩
  | tachPulse => cases he; exact ⟨rfl, (Part.tachPulse_persists r).adds.storeOk⟩
  | climatePeriodExpiry => cases he; exact State.onBlocks_storeSafe_of_persists (Part.climateExpiry_persists r)
  | pulseTimerTick => cases he; exact State.onBlocks_storeSafe_of_persists (Part.pulseTick_keeps (.refl _)).persists
  | ventDriveTimeout => cases he; exact ⟨rfl, (Part.ventTimeout_persists r).adds.storeOk⟩
  | scanTimerExpiry => cases he; exact State.onBlocks_storeSafe_of_persists (Part.scanTimer_persists r)
  | nodeReply x =>
    cases he
    exact State.onBlocks_storeSafe_of_persists (f := fun p => p.nodeReply x) (Part.nodeReply_persists x r)
  | replyWindowExpiry => cases he; exact State.onBlocks_storeSafe_of_persists (Part.replyMissing_persists r)
  | fillTimeout => cases he; exact State.onBlocks_storeSafe_of_persists (Part.fillTimeout_persists r)
  | drainTimerExpiry => cases he; exact State.onBlocks_storeSafe_of_persists (Part.drainTimeout_persists r)
  | runOnExpiry => cases he; exact State.onBlocks_storeSafe_of_persists (Part.runOnDone_persists r)
  | coolWaitExpiry => cases he; exact State.onBlocks_storeSafe_of_persists (Part.coolWaitDone_persists r)
  | idleDrainExpiry => cases he; exact State.onBlocks_storeSafe_of_persists (Part.idleDrain_persists r)
  | levelDelayExpiry => cases he; exact State.onBlocks_storeSafe_of_persists (Part.levelDelayDone_persists r)
  | lullTimerExpiry => cases he; exact State.onBlocks_storeSafe_of_persists (Part.lullReached_persists r)
  | soakTimerExpiry => cases he; exact State.onBlocks_storeSafe_of_persists (Part.soakDone_keeps (.refl _)).persists
  | stageTimerTick => cases he; exact State.onBlocks_storeSafe_of_persists (Part.stageSecond_persists r)
  | holdTimerExpiry => cases he; exact State.onBlocks_storeSafe_of_persists (Part.holdExpiry_persists r)
  | _ => cases he; exact s.submit_storeSafe _

/-- R178: a write's completion keeps the write queue's invariant. -/
theorem State.writeComplete_storeOk (h : s.part.store.Ok) : s.writeComplete.part.store.Ok := by
  unfold State.writeComplete
  split
  · next v e _ _ _ =>
    exact (State.onBlocks_persists { s with flash := setAt s.flash e.item _ }
      (fun p => { p with store := p.store.completeWrite v })).adds.storeOk (h.completeWrite v)
  · exact h

/-- R178, R179: no command breaks the write queue's invariant. -/
theorem exec_storeOk {c : Instr} (h : s.part.store.Ok) (he : exec c s = .next t) : t.part.store.Ok := by
  by_cases hpower : c = .powerOnReset
  · subst hpower
    cases he
    exact s.powerOn_part ▸ Part.loadStep_storeOk _
  by_cases hwrite : c = .storeWriteComplete
  · subst hwrite
    cases he
    exact State.writeComplete_storeOk h
  exact (exec_storeSafe he hpower hwrite).storeOk h

end

/-- Settles O42, by the invariant of each command and the items of the queue. -/
theorem everyStepKeepsWriteQueue : Obligations.EveryStepKeepsWriteQueue := by
  refine ⟨fun s t h hstep => ?step, fun u h => ⟨h.length_le, h.distinct⟩⟩
  case step =>
    unfold step at hstep
    split at hstep
    · cases hstep; exact h
    · next c rest _ => exact exec_storeOk (s := { s with pending := rest }) h hstep

/-- Settles O40, by the commands that write no item, the completed write and the write that a power-on cuts off. -/
theorem flashChangesOnlyByWrites : Obligations.FlashChangesOnlyByWrites := by
  intro c s t he
  by_cases hpower : c = .powerOnReset
  · subst hpower
    cases he
    have hflash : s.powerOn.flash = s.cutWrite.flash := rfl
    rw [hflash]
    obtain hsame | ⟨v, e, rest, f, hw, hq, hcut, hdamaged⟩ := s.cutWrite_flash
    · exact ⟨congrArg _ hsame, .inl hsame⟩
    · exact ⟨by rw [hcut, setAt_length], .inr ⟨v, e, rest, hw, hq, .inr ⟨rfl, f, hcut, hdamaged⟩⟩⟩
  by_cases hwrite : c = .storeWriteComplete
  · subst hwrite
    have hnext : t = s.writeComplete := by cases he; rfl
    cases hw : s.part.store.writing with
    | none =>
      rw [hnext, State.writeComplete_idle (.inl hw)]
      exact ⟨rfl, .inl rfl⟩
    | some v =>
      cases hq : s.part.store.queue with
      | nil =>
        rw [hnext, State.writeComplete_idle (.inr hq)]
        exact ⟨rfl, .inl rfl⟩
      | cons e rest =>
        have hflash : t.flash = setAt s.flash e.item (storedForm e.item v) := by
          rw [hnext, State.writeComplete_writes hw hq]
          rfl
        exact ⟨by rw [hflash, setAt_length], .inr ⟨v, e, rest, rfl, rfl, .inl ⟨rfl, hflash⟩⟩⟩
  · have hflash := (exec_storeSafe he hpower hwrite).flash
    exact ⟨congrArg _ hflash, .inl hflash⟩

end Sys2Proof.Machine
end

section
/-! SUPPORT. How many bytes each reply carries (R157, R183, section 12.6; O16): the lengths of the records, the replies that
carry no fields, and the reply of every owner. -/

namespace Sys2Proof.Machine

/-! ### Lengths of fields and records (R182, sections 12.4 to 12.6) -/

@[simp] theorem halfBytes_length (h : Half) : (halfBytes h).length = 2 := rfl
@[simp] theorem quadBytes_length (q : Quad) : (quadBytes q).length = 4 := rfl
@[simp] theorem natBytes_length (n : Nat) : (natBytes n).length = 2 := rfl
@[simp] theorem intBytes_length (i : Int) : (intBytes i).length = 2 := rfl

@[simp] theorem readingBytes_length (m : Option Reading) : (readingBytes m).length = 3 := by cases m <;> rfl
@[simp] theorem altBytes_length (m : Option AltReading) : (altBytes m).length = 4 := by cases m <;> rfl
@[simp] theorem identityBytes_length (i : Option Identity) : (identityBytes i).length = 6 := by cases i <;> rfl

/-- R184: a value field is padded and cut to five bytes. -/
@[simp] theorem ItemValue.field_length (v : ItemValue) : v.field.length = 5 := by simp [ItemValue.field]

@[simp] theorem SnapshotEntry.bytes_length (e : SnapshotEntry) : e.bytes.length = 4 := by simp [SnapshotEntry.bytes]

@[simp] theorem snapshotEntries_length (entries : List SnapshotEntry) :
    (snapshotEntries entries).length = 4 * entries.length := by
  induction entries with
  | nil => rfl
  | cons e rest ih => rw [snapshotEntries, List.length_append, ih, e.bytes_length, List.length_cons]; omega

@[simp] theorem nodeCounts_length (nodes : List NodeEntry) : (nodeCounts nodes).length = 4 * nodes.length := by
  induction nodes with
  | nil => rfl
  | cons n rest ih => simp only [nodeCounts, List.length_append, natBytes_length, ih, List.length_cons]; omega

theorem Part.pingBytes_length (p : Part) : p.pingBytes.length = 8 := rfl

theorem Part.statusBytes_length (p : Part) (number : Nat) : (p.statusBytes number).length = 67 := rfl

theorem Store.settingBytes_length (u : Store) (item : Nat) : (u.settingBytes item).length = 8 := by
  simp [Store.settingBytes]

theorem Part.scaleBytes_length (p : Part) : p.scaleBytes.length = 15 := rfl

theorem Descale.bytes_length (d : Descale) (remaining : Nat) : (d.bytes remaining).length = 11 := rfl

theorem Part.faultBytes_length (p : Part) : p.faultBytes.length = 7 := rfl

theorem Ring.nodeBytes_length (r : Ring) (address : Nat) : (r.nodeBytes address).length = 33 := by
  simp [Ring.nodeBytes]

/-- R164: the counts of twelve entries stand between the other counters. -/
theorem Part.counterBytes_length {p : Part} (h : p.ring.nodes.length = 12) : p.counterBytes.length = 56 := by
  simp [Part.counterBytes, h]

/-- Section 12.6: a held snapshot of twelve entries fills the bytes that are zero where none is held. -/
theorem Capture.bytes_length {c : Capture} (h : ∀ x, c.snapshot = some x → x.entries.length = 12) :
    c.bytes.length = 57 := by
  have hsnapshot : (snapshotBytes c.snapshot).length = 52 := by
    cases hx : c.snapshot with
    | none => rfl
    | some x => simp [snapshotBytes, h x hx]
  simp [Capture.bytes, hsnapshot]

/-! ### Requests whose reply is its code alone (R157) -/

/-- R157: whatever the owner answers, no fields follow the result code. -/
def AnswersBare (r : Part × Reply) : Prop := r.2.fields = []

theorem answersBare_bare (p : Part) (c : ResultCode) : AnswersBare (p, .bare c) := rfl

section
variable (p : Part)

theorem Part.settingPut_bare (item : Byte) (v : ValueField) : AnswersBare (p.settingPut item v) := by
  unfold Part.settingPut
  dsimp only
  repeat' split
  all_goals rfl

theorem Part.storeDefaults_bare : AnswersBare p.storeDefaults := by
  unfold Part.storeDefaults
  split <;> rfl

theorem Part.climateSet_bare (b : ClimateBlock) : AnswersBare (p.climateSet b) := by
  unfold Part.climateSet
  repeat' split
  all_goals rfl

theorem Part.climateOff_bare : AnswersBare p.climateOff := by
  unfold Part.climateOff
  split <;> rfl

theorem Part.programClear_bare (action : Byte) (setpoint : Half) (moist : Byte) :
    AnswersBare (p.programClear action setpoint moist) := by
  unfold Part.programClear
  repeat' split
  all_goals rfl

theorem Part.stageAppend_bare (b : StageBlock) : AnswersBare (p.stageAppend b) := by
  unfold Part.stageAppend
  repeat' split
  all_goals rfl

theorem Part.programStart_bare (presence index : Byte) : AnswersBare (p.programStart presence index) := by
  unfold Part.programStart
  split
  · rfl
  · dsimp only
    split <;> rfl

theorem Part.programPause_bare : AnswersBare p.programPause := by
  unfold Part.programPause
  split <;> rfl

theorem Part.resumeRequest_bare : AnswersBare p.resumeRequest := by
  unfold Part.resumeRequest
  split <;> rfl

theorem Part.abortRequest_bare : AnswersBare p.abortRequest := by
  unfold Part.abortRequest
  split <;> rfl

theorem Part.stageConfirm_bare : AnswersBare p.stageConfirm := by
  unfold Part.stageConfirm
  repeat' split
  all_goals rfl

theorem Part.stageSkip_bare : AnswersBare p.stageSkip := by
  unfold Part.stageSkip
  split <;> rfl

theorem Part.boilerDrain_bare : AnswersBare p.boilerDrain := by
  unfold Part.boilerDrain
  repeat' split
  all_goals rfl

theorem Part.descaleStart_bare (presence minutes : Byte) : AnswersBare (p.descaleStart presence minutes) := by
  unfold Part.descaleStart
  repeat' split
  all_goals rfl

theorem Part.descaleConfirm_bare : AnswersBare p.descaleConfirm := by
  unfold Part.descaleConfirm
  repeat' split
  all_goals rfl

theorem Part.abortDescale_bare : AnswersBare p.abortDescale := by
  unfold Part.abortDescale
  dsimp only
  split <;> rfl

theorem Part.holdEnter_bare (setpoint : Half) (moist : Byte) : AnswersBare (p.holdEnter setpoint moist) := by
  unfold Part.holdEnter
  repeat' split
  all_goals rfl

theorem Part.holdExit_bare (abandon : Byte) : AnswersBare (p.holdExit abandon) := by
  unfold Part.holdExit
  split
  · rfl
  · split <;> rfl

theorem Part.standbyEnter_bare : AnswersBare p.standbyEnter := by
  unfold Part.standbyEnter
  split <;> rfl

theorem Part.faultClear_bare (kind : Byte) : AnswersBare (p.faultClear kind) := by
  unfold Part.faultClear
  repeat' split
  all_goals rfl

theorem Part.nodeSet_bare (address masked selector watch : Byte) (threshold : Half) :
    AnswersBare (p.nodeSet address masked selector watch threshold) := by
  unfold Part.nodeSet
  dsimp only
  repeat' split
  all_goals rfl

theorem Part.captureArm_bare (trigger : Half) (style : Byte) : AnswersBare (p.captureArm trigger style) := by
  rw [Part.captureArm_eq]
  split <;> rfl

theorem Part.captureRelease_bare (disarm : Byte) : AnswersBare (p.captureRelease disarm) := by
  rw [Part.captureRelease_eq]
  split <;> rfl

end

/-! ### The reply of every request (R157, R183) -/

/-- R183: how many bytes of fields follow the result code of a request that is carried out, by its kind. -/
def ReqKind.fieldCount : ReqKind → Nat
  | .ping => 8 | .statusGet => 67 | .linkStats => 3 | .settingGet => 8 | .stageGet => 26 | .scaleGet => 15
  | .descaleGet => 11 | .faultGet => 7 | .nodeGet => 33 | .counterGet => 56 | .noticeGet => 4 | .noticeEnable => 4
  | .captureGet => 57 | _ => 0

/-- R157, R183: where the request was carried out its reply carries `n` bytes of fields. -/
def Reply.Carries (r : Reply) (n : Nat) : Prop := carriedOut r.code = true → r.fields.length = n

theorem Reply.carries_of_length {r : Reply} {n : Nat} (h : r.fields.length = n) : r.Carries n := fun _ => h

theorem Reply.carries_of_refused {r : Reply} (h : carriedOut r.code = false) (n : Nat) : r.Carries n :=
  fun hc => absurd (h.symm.trans hc) (by decide)

theorem AnswersBare.carries {r : Part × Reply} (h : AnswersBare r) : r.2.Carries 0 :=
  fun _ => congrArg List.length h

/-- R176: an unknown item has no record. -/
theorem Part.settingGet_carries (p : Part) (item : Byte) : (p.settingGet item).2.Carries 8 := by
  unfold Part.settingGet
  split
  · exact Reply.carries_of_refused rfl 8
  · exact Reply.carries_of_length (p.store.settingBytes_length _)

/-- R120: an index without a stage has no record. -/
theorem Part.stageGet_carries (p : Part) (index : Byte) : (p.stageGet index).2.Carries 26 := by
  unfold Part.stageGet
  split
  · exact Reply.carries_of_length (by simp [Reply.okWith, stageBytes_length])
  · exact Reply.carries_of_refused rfl 26

/-- R57: an address outside the ring has no record. -/
theorem Part.nodeGet_carries (p : Part) (address : Byte) : (p.nodeGet address).2.Carries 33 := by
  unfold Part.nodeGet
  split
  · exact Reply.carries_of_length (p.ring.nodeBytes_length _)
  · exact Reply.carries_of_refused rfl 33

/-- R59, R164: an unformed flag is refused. -/
theorem Part.counterGet_carries {p : Part} (h : p.ring.nodes.length = 12) (zero : Byte) :
    (p.counterGet zero).2.Carries 56 := by
  unfold Part.counterGet
  split
  · exact Reply.carries_of_refused rfl 56
  · exact Reply.carries_of_length (Part.counterBytes_length h)

theorem State.acting_reply (s : State) (r : Part × Reply) : (s.acting r).2 = r.2 := by
  unfold State.acting
  split <;> rfl

/-- R157: whether or not other blocks follow, a reply without fields is its code alone. -/
theorem State.acting_carries (s : State) {r : Part × Reply} (h : AnswersBare r) : (s.acting r).2.Carries 0 :=
  s.acting_reply r ▸ h.carries

/-- R156, R183: the owner of every kind answers with the fields of that kind. -/
theorem State.serve_carries {s : State} (hnodes : s.part.ring.nodes.length = 12)
    (hsnapshot : ∀ x, s.part.capture.snapshot = some x → x.entries.length = 12) (q : Request) :
    (s.serve q).2.Carries (requestKind q).fieldCount := by
  cases q with
  | ping => exact Reply.carries_of_length s.part.pingBytes_length
  | statusGet => exact Reply.carries_of_length (s.part.statusBytes_length _)
  | linkStats => exact Reply.carries_of_length rfl
  | settingGet item => exact s.part.settingGet_carries item
  | stageGet index => exact s.part.stageGet_carries index
  | scaleGet => exact Reply.carries_of_length s.part.scaleBytes_length
  | descaleGet => exact Reply.carries_of_length (s.part.descale.bytes_length _)
  | faultGet => exact Reply.carries_of_length s.part.faultBytes_length
  | nodeGet address => exact s.part.nodeGet_carries address
  | counterGet zero => exact Part.counterGet_carries hnodes zero
  | noticeGet | noticeEnable => exact Reply.carries_of_length rfl
  | captureGet => exact Reply.carries_of_length (Capture.bytes_length hsnapshot)
  | reset => exact Reply.carries_of_length rfl
  | programClear action setpoint moist => exact (s.part.programClear_bare action setpoint moist).carries
  | stageAppend b => exact (s.part.stageAppend_bare b).carries
  | captureArm trigger style => exact (s.part.captureArm_bare trigger style).carries
  | captureRelease disarm => exact (s.part.captureRelease_bare disarm).carries
  | settingPut item v => exact s.acting_carries (s.part.settingPut_bare item v)
  | storeDefaults => exact s.acting_carries s.part.storeDefaults_bare
  | climateSet b => exact s.acting_carries (s.part.climateSet_bare b)
  | climateOff => exact s.acting_carries s.part.climateOff_bare
  | programStart presence index => exact s.acting_carries (s.part.programStart_bare presence index)
  | programPause => exact s.acting_carries s.part.programPause_bare
  | programResume => exact s.acting_carries s.part.resumeRequest_bare
  | programAbort => exact s.acting_carries s.part.abortRequest_bare
  | stageConfirm => exact s.acting_carries s.part.stageConfirm_bare
  | stageSkip => exact s.acting_carries s.part.stageSkip_bare
  | boilerDrain => exact s.acting_carries s.part.boilerDrain_bare
  | descaleStart presence minutes => exact s.acting_carries (s.part.descaleStart_bare presence minutes)
  | descaleConfirm => exact s.acting_carries s.part.descaleConfirm_bare
  | descaleAbort => exact s.acting_carries s.part.abortDescale_bare
  | holdEnter setpoint moist => exact s.acting_carries (s.part.holdEnter_bare setpoint moist)
  | holdExit abandon => exact s.acting_carries (s.part.holdExit_bare abandon)
  | standbyEnter => exact s.acting_carries s.part.standbyEnter_bare
  | stop => exact s.acting_carries (answersBare_bare s.part.stopped .ok)
  | faultClear kind => exact s.acting_carries (s.part.faultClear_bare kind)
  | nodeSet address masked selector watch threshold =>
    exact s.acting_carries (s.part.nodeSet_bare address masked selector watch threshold)

/-- R138: of the kinds that a mode does not admit only a repeated STANDBY_ENTER is answered OK, and it has no fields. -/
theorem modeCode_carries (m : OpMode) (k : ReqKind) : Reply.Carries ⟨modeCode m k, []⟩ k.fieldCount := by
  cases m with
  | standbyPending =>
    by_cases hk : k = .standbyEnter
    · subst hk
      exact Reply.carries_of_length rfl
    · exact Reply.carries_of_refused (by rw [modeCode, if_neg hk]; rfl) _
  | starting | active | hold | standby | safeStop => exact Reply.carries_of_refused rfl _

/-- R156, R183: admitted or not, a request is answered with a reply that carries the fields of its kind. -/
theorem exec_carries {s t : State} {q : Request} (hl : s.listening) (hnodes : s.part.ring.nodes.length = 12)
    (hsnapshot : ∀ x, s.part.capture.snapshot = some x → x.entries.length = 12) (he : exec q.command s = .next t) :
    ∃ r : Reply, t.link.sending = .reply (replyFrame (requestKind q).code r)
      ∧ r.Carries (requestKind q).fieldCount := by
  by_cases ha : s.admits q
  · have hserved := he.symm.trans (exec_served hl ha)
    cases hserved
    exact ⟨_, rfl, State.serve_carries (s := s.taken q) hnodes hsnapshot q⟩
  · have hunadmitted := he.symm.trans (exec_unadmitted hl ha)
    cases hunadmitted
    exact ⟨_, rfl, modeCode_carries _ _⟩

/-- R157: a reply's first byte is 0 or 1 where the request was carried out. -/
theorem resultByte_carriedOut_iff (c : ResultCode) :
    resultByte c = 0x00 ∨ resultByte c = 0x01 ↔ carriedOut c = true := by
  cases c <;> decide

/-- R157: the length of a reply, by its first byte. -/
theorem Reply.Carries.replyFrame_length {r : Reply} {n : Nat} (h : r.Carries n) (kind : Byte) :
    let payload := (replyFrame kind r).payload
    payload.length = if payload.head? = some 0x00 ∨ payload.head? = some 0x01 then n + 1 else 1 := by
  simp only [replyFrame, List.head?_cons, Option.some.injEq, resultByte_carriedOut_iff, List.length_cons]
  split
  · next hc => rw [h hc]
  · rfl

/-- Settles O16, by the fields that the reply of each kind carries. -/
theorem replyLengths : Obligations.ReplyLengths := by
  intro s t q f hl hnodes hsnapshot he hs
  obtain ⟨r, hr, hcarries⟩ := exec_carries hl hnodes hsnapshot he
  obtain rfl : replyFrame (requestKind q).code r = f := Sending.reply.inj (hr.symm.trans hs)
  refine ⟨rfl, (hcarries.replyFrame_length (requestKind q).code).trans ?_⟩
  congr 1
  cases requestKind q <;> rfl

end Sys2Proof.Machine
end

section
/-! SUPPORT. The queue of commands (O1, O2; log entries 6 and 31): no command changes the commands that wait behind
it, and every command answers a next state. -/

namespace Sys2Proof.Machine

/-- Settles O1: a step takes the front command off the queue. -/
theorem stepRunsFrontCommand : Obligations.StepRunsFrontCommand := fun _ _ _ => rfl

section
variable (s : State)

/-! ### Requests (R155, R156) -/

@[simp] theorem State.woken_pending : s.woken.pending = s.pending := by
  unfold State.woken
  split <;> rfl

@[simp] theorem State.acting_pending (r : Part × Reply) : (s.acting r).1.pending = s.pending := by
  unfold State.acting
  split <;> rfl

/-- R156: an owner acts on the blocks and the link alone. -/
@[simp] theorem State.serve_pending (q : Request) : (s.serve q).1.pending = s.pending := by
  cases q with
  | settingPut | storeDefaults | climateSet | climateOff | programStart | programPause | programResume | programAbort
  | stageConfirm | stageSkip | boilerDrain | descaleStart | descaleConfirm | descaleAbort | holdEnter | holdExit
  | standbyEnter | stop | faultClear | nodeSet => exact s.acting_pending _
  | _ => rfl

@[simp] theorem State.answer_pending (f : Frame) : (s.answer f).1.pending = s.pending := by
  unfold State.answer
  repeat' split
  · rfl
  · rfl
  · rfl
  · exact s.serve_pending _
  · rfl

@[simp] theorem State.judging_pending (f : Frame) (rest : List Frame) : (s.judging f rest).pending = s.pending :=
  State.woken_pending _

@[simp] theorem State.handle_pending (f : Frame) (rest : List Frame) : (s.handle f rest).pending = s.pending :=
  ((s.judging f rest).answer_pending f).trans (s.judging_pending f rest)

@[simp] theorem State.offer_pending (f : Frame) : (s.offer f).pending = s.pending := by
  unfold State.offer
  split
  · exact State.woken_pending _
  · rfl

@[simp] theorem State.submit_pending (q : Request) : (s.submit q).pending = s.pending := by
  unfold State.submit
  repeat' split
  · rfl
  · exact s.handle_pending _ _
  · exact s.offer_pending _

@[simp] theorem State.take_pending : s.take.pending = s.pending := by
  unfold State.take
  repeat' split
  · rfl
  · exact s.handle_pending _ _
  · rfl

/-! ### The receiver and the transmitter (R153, R154, R159, R160, R165) -/

@[simp] theorem State.judgeFrame_pending (got : List Byte) : (s.judgeFrame got).pending = s.pending := by
  unfold State.judgeFrame
  dsimp only
  repeat' split
  · exact s.offer_pending _
  · rfl
  · rfl

@[simp] theorem State.assemble_pending (got : List Byte) (b : Byte) : (s.assemble got b).pending = s.pending := by
  unfold State.assemble
  repeat' split
  · rfl
  · exact State.judgeFrame_pending { s with link.receiver := .hunt } _
  · rfl

@[simp] theorem State.receive_pending (b : Byte) (stopGood : Bool) : (s.receive b stopGood).pending = s.pending := by
  unfold State.receive
  repeat' split
  case h_2.isTrue => exact s.assemble_pending _ b
  all_goals rfl

@[simp] theorem State.receiveGap_pending : s.receiveGap.pending = s.pending := by
  unfold State.receiveGap
  split <;> rfl

@[simp] theorem State.transmitterFree_pending : s.transmitterFree.pending = s.pending := by
  unfold State.transmitterFree
  split <;> rfl

@[simp] theorem State.replyEnd_pending : s.replyEnd.pending = s.pending := by
  unfold State.replyEnd
  dsimp only
  split
  · rfl
  · exact State.transmitterFree_pending _

@[simp] theorem State.reportEnd_pending : s.reportEnd.pending = s.pending := by
  unfold State.reportEnd
  split
  · rfl
  · exact s.transmitterFree_pending

@[simp] theorem State.transmitEnd_pending : s.transmitEnd.pending = s.pending := by
  unfold State.transmitEnd
  split
  · rfl
  · exact s.replyEnd_pending
  · exact s.reportEnd_pending

@[simp] theorem State.reportExpiry_pending : s.reportExpiry.pending = s.pending := by
  unfold State.reportExpiry
  dsimp only
  repeat' split
  all_goals rfl

/-! ### Resets, stored items and crossings (R165, R178, R181; log entry 9) -/

@[simp] theorem State.powerOn_pending : s.powerOn.pending = s.pending := by
  have hcut : s.cutWrite.pending = s.pending := by
    unfold State.cutWrite
    split <;> rfl
  exact hcut

@[simp] theorem State.resetWaitEnd_pending : s.resetWaitEnd.pending = s.pending := by
  unfold State.resetWaitEnd
  split <;> rfl

@[simp] theorem State.writeComplete_pending : s.writeComplete.pending = s.pending := by
  unfold State.writeComplete
  split <;> rfl

/-- Log entry 9: a crossing that closes nothing changes nothing. -/
theorem State.crossingWhere_pending (closes : Bool) (gap : Nat) :
    (if closes then s.onBlocks (fun p => p.zeroCrossing gap) else s).pending = s.pending := by
  split <;> rfl

/-! ### Every command -/

/-- Log entry 31: every command answers a next state, in which the same commands wait. -/
theorem exec_next (c : Instr) : ∃ t, exec c s = .next t ∧ t.pending = s.pending := by
  cases c with
  | powerOnReset => exact ⟨_, rfl, s.powerOn_pending⟩
  | resetWaitEnd => exact ⟨_, rfl, s.resetWaitEnd_pending⟩
  | rxByte b stopGood => exact ⟨_, rfl, s.receive_pending b stopGood⟩
  | rxGapTimeout => exact ⟨_, rfl, s.receiveGap_pending⟩
  | requestTake => exact ⟨_, rfl, s.take_pending⟩
  | transmitEnd => exact ⟨_, rfl, s.transmitEnd_pending⟩
  | reportTimerExpiry => exact ⟨_, rfl, s.reportExpiry_pending⟩
  | storeWriteComplete => exact ⟨_, rfl, s.writeComplete_pending⟩
  | windowBoundary gap => exact ⟨_, rfl, s.crossingWhere_pending _ gap⟩
  | frequencyMeasured gap => exact ⟨_, rfl, s.crossingWhere_pending _ gap⟩
  | mainsReturn gap => exact ⟨_, rfl, s.crossingWhere_pending _ gap⟩
  | attnReassertEnd | flowPulse | tachPulse | ventDriveTimeout => exact ⟨_, rfl, rfl⟩
  | zeroCrossing | freqMeasureTimeout | mainsLossOnset | climatePeriodExpiry | pulseTimerTick | scanTimerExpiry | nodeReply
  | replyWindowExpiry | fillTimeout | drainTimerExpiry | runOnExpiry | coolWaitExpiry | idleDrainExpiry
  | levelDelayExpiry | lullTimerExpiry | soakTimerExpiry | stageTimerTick | holdTimerExpiry =>
    exact ⟨_, rfl, s.onBlocks_pending _⟩
  | _ => exact ⟨_, rfl, s.submit_pending _⟩

end

/-- Log entry 6: with no command waiting the part idles. -/
theorem step_idle {s : State} (h : s.pending = []) : step s = .next s := by
  rw [step, h]

/-- Settles O2, by what each command leaves waiting and the step with an empty queue. -/
theorem everyCommandAnswersNext : Obligations.EveryCommandAnswersNext :=
  ⟨fun c s => exec_next s c, fun _ h => step_idle h⟩

end Sys2Proof.Machine
end
